-- ==== Sys2Proof/Word.lean ====
section
/-! DEFINITION. The byte and word types of the CX880 model, and byte strings. -/

namespace Sys2Proof

/-- One byte. -/
abbrev Byte := BitVec 8

/-- A 16-bit value as a register field or a structure field holds it. -/
abbrev Half := BitVec 16

/-- A 32-bit register. -/
abbrev Word := BitVec 32

/-- A 64-bit register or address. -/
abbrev DWord := BitVec 64

/-- A byte string, first byte first. -/
abbrev Bytes := List Byte

/-- The index of a channel, 0 to 15. -/
abbrev Ch := Fin 16

end Sys2Proof
end

