-- ==== Sys2Proof/Syntax.lean ====
section
/-! DEFINITION. The commands of the CX880 block: one constructor for each row of spec/opcode_table.json. An operand is
either something the sender chooses or something the physical world supplies (a sensed value, a read that fails). -/

namespace Sys2Proof

/-- A Kenten core: 0 to 15 the channels', 16 management's. -/
abbrev Core := Fin 17


/-- What step 2 of the power-up sequence finds (R549): whether the safety controller passes its self-test, and whether the link
entropy source passes the start-up tests that proofing applies (R10, R312). -/
structure StartUp where
  selfTest : Bool := true
  entropy : Bool := true
  deriving DecidableEq, Repr

/-- A frame of the die-to-die link (R9): its port, the enciphered payload and the tag. -/
structure LinkFrame where
  port : Half
  data : Bytes
  tag : Bytes
  deriving DecidableEq, Repr

/-- A fault of one function's slice (R18): ring-state parity 0, DMA mover 1, MSI-X parity 2; and what CH_FAULT_INFO captures of it: the
ring-state word that failed and its ring pair. -/
structure SliceError where
  kind : Fin 3
  value : Half := 0
  pair : Fin 4 := 0
  deriving DecidableEq, Repr

/-- What a channel boot finds in its hardware and in host memory. -/
structure BootSeen where
  /-- What the pass over journal and stage meets (R69): words corrected, with the bit, and words that are uncorrectable. -/
  corrected : List (Nat × Nat) := []
  uncorrectable : List Nat := []
  /-- Bytes of journal and stage that read otherwise than they were written, under check bits that agree. -/
  flips : List (Nat × Byte) := []
  /-- Failing rows of the memory test: bank, row, word address, bit. -/
  rows : List (Fin 9 × Nat × Nat × Nat) := []
  /-- The signature of an overdue logic BIST, when it is wrong. -/
  signature : Option (Nat × Nat) := none
  /-- A known-answer test fails; a checker fails CHECK; a digest of the fast restart differs. -/
  kat : Bool := false
  check : Bool := false
  digest : Bool := false
  /-- Key slots whose copy in the parameter sectors does not authenticate, by selector. -/
  slots : List Nat := []
  /-- The 256 KiB of the tree image, when its read succeeds. -/
  image : Option Bytes := none
  /-- Time since the reset was released, in µs. -/
  micros : Nat := 0
  deriving DecidableEq, Repr

/-- What a custodian card answers in one transaction (R528): a failed block, the PIN's outcome, and what it gives out. -/
structure CardAnswer where
  failed : Bool := false
  pinOk : Bool := true
  tries : Nat := 5
  /-- Card serial and public key, as GET_INFO gives them. -/
  serial : Bytes := []
  pub : Bytes := []
  /-- The card answers its command with a status word other than 0x9000. -/
  refused : Bool := false
  /-- The 33-byte share of GET_SHARE. -/
  share : Bytes := []
  /-- The card's index in the set, and r then s of its signature. -/
  index : Fin 16 := 0
  sig : Bytes := []
  deriving DecidableEq, Repr

/-- What the part finds in an SD card: S18A, a passing tuning window and its tap, high speed, and the objects of its
volume when block 0 carries MAGIC. -/
structure SdSeen where
  s18a : Bool := false
  window : Option Nat := none
  /-- The fastest UHS-I mode the card offers with S18A: 0 SDR12, 1 SDR25, 2 SDR50, 3 SDR104. -/
  uhs : Fin 4 := 3
  highSpeed : Bool := false
  volume : Option (List (Nat × Bytes)) := none
  deriving DecidableEq, Repr

/-- Where a register lies: a function's BAR0 (0 management, n + 1 channel n), or a core's peripheral range. -/
inductive RegSpace where
  | func (fn : Fin 17)
  | core (unit : Core)
  deriving DecidableEq, Repr

/-- What the tamper monitor sees in its samples: a source whose rule is met, with its detail; or, at the far end of a line, the two
wires at a step of the command's samples. Lines 0 to 135 are pair `line % 8` of crust segment `line / 8`, lines 136 to 139 the mesh
loops, which have one wire (R433, R435). A line that is not listed at a step carries what its generator drives. -/
inductive TamperSense where
  | source (src : Nat) (detail : Nat)
  | wires (line : Fin 140) (step : Nat) (a b : Bool)
  deriving DecidableEq, Repr

/-- What goes with a KEYLOAD, START or AAD command of the cipher engine: its IRQ bit, and whether the two datapaths disagree on a block
that the command computes (R217). -/
structure CxMark where
  irq : Bool := false
  fault : Bool := false
  deriving DecidableEq, Repr


/-- The commands of the block, one constructor for each row of the opcode table. -/
inductive Instr where
  /-- MAIN_POWER_APPLY (R549). -/
  | mainPowerApply (start : StartUp)
  /-- SUPPLY_FALL (R436). -/
  | supplyFall
  /-- SUPPLY_RECOVER (R436). -/
  | supplyRecover (rail : Byte)
  /-- MAIN_POWER_LOSS (R436). -/
  | mainPowerLoss
  /-- LINK_TRAIN (R10). -/
  | linkTrain
  /-- LINK_TRAIN_TIMEOUT (R12). -/
  | linkTrainTimeout
  /-- LINK_TRAIN_RETRY (R12). -/
  | linkTrainRetry (trained : Bool)
  /-- LINK_FRAME_RECEIVE (R11). -/
  | linkFrameReceive (toKeep : Bool) (frame : LinkFrame)
  /-- TAMPER_ARM (R450). -/
  | tamperArm (met : List TamperSense) (micros : Nat)
  /-- CHANNEL_RESET_RELEASE (R549). -/
  | channelResetRelease (ch : Ch)
  /-- CHANNEL_BOOT (R551). -/
  | channelBoot (ch : Ch) (seen : BootSeen)
  /-- ROOT_LOAD_RETRY (R152). -/
  | rootLoadRetry (ch : Ch) (image : Option Bytes) (flips : List (Nat × Byte)) (micros : Nat)
  /-- PROOFING (R312). -/
  | proofing (ch : Ch) (alarm : Option (Fin 16)) (rct : Bool)
  /-- WAIT_MGMT_RETRY (R21). -/
  | waitMgmtRetry (ch : Ch)
  /-- MANAGEMENT_BOOT (R409). -/
  | managementBoot (torn0 torn1 : List Bytes)
  /-- MANAGEMENT_RESET (R547). -/
  | managementReset
  /-- MGMT_WATCHDOG_EXPIRY (R547). -/
  | mgmtWatchdogExpiry
  /-- WARM_RESET (R547). -/
  | warmReset
  /-- PERST_ASSERT (R547). -/
  | perstAssert
  /-- PERST_DEASSERT (R550). -/
  | perstDeassert
  /-- CONFIG_REQUEST (R550). -/
  | configRequest (fn : Fin 17)
  /-- FUNCTION_LEVEL_RESET (R35). -/
  | functionLevelReset (ch : Ch)
  /-- FLR_MGMT_FUNCTION (R35). -/
  | flrMgmtFunction
  /-- D3HOT_ENTRY (R546). -/
  | d3hotEntry (fn : Fin 17)
  /-- D0_RETURN (R546). -/
  | d0Return (fn : Fin 17)
  /-- HEARTH_SLICE_FAULT (R18). -/
  | hearthSliceFault (fn : Fin 17) (fault : SliceError)
  /-- HEARTH_LINK_DOWN (R18). -/
  | hearthLinkDown
  /-- HEARTH_RECOVER (R18). -/
  | hearthRecover
  /-- REGISTER_WRITE (R31). -/
  | registerWrite (space : RegSpace) (off : Nat) (data : Bytes)
  /-- CH_CTRL_WRITE (R37). -/
  | chCtrlWrite (ch : Ch) (value : Word)
  /-- WINDOW_LOCK (R36). -/
  | windowLock (fn : Fin 17)
  /-- RING_ENABLE (R38). -/
  | ringEnable (ch : Ch) (pair : Fin 4) (value : Word)
  /-- RING_DISABLE (R38). -/
  | ringDisable (ch : Ch) (pair : Fin 4) (value : Word)
  /-- RING_VEC_WRITE (R38). -/
  | ringVecWrite (ch : Ch) (pair : Fin 4) (value : Word)
  /-- SQ_DOORBELL_TAIL (R41). -/
  | sqDoorbellTail (ch : Ch) (q : Fin 4) (value : Word)
  /-- SQ_DOORBELL_INLINE (R40). -/
  | sqDoorbellInline (ch : Ch) (q : Fin 4) (entry : Bytes)
  /-- SQ_DOORBELL_INLINE_PARTIAL (R39). -/
  | sqDoorbellInlinePartial (ch : Ch) (q : Fin 4) (off len : Nat)
  /-- CQ_HEAD_WRITE (R42). -/
  | cqHeadWrite (ch : Ch) (q : Fin 4) (value : Word)
  /-- JOB_CLAIM (R45). -/
  | jobClaim (ch : Ch) (h0 h1 h2 h3 : Option Bytes)
  /-- DMA_READ_DONE (R29). -/
  | dmaReadDone (ch : Ch) (jidx field : Nat) (data : Option Bytes)
  /-- JOB_COMMIT (R65). -/
  | jobCommit (ch : Ch) (jidx : Nat)
  /-- BATTERY_TRANSACTION_DONE (R65). -/
  | batteryTransactionDone (ch : Ch)
  /-- STAGED_WRITES_SEND (R66). -/
  | stagedWritesSend (ch : Ch) (jidx : Nat)
  /-- WRITE_ACKNOWLEDGED (R63). -/
  | writeAcknowledged (fn : Fin 17)
  /-- COMPLETION_POST (R43). -/
  | completionPost (ch : Ch) (jidx : Nat)
  /-- CQ_COALESCE_TIMEOUT (R55). -/
  | cqCoalesceTimeout (ch : Ch) (q : Fin 4)
  /-- MAILBOX_GO (R58). -/
  | mailboxGo
  /-- MAILBOX_TAKE_UP (R58). -/
  | mailboxTakeUp (request : Option Bytes)
  /-- MAILBOX_TIMEOUT (R59). -/
  | mailboxTimeout
  /-- EVENT_PORT_CRUMB (R20). -/
  | eventPortCrumb (ch : Ch) (code : Half) (p0 p1 p2 p3 : Word)
  /-- EVENT_PORT_DELIVER (R20). -/
  | eventPortDeliver (ch : Ch)
  /-- AON_QUEUE_DELIVER (R20). -/
  | aonQueueDeliver
  /-- UPDATE_PORT_GRANT (R23). -/
  | updatePortGrant (ch : Ch)
  /-- UPDATE_PORT_REVOKE (R23). -/
  | updatePortRevoke (ch : Ch)
  /-- COMMIT_LIST (R79). -/
  | commitList (ch : Ch) (jidx : Nat)
  /-- COMMIT_RECOVER (R80). -/
  | commitRecover (ch : Ch) (jidx : Nat)
  /-- JOURNAL_LIST (R81). -/
  | journalList (ch : Ch) (jidx : Nat)
  /-- UNPROTECT (R93). -/
  | unprotect (ch : Ch) (jidx : Nat)
  /-- UNPROTECT_SEQ (R95). -/
  | unprotectSeq (ch : Ch) (jidx : Nat)
  /-- PROTECT (R96). -/
  | protect (ch : Ch) (jidx : Nat)
  /-- PROTECT_BROADCAST (R99). -/
  | protectBroadcast (ch : Ch) (jidx : Nat)
  /-- PROTECT_DISCONNECT (R101). -/
  | protectDisconnect (ch : Ch) (jidx : Nat)
  /-- KEY_TRANSPORT (R110). -/
  | keyTransport (ch : Ch) (jidx : Nat)
  /-- KEY_ACTIVATE (R111). -/
  | keyActivate (ch : Ch) (jidx : Nat)
  /-- KEY_DISCARD (R111). -/
  | keyDiscard (ch : Ch) (jidx : Nat)
  /-- DEDICATED_RELEASE (R111). -/
  | dedicatedRelease (ch : Ch) (jidx : Nat)
  /-- GOVERNOR_STATUS (R106). -/
  | governorStatus (ch : Ch) (jidx : Nat)
  /-- TOKEN_CHALLENGE (R108). -/
  | tokenChallenge (ch : Ch) (jidx : Nat)
  /-- TOKEN_APPLY (R109). -/
  | tokenApply (ch : Ch) (jidx : Nat)
  /-- GOVERNOR_LOWER (R107). -/
  | governorLower (ch : Ch) (jidx : Nat)
  /-- GRANT_AGE_OUT (R102). -/
  | grantAgeOut (ch : Ch)
  /-- CHALLENGE_EXPIRY (R108). -/
  | challengeExpiry (ch : Ch)
  /-- TOKEN_EXPIRY (R109). -/
  | tokenExpiry (ch : Ch)
  /-- PROMOTION_HOLD_END (R106). -/
  | promotionHoldEnd (ch : Ch)
  /-- RECIPE_LOAD (R120). -/
  | recipeLoad (ch : Ch) (jidx : Nat)
  /-- RECIPE_LIST (R127). -/
  | recipeList (ch : Ch) (jidx : Nat)
  /-- RECIPE_REMOVE (R126). -/
  | recipeRemove (ch : Ch) (jidx : Nat)
  /-- RECIPE_VERSION_DRAINED (R125). -/
  | recipeVersionDrained (ch : Ch)
  /-- FRAME_UNIT_GO (R131). -/
  | frameUnitGo (ch : Ch)
  /-- FRAME_UNIT_PHASE_DONE (R116). -/
  | frameUnitPhaseDone (ch : Ch)
  /-- RECORD_IMPORT (R162). -/
  | recordImport (ch : Ch) (jidx : Nat)
  /-- RECORD_REWRAP (R164). -/
  | recordRewrap (ch : Ch) (jidx : Nat)
  /-- RECORD_ROTATE (R165). -/
  | recordRotate (ch : Ch) (jidx : Nat)
  /-- RECORD_RETIRE (R166). -/
  | recordRetire (ch : Ch) (jidx : Nat)
  /-- SHARD_CREATE (R167). -/
  | shardCreate (ch : Ch) (jidx : Nat)
  /-- TREE_IMAGE (R168). -/
  | treeImage (ch : Ch) (jidx : Nat)
  /-- SHARD_STATUS (R169). -/
  | shardStatus (ch : Ch) (jidx : Nat)
  /-- ROOT_BACKUP (R155). -/
  | rootBackup (ch : Ch)
  /-- TREE_CHECKPOINT (R157). -/
  | treeCheckpoint (ch : Ch)
  /-- KEEP_PREFERENCE_EXPIRY (R142). -/
  | keepPreferenceExpiry (ch : Ch)
  /-- SIG_VERIFY (R197). -/
  | sigVerify (ch : Ch) (jidx : Nat)
  /-- RSA_VERIFY (R198). -/
  | rsaVerify (ch : Ch) (jidx : Nat)
  /-- RSA_SIGN (R199). -/
  | rsaSign (ch : Ch) (jidx : Nat)
  /-- ATTEST (R200). -/
  | attest (ch : Ch) (jidx : Nat)
  /-- PUBKEY_EXPORT (R201). -/
  | pubkeyExport (ch : Ch) (jidx : Nat)
  /-- PK_PUSH (R184). -/
  | pkPush (ch : Ch)
  /-- PKE_BATCH_START (R177). -/
  | pkeBatchStart (ch : Ch)
  /-- PKE_BATCH_END (R185). -/
  | pkeBatchEnd (ch : Ch) (fault : Option Nat)
  /-- PK_DONE_POP (R184). -/
  | pkDonePop (ch : Ch)
  /-- PK_ABORT (R187). -/
  | pkAbort (ch : Ch) (finished : Nat)
  /-- PK_CLEAR (R189). -/
  | pkClear (ch : Ch)
  /-- PKE_CLEAR_DONE (R187). -/
  | pkeClearDone (ch : Ch)
  /-- HASH_INIT (R194). -/
  | hashInit (ch : Ch) (value : Word)
  /-- HASH_FEED (R194). -/
  | hashFeed (ch : Ch) (value : Word)
  /-- HASH_FINAL (R194). -/
  | hashFinal (ch : Ch) (value : Word)
  /-- HASH_CLEAR (R194). -/
  | hashClear (ch : Ch)
  /-- HASH_OP_DONE (R194). -/
  | hashOpDone (ch : Ch) (lane : Bool)
  /-- CE_ALLOC (R204). -/
  | ceAlloc (ch : Ch)
  /-- CE_FREE (R205). -/
  | ceFree (ch : Ch) (cx : Fin 8)
  /-- CE_CLEAR_DONE (R205). -/
  | ceClearDone (ch : Ch) (cx : Fin 8)
  /-- CE_ZERO (R220). -/
  | ceZero (ch : Ch)
  /-- CX_CFG_WRITE (R212). -/
  | cxCfgWrite (ch : Ch) (cx : Fin 8) (value : Word)
  /-- CX_COUNTER_WRITE (R214). -/
  | cxCounterWrite (ch : Ch) (cx : Fin 8) (reg : Fin 3) (value : Word)
  /-- CX_LIMIT_WRITE (R213). -/
  | cxLimitWrite (ch : Ch) (cx : Fin 8) (value : Word)
  /-- KEYLOAD (R215). -/
  | keyload (ch : Ch) (cx : Fin 8) (mark : CxMark)
  /-- START (R213). -/
  | start (ch : Ch) (cx : Fin 8) (mark : CxMark)
  /-- AAD (R209). -/
  | aad (ch : Ch) (cx : Fin 8) (mark : CxMark)
  /-- DATA (R217). -/
  | data (ch : Ch) (cx : Fin 8) (irq : Bool) (fault : Option Nat)
  /-- FINAL (R219). -/
  | final (ch : Ch) (cx : Fin 8) (irq fault : Bool)
  /-- ABORT (R208). -/
  | abort (ch : Ch) (cx : Fin 8) (irq : Bool)
  /-- SETTLE_RUN (R246). -/
  | settleRun (ch : Ch) (jidx : Nat)
  /-- SETTLE_OPEN (R247). -/
  | settleOpen (ch : Ch) (jidx : Nat)
  /-- SETTLE_ADJUST (R248). -/
  | settleAdjust (ch : Ch) (jidx : Nat)
  /-- SETTLE_CLOSE (R249). -/
  | settleClose (ch : Ch) (jidx : Nat)
  /-- PROGRAM_LOAD (R235). -/
  | programLoad (ch : Ch) (jidx : Nat)
  /-- PROGRAM_LIST (R236). -/
  | programList (ch : Ch) (jidx : Nat)
  /-- PROGRAM_REMOVE (R236). -/
  | programRemove (ch : Ch) (jidx : Nat)
  /-- NOP (R265). -/
  | nop (core : Core)
  /-- DROP (R265). -/
  | drop (core : Core)
  /-- DUP (R265). -/
  | dup (core : Core)
  /-- SWAP (R265). -/
  | swap (core : Core)
  /-- OVER (R265). -/
  | over (core : Core)
  /-- ROT (R265). -/
  | rot (core : Core)
  /-- NIP (R265). -/
  | nip (core : Core)
  /-- PICK (R265). -/
  | pick (core : Core) (n : Byte)
  /-- DEPTH (R265). -/
  | depth (core : Core)
  /-- DROP2 (R265). -/
  | drop2 (core : Core)
  /-- DUP2 (R265). -/
  | dup2 (core : Core)
  /-- PUSH8 (R265). -/
  | push8 (core : Core) (imm : Byte)
  /-- PUSH16 (R265). -/
  | push16 (core : Core) (imm : Half)
  /-- PUSH32 (R265). -/
  | push32 (core : Core) (imm : Word)
  /-- PUSHU8 (R265). -/
  | pushu8 (core : Core) (imm : Byte)
  /-- PUSHU16 (R265). -/
  | pushu16 (core : Core) (imm : Half)
  /-- PUSHH (R265). -/
  | pushh (core : Core) (imm : Half)
  /-- ADD (R256). -/
  | add (core : Core)
  /-- SUB (R256). -/
  | sub (core : Core)
  /-- NEG (R256). -/
  | neg (core : Core)
  /-- ABS (R256). -/
  | abs (core : Core)
  /-- MIN (R265). -/
  | min (core : Core)
  /-- MAX (R265). -/
  | max (core : Core)
  /-- ADDI8 (R256). -/
  | addi8 (core : Core) (imm : Byte)
  /-- ADDI16 (R256). -/
  | addi16 (core : Core) (imm : Half)
  /-- EQ (R265). -/
  | eq (core : Core)
  /-- NE (R265). -/
  | ne (core : Core)
  /-- LT (R265). -/
  | lt (core : Core)
  /-- LE (R265). -/
  | le (core : Core)
  /-- LTU (R265). -/
  | ltu (core : Core)
  /-- LEU (R265). -/
  | leu (core : Core)
  /-- SEL (R265). -/
  | sel (core : Core)
  /-- ADDW (R265). -/
  | addw (core : Core)
  /-- AND (R265). -/
  | and (core : Core)
  /-- OR (R265). -/
  | or (core : Core)
  /-- XOR (R265). -/
  | xor (core : Core)
  /-- NOT (R265). -/
  | not (core : Core)
  /-- SHL (R256). -/
  | shl (core : Core) (n : Byte)
  /-- SHR (R265). -/
  | shr (core : Core) (n : Byte)
  /-- SARR (R257). -/
  | sarr (core : Core) (n : Byte)
  /-- SHLV (R256). -/
  | shlv (core : Core)
  /-- SHRV (R265). -/
  | shrv (core : Core)
  /-- SARV (R257). -/
  | sarv (core : Core)
  /-- CLZ (R265). -/
  | clz (core : Core)
  /-- SUBW (R265). -/
  | subw (core : Core)
  /-- MUL (R256). -/
  | mul (core : Core)
  /-- MULQ (R257). -/
  | mulq (core : Core)
  /-- ADD2 (R256). -/
  | add2 (core : Core)
  /-- SUB2 (R256). -/
  | sub2 (core : Core)
  /-- MUL2 (R257). -/
  | mul2 (core : Core)
  /-- PACK (R257). -/
  | pack (core : Core)
  /-- UNPK (R265). -/
  | unpk (core : Core)
  /-- CLRA (R269). -/
  | clra (core : Core) (k : Bool)
  /-- LDA (R269). -/
  | lda (core : Core) (k : Bool)
  /-- MAC (R258). -/
  | mac (core : Core) (k : Bool)
  /-- MSU (R258). -/
  | msu (core : Core) (k : Bool)
  /-- RDA (R269). -/
  | rda (core : Core) (k : Bool)
  /-- RDAS (R269). -/
  | rdas (core : Core) (k : Bool) (n : Byte)
  /-- ADDA (R269). -/
  | adda (core : Core) (k : Bool)
  /-- LDW (R270). -/
  | ldw (core : Core) (seg : Fin 6)
  /-- LDWI (R270). -/
  | ldwi (core : Core) (seg : Fin 6) (imm : Half)
  /-- LDH (R270). -/
  | ldh (core : Core) (seg : Fin 6)
  /-- LDB (R270). -/
  | ldb (core : Core) (seg : Fin 6)
  /-- STW (R270). -/
  | stw (core : Core) (seg : Fin 6)
  /-- STWI (R270). -/
  | stwi (core : Core) (seg : Fin 6) (imm : Half)
  /-- STH (R270). -/
  | sth (core : Core) (seg : Fin 6)
  /-- STB (R270). -/
  | stb (core : Core) (seg : Fin 6)
  /-- BR (R271). -/
  | br (core : Core) (r : Half)
  /-- BRS (R271). -/
  | brs (core : Core) (r : Byte)
  /-- BZ (R271). -/
  | bz (core : Core) (r : Half)
  /-- BNZ (R271). -/
  | bnz (core : Core) (r : Half)
  /-- CALL (R271). -/
  | call (core : Core) (r : Half)
  /-- RET (R271). -/
  | ret (core : Core)
  /-- JMP (R271). -/
  | jmp (core : Core)
  /-- BMOV (R278). -/
  | bmov (core : Core) (m : Byte) (stop : Option Nat)
  /-- VMAC (R279). -/
  | vmac (core : Core) (m : Byte) (stop : Option Nat)
  /-- LOOPS (R282). -/
  | loops (core : Core) (b : Half)
  /-- HBLK_INIT (R281). -/
  | hblkInit (core : Core) (alg : Fin 3) (hi : Fin 32) (wait : Nat)
  /-- HBLK_FEED (R281). -/
  | hblkFeed (core : Core) (hi : Fin 32) (wait : Nat) (stop : Option Nat)
  /-- HBLK_FINAL (R281). -/
  | hblkFinal (core : Core) (hi : Fin 32) (wait : Nat) (stop : Option Nat)
  /-- DIVS (R280). -/
  | divs (core : Core) (n : Byte) (stop : Option Nat)
  /-- FEAT (R287). -/
  | feat (core : Core) (n : Byte)
  /-- GATE (R295). -/
  | gate (core : Core) (n : Byte)
  /-- RETE (R297). -/
  | rete (core : Core)
  /-- MFSR (R260). -/
  | mfsr (core : Core) (n : Byte)
  /-- MTSR (R260). -/
  | mtsr (core : Core) (n : Byte)
  /-- SEGR (R254). -/
  | segr (core : Core) (n : Byte)
  /-- SEGW (R254). -/
  | segw (core : Core) (n : Byte)
  /-- SETRND (R259). -/
  | setrnd (core : Core) (m : Byte)
  /-- SETSAT (R259). -/
  | setsat (core : Core) (m : Byte)
  /-- CLROV (R259). -/
  | clrov (core : Core)
  /-- BRK (R263). -/
  | brk (core : Core) (n : Byte)
  /-- WAIT (R302). -/
  | wait (core : Core)
  /-- RESULT_LAND (R268). -/
  | resultLand (core : Core)
  /-- FAULT_ENTRY (R292). -/
  | faultEntry (core : Core) (opcode : Option Byte)
  /-- INTERRUPT_ENTRY (R302). -/
  | interruptEntry (core : Core)
  /-- TIMER_MATCH (R291). -/
  | timerMatch (core : Core)
  /-- DOUBLE_FAULT (R303). -/
  | doubleFault (core : Core)
  /-- LOCKSTEP_MISCOMPARE (R460). -/
  | lockstepMiscompare (core : Core)
  /-- CONDITIONING_BLOCK (R308). -/
  | conditioningBlock (ch : Ch)
  /-- HEALTH_ALARM (R310). -/
  | healthAlarm (ch : Ch) (rct apt : Bool) (value : Nat)
  /-- INSTANTIATE (R315). -/
  | instantiate (ch : Ch) (inst : Fin 8) (irq outer : Bool)
  /-- GENERATE (R316). -/
  | generate (ch : Ch) (inst : Fin 8) (irq outer : Bool)
  /-- RESEED (R317). -/
  | reseed (ch : Ch) (inst : Fin 8) (irq outer : Bool)
  /-- UNINSTANTIATE (R320). -/
  | uninstantiate (ch : Ch) (inst : Fin 8) (irq outer : Bool)
  /-- DRBG_REQUEST_DONE (R316). -/
  | drbgRequestDone (ch : Ch) (inst : Fin 8)
  /-- DRBG_RESEED_DUE (R317). -/
  | drbgReseedDue (ch : Ch) (inst : Fin 8)
  /-- DRBG_RESEED_APPLY (R317). -/
  | drbgReseedApply (ch : Ch) (inst : Fin 8)
  /-- DRBG_INSTANCE_ERROR (R318). -/
  | drbgInstanceError (ch : Ch) (inst : Fin 8)
  /-- CALIBRATION_START (R319). -/
  | calibrationStart (ch : Ch)
  /-- CALIBRATION_DONE (R319). -/
  | calibrationDone (ch : Ch) (fault : Bool)
  /-- RG_TEST_WRITE (R321). -/
  | rgTestWrite (ch : Ch) (value : Word)
  /-- RG_TP_DATA_WRITE (R321). -/
  | rgTpDataWrite (ch : Ch) (value : Word)
  /-- RG_RAW_READ (R321). -/
  | rgRawRead (ch : Ch)
  /-- AT_PERM_WRITE (R330). -/
  | atPermWrite (unit : Core) (entry : Fin 64) (value : Word)
  /-- AT_ENTRY_LOCK (R331). -/
  | atEntryLock (unit : Core) (entry : Fin 64)
  /-- LOCK_ALL (R331). -/
  | lockAll (unit : Core)
  /-- CNT_CLR (R335). -/
  | cntClr (unit : Core)
  /-- SCRUB_LINE (R338). -/
  | scrubLine (unit : Core) (corrected : Option (Fin 8 × Fin 72)) (bad : Option (Fin 8))
  /-- BUCKET_LEAK (R339). -/
  | bucketLeak (unit : Core) (nv : Bool)
  /-- BUCKET_THRESHOLD_WRITE (R339). -/
  | bucketThresholdWrite (unit : Core) (nv : Bool) (value : Word)
  /-- AT_VIEW_UPDATE (R342). -/
  | atViewUpdate (unit : Core)
  /-- PROGRAM (R354). -/
  | program (bank : Core) (irq : Bool)
  /-- PROGRAM_SEG (R354). -/
  | programSeg (bank : Core) (irq : Bool)
  /-- ERASE (R355). -/
  | erase (bank : Core) (autosusp irq : Bool)
  /-- FORMAT (R347). -/
  | format (bank : Core) (irq : Bool)
  /-- CHECK (R353). -/
  | check (bank : Core) (irq : Bool)
  /-- NV_COMMAND_DONE (R353). -/
  | nvCommandDone (bank : Core) (senses : List (Nat × Option (Fin 4))) (fail : Bool)
  /-- SUSPEND (R355). -/
  | suspend (bank : Core)
  /-- RESUME (R355). -/
  | resume (bank : Core)
  /-- ERASE_AUTOSUSPEND (R356). -/
  | eraseAutosuspend (bank : Core)
  /-- ERASE_AUTORESUME (R356). -/
  | eraseAutoresume (bank : Core)
  /-- FLASH_WINDOW_READ (R352). -/
  | flashWindowRead (bank : Core) (off corr : Nat) (uncorr : Option (Fin 4))
  /-- FLASH_SCRUB_SENSE (R359). -/
  | flashScrubSense (bank : Core) (corr : Nat) (uncorr : Option (Fin 4))
  /-- REFRESH_POP (R359). -/
  | refreshPop (bank : Core)
  /-- NOTE_BUILD (R376). -/
  | noteBuild (ch : Ch) (jidx : Nat)
  /-- PAIR_BEAT (R384). -/
  | pairBeat (ch : Ch) (jidx : Nat)
  /-- SNAPSHOT_START (R381). -/
  | snapshotStart (ch : Ch) (jidx : Nat)
  /-- SNAPSHOT_CHUNK (R381). -/
  | snapshotChunk (ch : Ch) (jidx : Nat)
  /-- SNAPSHOT_COMMIT (R381). -/
  | snapshotCommit (ch : Ch) (jidx : Nat)
  /-- PROMOTE (R385). -/
  | promote (ch : Ch) (jidx : Nat) (image : Option Bytes)
  /-- RELINQUISH (R387). -/
  | relinquish (ch : Ch) (jidx : Nat)
  /-- PAIR_RECEIVE (R374). -/
  | pairReceive (ch : Ch) (jidx : Nat)
  /-- RECEIVE_NOTE (R378). -/
  | receiveNote (ch : Ch) (jidx : Nat)
  /-- RECEIVE_ACK (R379). -/
  | receiveAck (ch : Ch) (jidx : Nat)
  /-- RECEIVE_BEAT (R384). -/
  | receiveBeat (ch : Ch) (jidx : Nat)
  /-- RECEIVE_CHUNK (R382). -/
  | receiveChunk (ch : Ch) (jidx : Nat)
  /-- RECEIVE_COMMIT (R383). -/
  | receiveCommit (ch : Ch) (jidx : Nat)
  /-- RECEIVE_RELINQUISH (R388). -/
  | receiveRelinquish (ch : Ch) (jidx : Nat)
  /-- PAIR_BIND_ACTIVE (R371). -/
  | pairBindActive (ch : Ch) (jidx : Nat)
  /-- PAIR_BIND_STANDBY (R371). -/
  | pairBindStandby (ch : Ch) (jidx : Nat)
  /-- PAIR_UNBIND (R372). -/
  | pairUnbind (ch : Ch) (jidx : Nat)
  /-- PAIR_STATUS (R393). -/
  | pairStatus (ch : Ch) (jidx : Nat)
  /-- REVOCATION_LOAD (R392). -/
  | revocationLoad (ch : Ch) (jidx : Nat)
  /-- ACK_OVERDUE (R380). -/
  | ackOverdue (ch : Ch)
  /-- ACK_LAG_RELEASE (R389). -/
  | ackLagRelease (ch : Ch)
  /-- SOLO_PERMIT_EXPIRY (R390). -/
  | soloPermitExpiry (ch : Ch)
  /-- SENSOR_SAMPLE (R397). -/
  | sensorSample (values : List Int)
  /-- TELEMETRY_PUBLISH (R399). -/
  | telemetryPublish
  /-- SENSOR_HISTORY_APPEND (R400). -/
  | sensorHistoryAppend
  /-- SMBUS_RETRY (R402). -/
  | smbusRetry
  /-- SMBUS_PACKET_RECEIVE (R403). -/
  | smbusPacketReceive (vdm : Bool) (addr : Byte) (pecOk : Bool) (packet : Bytes)
  /-- SET_ENDPOINT_ID (R401). -/
  | setEndpointId
  /-- GET_ENDPOINT_ID (R401). -/
  | getEndpointId
  /-- GET_ENDPOINT_UUID (R401). -/
  | getEndpointUuid
  /-- GET_MCTP_VERSION_SUPPORT (R401). -/
  | getMctpVersionSupport
  /-- GET_MESSAGE_TYPE_SUPPORT (R401). -/
  | getMessageTypeSupport
  /-- GETTID (R401). -/
  | gettid
  /-- SETTID (R401). -/
  | settid
  /-- GETPLDMVERSION (R401). -/
  | getpldmversion
  /-- GETPLDMTYPES (R401). -/
  | getpldmtypes
  /-- GETPLDMCOMMANDS (R401). -/
  | getpldmcommands
  /-- GETSENSORREADING (R401). -/
  | getsensorreading
  /-- GETSTATESENSORREADINGS (R401). -/
  | getstatesensorreadings
  /-- GETPDRREPOSITORYINFO (R401). -/
  | getpdrrepositoryinfo
  /-- GETPDR (R401). -/
  | getpdr
  /-- QUERYDEVICEIDENTIFIERS (R401). -/
  | querydeviceidentifiers
  /-- GETFIRMWAREPARAMETERS (R401). -/
  | getfirmwareparameters
  /-- REQUESTUPDATE (R410). -/
  | requestupdate
  /-- PASSCOMPONENTTABLE (R401). -/
  | passcomponenttable
  /-- UPDATECOMPONENT (R410). -/
  | updatecomponent
  /-- REQUESTFIRMWAREDATA (R410). -/
  | requestfirmwaredata (response : Option Bytes)
  /-- ACTIVATEFIRMWARE (R411). -/
  | activatefirmware
  /-- GETSTATUS (R401). -/
  | getstatus
  /-- CANCELUPDATECOMPONENT (R410). -/
  | cancelupdatecomponent
  /-- CANCELUPDATE (R410). -/
  | cancelupdate
  /-- GET_INFO (R404). -/
  | getInfo
  /-- SENSOR_CONFIG (R398). -/
  | sensorConfig
  /-- SENSOR_HISTORY (R400). -/
  | sensorHistory
  /-- SIDEBAND_CONFIG (R404). -/
  | sidebandConfig
  /-- UPDATE_BEGIN (R410). -/
  | updateBegin
  /-- UPDATE_DATA (R410). -/
  | updateData
  /-- UPDATE_VERIFY (R410). -/
  | updateVerify
  /-- UPDATE_ACTIVATE (R410). -/
  | updateActivate
  /-- UPDATE_COMMIT (R410). -/
  | updateCommit
  /-- UPDATE_REVERT (R410). -/
  | updateRevert
  /-- UPDATE_ABORT (R410). -/
  | updateAbort
  /-- UPDATE_STATUS (R410). -/
  | updateStatus
  /-- TRIAL_BOOT_TIMEOUT (R412). -/
  | trialBootTimeout (target : Core)
  /-- LIFECYCLE_ADVANCE (R406). -/
  | lifecycleAdvance
  /-- LIFECYCLE_BLOW_DONE (R406). -/
  | lifecycleBlowDone
  /-- CRUMB_ACCEPT (R420). -/
  | crumbAccept
  /-- SEGMENT_FLUSH_TIMEOUT (R422). -/
  | segmentFlushTimeout
  /-- CLASS_TOKEN_REFILL (R420). -/
  | classTokenRefill (cls : Nat)
  /-- OPERATING_SECOND (R419). -/
  | operatingSecond
  /-- COUNTER_COPY (R419). -/
  | counterCopy
  /-- FREEZE (R426). -/
  | freeze (value : Word)
  /-- UNFREEZE (R427). -/
  | unfreeze (value : Word)
  /-- FREEZE_EXPIRY (R427). -/
  | freezeExpiry
  /-- EV_LOG_SELECT (R428). -/
  | evLogSelect (value : Word)
  /-- EV_DATA_READ (R429). -/
  | evDataRead (word : Fin 8)
  /-- CLASS_GET (R430). -/
  | classGet
  /-- CLASS_SET (R421). -/
  | classSet
  /-- LOG_READ (R430). -/
  | logRead
  /-- STATS (R430). -/
  | stats
  /-- PINNED_CLEAR (R424). -/
  | pinnedClear
  /-- TAMPER_TRIP (R440). -/
  | tamperTrip (met : List TamperSense) (samples : Nat)
  /-- ZEROIZE_DONE (R444). -/
  | zeroizeDone (unit : Core)
  /-- EPISODE_END (R440). -/
  | episodeEnd (source : Fin 32)
  /-- CRUST_RESEED (R434). -/
  | crustReseed
  /-- MONITOR_SELF_CHECK (R438). -/
  | monitorSelfCheck (failing : Bool)
  /-- BATTERY_BURST (R439). -/
  | batteryBurst (met : List TamperSense)
  /-- REMOVAL_ARM (R447). -/
  | removalArm
  /-- CELL_REMOVED_ON_MAIN (R447). -/
  | cellRemovedOnMain
  /-- CELL_REMOVED (R448). -/
  | cellRemoved
  /-- TAMPER_STATUS (R451). -/
  | tamperStatus
  /-- TAMPER_CHALLENGE (R451). -/
  | tamperChallenge
  /-- TAMPER_CLEAR (R451). -/
  | tamperClear
  /-- TAMPER_WIDEN (R443). -/
  | tamperWiden
  /-- TAMPER_NARROW (R443). -/
  | tamperNarrow
  /-- TAMPER_MODE (R447). -/
  | tamperMode
  /-- TAMPER_BATT_INTERVAL (R439). -/
  | tamperBattInterval
  /-- SAFETY_REPORT (R462). -/
  | safetyReport (ch : Ch) (mech : Byte) (info : Word) (job : Option (Fin 4096))
  /-- SAFETY_RESET_TIMEOUT (R462). -/
  | safetyResetTimeout (ch : Ch)
  /-- SAFETY_EXCHANGE (R461). -/
  | safetyExchange (result : Fin 3)
  /-- SF_REPORT (R459). -/
  | sfReport (ch : Ch) (value : Word)
  /-- KICK (R467). -/
  | kick (ch : Ch)
  /-- WATCHDOG_ENABLE (R467). -/
  | watchdogEnable (ch : Ch)
  /-- WATCHDOG_EXPIRY (R467). -/
  | watchdogExpiry (ch : Ch)
  /-- BIST_NOTICE_START (R469). -/
  | bistNoticeStart (ch : Ch)
  /-- BIST_CYCLE (R470). -/
  | bistCycle (ch : Ch)
  /-- BIST_CYCLE_DONE (R471). -/
  | bistCycleDone (ch : Ch) (signature : Option (Nat × Nat)) (uncorr : Option Nat) (rows : List (Fin 9 × Nat × Nat × Nat))
  /-- SAFETY_STATUS (R478). -/
  | safetyStatus
  /-- SAFETY_RELEASE (R465). -/
  | safetyRelease
  /-- BIST_SCHEDULE (R478). -/
  | bistSchedule
  /-- BIST_DEFER (R472). -/
  | bistDefer
  /-- BIST_NOW (R472). -/
  | bistNow
  /-- MBIST_RESULTS (R478). -/
  | mbistResults
  /-- FIELD_ON (R491). -/
  | fieldOn
  /-- FIELD_LOSS (R491). -/
  | fieldLoss
  /-- FD_WAKE_RELEASE (R514). -/
  | fdWakeRelease
  /-- INVENTORY (R495). -/
  | inventory (frame : Bytes)
  /-- NEXT_SLOT (R496). -/
  | nextSlot (frame : Bytes)
  /-- ACK (R496). -/
  | ack (frame : Bytes)
  /-- NAK (R496). -/
  | nak (frame : Bytes)
  /-- HALT (R494). -/
  | halt (frame : Bytes)
  /-- TAG_GET_INFO (R498). -/
  | tagGetInfo (frame : Bytes)
  /-- AUTH_START (R501). -/
  | authStart (frame : Bytes)
  /-- AUTH_FINISH (R501). -/
  | authFinish (frame : Bytes)
  /-- DT_SELECT (R494). -/
  | dtSelect (frame : Bytes)
  /-- DT_ACCESS (R502). -/
  | dtAccess (frame : Bytes)
  /-- DT_READ (R499). -/
  | dtRead (frame : Bytes)
  /-- READ_LOG (R504). -/
  | readLog (frame : Bytes) (strong : Bool)
  /-- READ_TRANSIT (R513). -/
  | readTransit (frame : Bytes)
  /-- READ_TAMPER (R505). -/
  | readTamper (frame : Bytes)
  /-- READ_NOTE (R503). -/
  | readNote (frame : Bytes)
  /-- WRITE_NOTE (R508). -/
  | writeNote (frame : Bytes) (strong : Bool) (failed : Option Bytes)
  /-- READ_IDENTITY (R503). -/
  | readIdentity (frame : Bytes)
  /-- END_SESSION (R503). -/
  | endSession (frame : Bytes)
  /-- TAG_DEFERRED_REPLY (R493). -/
  | tagDeferredReply
  /-- TRANSIT_SAMPLE (R512). -/
  | transitSample (temp : Nat) (cellLow : Bool)
  /-- NF_MEM_DATA_ACCESS (R515). -/
  | nfMemDataAccess (write : Option Word)
  /-- NF_STATUS (R516). -/
  | nfStatus
  /-- NF_NOTES_READ (R516). -/
  | nfNotesRead
  /-- NF_TRANSIT_READ (R516). -/
  | nfTransitRead
  /-- NF_SET_PASSWORD (R516). -/
  | nfSetPassword
  /-- SD_CARD_DETECT (R522). -/
  | sdCardDetect (card : Option SdSeen)
  /-- SD_TRANSFER_DONE (R521). -/
  | sdTransferDone (crcErrors : Nat) (ok : Bool)
  /-- SD_RETUNE (R519). -/
  | sdRetune (window : Option Nat)
  /-- SC_INSERT (R524). -/
  | scInsert
  /-- SC_REMOVE (R527). -/
  | scRemove
  /-- SC_ATR_TIMEOUT (R524). -/
  | scAtrTimeout
  /-- SC_BLOCK_RECEIVED (R526). -/
  | scBlockReceived (data : Bytes)
  /-- ACTIVATE (R524). -/
  | activate
  /-- DEACTIVATE (R527). -/
  | deactivate
  /-- CARD_STATUS (R536). -/
  | cardStatus (info : Bytes)
  /-- CEREMONY_BEGIN (R535). -/
  | ceremonyBegin
  /-- CARD_STEP (R535). -/
  | cardStep (card : Option CardAnswer)
  /-- CEREMONY_FINISH (R534). -/
  | ceremonyFinish
  /-- CEREMONY_ABORT (R535). -/
  | ceremonyAbort
  /-- CEREMONY_TIMEOUT (R535). -/
  | ceremonyTimeout
  /-- CARD_SIGN (R530). -/
  | cardSign (card : Option CardAnswer)
  /-- SD_STATUS (R536). -/
  | sdStatus
  /-- SD_BACKUP_WRITE (R523). -/
  | sdBackupWrite
  /-- AUTH_CHALLENGE (R537). -/
  | authChallenge
  /-- SD_EJECT (R536). -/
  | sdEject
  /-- SLEEP_ENTRY (R543). -/
  | sleepEntry (ch : Ch) (quiet : Nat)
  /-- DEEP_SLEEP_ENTRY (R544). -/
  | deepSleepEntry (ch : Ch)
  /-- CHANNEL_WAKE (R544). -/
  | channelWake (ch : Ch)
  /-- CRYSTAL_SWITCH (R541). -/
  | crystalSwitch
  /-- CRYSTAL_LOSS (R541). -/
  | crystalLoss
  /-- REFCLK_LOSS (R542). -/
  | refclkLoss
  /-- REFCLK_RETURN (R542). -/
  | refclkReturn
  /-- PLL_LOCK_TIMEOUT (R542). -/
  | pllLockTimeout (ch : Ch)
  /-- CELL_INSERT (R454). -/
  | cellInsert
  /-- HOUR_COUNT_AGE_OUT (R465). -/
  | hourCountAgeOut (ch : Ch)
  /-- BWT_EXPIRY (R526). -/
  | bwtExpiry
  /-- SMBUS_TIMEOUT (R573). -/
  | smbusTimeout
  deriving DecidableEq, Repr

end Sys2Proof
end

