-- ==== Sys2Proof/Machine/Bytes.lean ====
section
/-! DEFINITION. Byte order, bit fields, padding, CRCs: the helpers every structure of the spec is read and written with. -/

namespace Sys2Proof.Machine

/-- The byte with value `n` modulo 256. -/
def byte (n : Nat) : Byte := BitVec.ofNat 8 n

/-- `len` bytes of `n`, least significant first. -/
def leBytes : Nat → Nat → Bytes
  | 0, _ => []
  | k + 1, n => byte n :: leBytes k (n / 256)

/-- `len` bytes of `n`, most significant first. -/
def beBytes (len n : Nat) : Bytes := (leBytes len n).reverse

/-- The number whose little-endian bytes these are. -/
def leNat : Bytes → Nat
  | [] => 0
  | b :: bs => b.toNat + 256 * leNat bs

/-- The number whose big-endian bytes these are. -/
def beNat (bs : Bytes) : Nat := bs.foldl (fun a b => a * 256 + b.toNat) 0

/-- Bytes `off` to `off + len - 1`, with zero bytes where the string has ended. -/
def slice (bs : Bytes) (off len : Nat) : Bytes :=
  let t := (bs.drop off).take len
  t ++ List.replicate (len - t.length) 0

/-- The little-endian field of `len` bytes at `off`. -/
def fieldLE (bs : Bytes) (off len : Nat) : Nat := leNat (slice bs off len)

/-- The big-endian field of `len` bytes at `off`. -/
def fieldBE (bs : Bytes) (off len : Nat) : Nat := beNat (slice bs off len)

/-- The byte at `off`, zero past the end. -/
def byteAt (bs : Bytes) (off : Nat) : Byte := (bs.drop off).headD 0

/-- `len` zero bytes. -/
def zeros (len : Nat) : Bytes := List.replicate len 0

/-- `len` erased-flash bytes. -/
def ones (len : Nat) : Bytes := List.replicate len 0xFF

/-- `bs` cut or extended with zero bytes to exactly `len`. -/
def padTo (len : Nat) (bs : Bytes) : Bytes := slice bs 0 len

/-- `bs` with `new` written over it from `off`, its length kept. -/
def patch (bs : Bytes) (off : Nat) (new : Bytes) : Bytes :=
  bs.take off ++ new.take (bs.length - off) ++ bs.drop (off + new.length)

/-- Byte-wise exclusive or, as long as the shorter of the two. -/
def xorBytes (a b : Bytes) : Bytes := List.zipWith (· ^^^ ·) a b

/-- Bits `hi` to `lo` of a number. -/
def bits (n hi lo : Nat) : Nat := (n >>> lo) % 2 ^ (hi + 1 - lo)

/-- One bit of a number. -/
def bit (n i : Nat) : Bool := n.testBit i

/-- The number `v` written over bits `hi` to `lo` of `n`. -/
def setBits (n hi lo v : Nat) : Nat :=
  n - (bits n hi lo) * 2 ^ lo + (v % 2 ^ (hi + 1 - lo)) * 2 ^ lo

/-- One bit set or cleared. -/
def setBit (n i : Nat) (b : Bool) : Nat := setBits n i i (if b then 1 else 0)

/-- A condition as a bit. -/
def b2n (b : Bool) : Nat := if b then 1 else 0

/-- Rounds up to a multiple of `m`. -/
def roundUp (n m : Nat) : Nat := (n + m - 1) / m * m

/-- Quotient rounded up. -/
def ceilDiv (n m : Nat) : Nat := (n + m - 1) / m

/-- Cuts a string into pieces of `size` bytes, the last one perhaps shorter; `fuel` bounds the pieces. -/
def chunksAux (size : Nat) : Nat → Bytes → List Bytes
  | 0, _ => []
  | fuel + 1, bs => if bs.isEmpty then [] else bs.take size :: chunksAux size fuel (bs.drop size)

/-- Cuts a string into pieces of `size` bytes. -/
def chunks (size : Nat) (bs : Bytes) : List Bytes := chunksAux size bs.length bs

/-- One bit of a reflected CRC-32 (polynomial 0xEDB88320). -/
def crc32Bit (c : Nat) : Nat := if c % 2 = 1 then (c / 2) ^^^ 0xEDB88320 else c / 2

/-- One byte of a reflected CRC-32. -/
def crc32Byte (c : Nat) (b : Byte) : Nat :=
  let x := c ^^^ b.toNat
  crc32Bit (crc32Bit (crc32Bit (crc32Bit (crc32Bit (crc32Bit (crc32Bit (crc32Bit x)))))))

/-- The CRC-32 of IEEE 802.3: initial value and final exclusive or all ones. -/
def crc32 (bs : Bytes) : Nat := (bs.foldl crc32Byte 0xFFFFFFFF) ^^^ 0xFFFFFFFF

/-- One bit of the CRC-16 with polynomial 0x1021, most significant bit first. -/
def crc16Bit (c : Nat) : Nat :=
  if bit c 15 then ((c * 2) % 65536) ^^^ 0x1021 else (c * 2) % 65536

/-- One byte of the CRC-16 with polynomial 0x1021. -/
def crc16Byte (c : Nat) (b : Byte) : Nat :=
  let x := c ^^^ (b.toNat * 256)
  crc16Bit (crc16Bit (crc16Bit (crc16Bit (crc16Bit (crc16Bit (crc16Bit (crc16Bit x)))))))

/-- The CRC-16 of polynomial 0x1021 with the initial value given. -/
def crc16From (init : Nat) (bs : Bytes) : Nat := bs.foldl crc16Byte init

/-- The CRC-16 of polynomial 0x1021, initial value 0xFFFF. -/
def crc16 (bs : Bytes) : Nat := crc16From 0xFFFF bs

/-- One bit of the SMBus PEC (CRC-8, polynomial 0x07). -/
def crc8Bit (c : Nat) : Nat := if bit c 7 then ((c * 2) % 256) ^^^ 0x07 else (c * 2) % 256

/-- The CRC-8 of polynomial 0x07, initial value 0. -/
def crc8 (bs : Bytes) : Nat :=
  bs.foldl (fun c b =>
    let x := c ^^^ b.toNat
    crc8Bit (crc8Bit (crc8Bit (crc8Bit (crc8Bit (crc8Bit (crc8Bit (crc8Bit x)))))))) 0

/-- The index of the first element that meets a condition. -/
def findIdx? {α : Type} (p : α → Bool) (l : List α) : Option Nat := l.findIdx? p

/-- A list with its `i`-th element replaced; unchanged past the end. -/
def setAt {α : Type} (l : List α) (i : Nat) (x : α) : List α := l.set i x

/-- ASCII bytes of a string. -/
def ascii (s : String) : Bytes := s.toList.map fun c => byte c.toNat

end Sys2Proof.Machine
end

