-- ==== Sys2Proof/Machine/Aes.lean ====
section
/-! DEFINITION. AES (FIPS 197) with 128-, 192- and 256-bit keys, and the modes the spec names: ECB, CBC, CTR, GCM,
CMAC and key wrap. -/

namespace Sys2Proof.Machine

/-- The AES substitution table, entry x in bits 8x+7 to 8x. -/
def aesSboxPacked : Nat :=
  0x16bb54b00f2d99416842e6bf0d89a18cdf2855cee9871e9b948ed9691198f8e19e1dc186b95735610ef6034866b53e708a8bbd4b1f74dde8c6b4a61c2e2578ba08ae7a65eaf4566ca94ed58d6d37c8e779e4959162acd3c25c2406490a3a32e0db0b5ede14b8ee4688902a22dc4f816073195d643d7ea7c41744975fec130ccdd2f3ff1021dab6bcf5389d928f40a351a89f3c507f02f94585334d43fbaaefd0cf584c4a39becb6a5bb1fc20ed00d153842fe329b3d63b52a05a6e1b1a2c830975b227ebe28012079a059618c323c7041531d871f1e5a534ccf73f362693fdb7c072a49cafa2d4adf04759fa7dc982ca76abd7fe2b670130c56f6bf27b777c63

/-- The inverse substitution table, packed in the same way. -/
def aesInvSboxPacked : Nat :=
  0x7d0c2155631469e126d677ba7e042b17619953833cbbebc8b0f52aae4d3be0a0ef9cc9939f7ae52d0d4ab519a97f51605fec8027591012b131c7078833a8dd1ff45acd78fec0db9a2079d2c64b3e56fc1bbe18aa0e62b76f89c5291d711af1476edf751ce837f9e28535ade72274ac9673e6b4f0cecff297eadc674f4111913a6b8a130103bdafc1020f3fca8f1e2cd00645b3b80558e4f70ad3bc8c00abd890849d8da75746155edab9edfd5048706c92b6655dcc5ca4d41698688664f6f87225d18b6d49a25b76b224d92866a12e084ec3fa420b954cee3d23c2a632947b54cbe9dec444438e3487ff2f9b8239e37cfbd7f3819ea340bf38a53630d56a0952

/-- SubBytes of one byte. -/
def aesSub (b : Byte) : Byte := byte (aesSboxPacked >>> (8 * b.toNat))

/-- InvSubBytes of one byte. -/
def aesInvSub (b : Byte) : Byte := byte (aesInvSboxPacked >>> (8 * b.toNat))

/-- Multiplication by x in GF(2^8) of AES. -/
def aesXtime (b : Byte) : Byte :=
  let t := b.toNat * 2
  byte (if t ≥ 256 then t ^^^ 0x11B else t)

/-- Multiplication by a constant below 16 in GF(2^8). -/
def aesMul (k : Nat) (b : Byte) : Byte :=
  let b2 := aesXtime b
  let b4 := aesXtime b2
  let b8 := aesXtime b4
  (if bit k 0 then b else 0) ^^^ (if bit k 1 then b2 else 0) ^^^ (if bit k 2 then b4 else 0) ^^^ (if bit k 3 then b8 else 0)

/-- MixColumns of one column, with the matrix row given by its four coefficients. -/
def aesMixColumn (m0 m1 m2 m3 : Nat) : Bytes → Bytes
  | [a, b, c, d] =>
    [aesMul m0 a ^^^ aesMul m1 b ^^^ aesMul m2 c ^^^ aesMul m3 d,
     aesMul m3 a ^^^ aesMul m0 b ^^^ aesMul m1 c ^^^ aesMul m2 d,
     aesMul m2 a ^^^ aesMul m3 b ^^^ aesMul m0 c ^^^ aesMul m1 d,
     aesMul m1 a ^^^ aesMul m2 b ^^^ aesMul m3 c ^^^ aesMul m0 d]
  | l => l

/-- The state bytes taken in the order of a list of indices. -/
def aesPermute (ix : List Nat) (st : Bytes) : Bytes := ix.map fun i => byteAt st i

/-- ShiftRows, as the index each output byte is taken from. -/
def aesShiftRowsIx : List Nat := [0, 5, 10, 15, 4, 9, 14, 3, 8, 13, 2, 7, 12, 1, 6, 11]

/-- InvShiftRows. -/
def aesInvShiftRowsIx : List Nat := [0, 13, 10, 7, 4, 1, 14, 11, 8, 5, 2, 15, 12, 9, 6, 3]

/-- Key expansion: words `i` and up are put in front of the reversed list until `fuel` words were made. -/
def aesExpandLoop (nk : Nat) : Nat → Nat → Byte → List Bytes → List Bytes
  | 0, _, _, ws => ws
  | fuel + 1, i, rcon, ws =>
    let prev := ws.headD []
    let back := (ws.drop (nk - 1)).headD []
    if i % nk = 0 then
      let rot := (prev.drop 1) ++ (prev.take 1)
      let t := xorBytes (rot.map aesSub) [rcon, 0, 0, 0]
      aesExpandLoop nk fuel (i + 1) (aesXtime rcon) (xorBytes back t :: ws)
    else if nk > 6 ∧ i % nk = 4 then
      aesExpandLoop nk fuel (i + 1) rcon (xorBytes back (prev.map aesSub) :: ws)
    else
      aesExpandLoop nk fuel (i + 1) rcon (xorBytes back prev :: ws)

/-- The round keys of a 16-, 24- or 32-byte key, 16 bytes each, first round first. -/
def aesRoundKeys (key : Bytes) : List Bytes :=
  let nk := key.length / 4
  let nr := nk + 6
  let ws := aesExpandLoop nk (4 * (nr + 1) - nk) nk 1 (chunks 4 key).reverse
  chunks 16 ws.reverse.flatten

/-- One full round of encryption. -/
def aesRound (st rk : Bytes) : Bytes :=
  let t := (aesPermute aesShiftRowsIx st).map aesSub
  xorBytes ((chunks 4 t).map (aesMixColumn 2 3 1 1)).flatten rk

/-- One full round of decryption. -/
def aesInvRound (st rk : Bytes) : Bytes :=
  let t := xorBytes ((aesPermute aesInvShiftRowsIx st).map aesInvSub) rk
  ((chunks 4 t).map (aesMixColumn 14 11 13 9)).flatten

/-- Encrypts one block under expanded round keys. -/
def aesEncryptRk (rks : List Bytes) (blk : Bytes) : Bytes :=
  let st := xorBytes blk (rks.headD [])
  let mid := (rks.drop 1).dropLast
  let st := mid.foldl aesRound st
  xorBytes ((aesPermute aesShiftRowsIx st).map aesSub) (rks.getLastD [])

/-- Decrypts one block under expanded round keys. -/
def aesDecryptRk (rks : List Bytes) (blk : Bytes) : Bytes :=
  let st := xorBytes blk (rks.getLastD [])
  let mid := ((rks.drop 1).dropLast).reverse
  let st := mid.foldl aesInvRound st
  xorBytes ((aesPermute aesInvShiftRowsIx st).map aesInvSub) (rks.headD [])

/-- Encrypts one 16-byte block. -/
def aesEncrypt (key blk : Bytes) : Bytes := aesEncryptRk (aesRoundKeys key) blk

/-- Decrypts one 16-byte block. -/
def aesDecrypt (key blk : Bytes) : Bytes := aesDecryptRk (aesRoundKeys key) blk

/-- ECB encryption of whole blocks. -/
def aesEcbEncrypt (key data : Bytes) : Bytes :=
  let rks := aesRoundKeys key
  ((chunks 16 data).map (aesEncryptRk rks)).flatten

/-- ECB decryption of whole blocks. -/
def aesEcbDecrypt (key data : Bytes) : Bytes :=
  let rks := aesRoundKeys key
  ((chunks 16 data).map (aesDecryptRk rks)).flatten

/-- CBC encryption of whole blocks, with the last ciphertext block beside it. -/
def aesCbcEncrypt (key iv data : Bytes) : Bytes × Bytes :=
  let rks := aesRoundKeys key
  (chunks 16 data).foldl (fun (acc : Bytes × Bytes) blk =>
    let c := aesEncryptRk rks (xorBytes blk acc.2)
    (acc.1 ++ c, c)) ([], iv)

/-- CBC decryption of whole blocks, with the last ciphertext block beside it. -/
def aesCbcDecrypt (key iv data : Bytes) : Bytes × Bytes :=
  let rks := aesRoundKeys key
  (chunks 16 data).foldl (fun (acc : Bytes × Bytes) blk =>
    (acc.1 ++ xorBytes (aesDecryptRk rks blk) acc.2, blk)) ([], iv)

/-- The next counter block: the low 32 bits, big-endian, plus one. -/
def aesInc32 (blk : Bytes) : Bytes :=
  blk.take 12 ++ beBytes 4 (beNat (blk.drop 12) + 1)

/-- CTR over data from counter block `ctr`, with the counter block after it. -/
def aesCtrFrom (key ctr data : Bytes) : Bytes × Bytes :=
  let rks := aesRoundKeys key
  (chunks 16 data).foldl (fun (acc : Bytes × Bytes) blk =>
    (acc.1 ++ xorBytes blk (aesEncryptRk rks acc.2), aesInc32 acc.2)) ([], ctr)

/-- CTR over data. -/
def aesCtr (key ctr data : Bytes) : Bytes := (aesCtrFrom key ctr data).1

/-- One step of the GCM field multiplication, over bit `127 - i` of x. -/
def ghashMulLoop (x : Nat) : Nat → Nat → Nat → Nat
  | 0, _, z => z
  | k + 1, v, z =>
    let z := if bit x k then z ^^^ v else z
    let v := if bit v 0 then (v >>> 1) ^^^ (0xE1 <<< 120) else v >>> 1
    ghashMulLoop x k v z

/-- Multiplication in the GCM field. -/
def ghashMul (x h : Nat) : Nat := ghashMulLoop x 128 h 0

/-- GHASH continued over whole or zero-padded blocks. -/
def ghashFrom (h y : Nat) (data : Bytes) : Nat :=
  (chunks 16 data).foldl (fun y blk => ghashMul (y ^^^ beNat (padTo 16 blk)) h) y

/-- The pre-counter block of a 96-bit IV. -/
def gcmJ0 (iv : Bytes) : Bytes := iv ++ [0, 0, 0, 1]

/-- The full 16-byte GCM tag over AAD and ciphertext. -/
def gcmTag (key iv aad ct : Bytes) : Bytes :=
  let rks := aesRoundKeys key
  let h := beNat (aesEncryptRk rks (zeros 16))
  let y := ghashFrom h (ghashFrom h 0 aad) ct
  let y := ghashFrom h y (beBytes 8 (8 * aad.length) ++ beBytes 8 (8 * ct.length))
  xorBytes (beBytes 16 y) (aesEncryptRk rks (gcmJ0 iv))

/-- GCM encryption: ciphertext and full tag. -/
def gcmEncrypt (key iv aad pt : Bytes) : Bytes × Bytes :=
  let ct := aesCtr key (aesInc32 (gcmJ0 iv)) pt
  (ct, gcmTag key iv aad ct)

/-- GCM decryption against a tag of any length from the front; none when the tag does not verify. -/
def gcmDecrypt (key iv aad ct tag : Bytes) : Option Bytes :=
  if (gcmTag key iv aad ct).take tag.length = tag then some (aesCtr key (aesInc32 (gcmJ0 iv)) ct) else none

/-- Doubling in the CMAC field. -/
def cmacDouble (n : Nat) : Nat :=
  if bit n 127 then ((n * 2) % 2 ^ 128) ^^^ 0x87 else n * 2

/-- CMAC continued over the blocks before the last. -/
def cmacBlocks (rks : List Bytes) (st data : Bytes) : Bytes :=
  (chunks 16 data).foldl (fun st blk => aesEncryptRk rks (xorBytes st blk)) st

/-- AES-CMAC, full 16 bytes. -/
def cmac (key msg : Bytes) : Bytes :=
  let rks := aesRoundKeys key
  let l := beNat (aesEncryptRk rks (zeros 16))
  let k1 := cmacDouble l
  let k2 := cmacDouble k1
  let n := (msg.length + 15) / 16
  let head := 16 * (n - 1)
  let last := msg.drop head
  let lastBlk := if last.length = 16 then xorBytes last (beBytes 16 k1)
    else xorBytes (padTo 16 (last ++ [0x80])) (beBytes 16 k2)
  aesEncryptRk rks (xorBytes (cmacBlocks rks (zeros 16) (msg.take head)) lastBlk)

/-- The six passes of AES key wrap, from step `t`: the register A and the list of 8-byte blocks. -/
def kwWrapLoop (rks : List Bytes) (n : Nat) : Nat → Nat → Bytes → List Bytes → Bytes × List Bytes
  | 0, _, a, rs => (a, rs)
  | fuel + 1, t, a, rs =>
    let i := (t - 1) % n
    let b := aesEncryptRk rks (a ++ rs.getD i [])
    kwWrapLoop rks n fuel (t + 1) (xorBytes (b.take 8) (beBytes 8 t)) (rs.set i (b.drop 8))

/-- AES key wrap of RFC 3394 with the default initial value. -/
def kwWrap (kek data : Bytes) : Bytes :=
  let rs := chunks 8 data
  let r := kwWrapLoop (aesRoundKeys kek) rs.length (6 * rs.length) 1 (List.replicate 8 0xA6) rs
  r.1 ++ r.2.flatten

/-- The six passes of key unwrap, from step `t` down to 1. -/
def kwUnwrapLoop (rks : List Bytes) (n : Nat) : Nat → Bytes → List Bytes → Bytes × List Bytes
  | 0, a, rs => (a, rs)
  | t + 1, a, rs =>
    let i := t % n
    let b := aesDecryptRk rks (xorBytes a (beBytes 8 (t + 1)) ++ rs.getD i [])
    kwUnwrapLoop rks n t (b.take 8) (rs.set i (b.drop 8))

/-- AES key unwrap; none when the integrity value is wrong. -/
def kwUnwrap (kek data : Bytes) : Option Bytes :=
  let rs := chunks 8 (data.drop 8)
  let r := kwUnwrapLoop (aesRoundKeys kek) rs.length (6 * rs.length) (data.take 8) rs
  if r.1 = List.replicate 8 0xA6 then some r.2.flatten else none

end Sys2Proof.Machine
end

