-- ==== Sys2Proof/Machine/Sha.lean ====
section
/-! DEFINITION. SHA-256, SHA-384 and SHA-512 (FIPS 180-4) and HMAC (FIPS 198-1). -/

namespace Sys2Proof.Machine

/-- The 80 round constants of SHA-512, entry i in bits 64i+63 to 64i; the upper halves of the first 64 are SHA-256's. -/
def shaKPacked : Nat :=
  0x6c44198c4a4758175fcb6fab3ad6faec597f299cfc657e2a4cc5d4becb3e42b6431d67c49c100d4c3c9ebe0a15c9bebc32caab7b40c7249328db77f523047d841b710b35131c471b113f9804bef90dae0a637dc5a2c898a606f067aa72176fbaf57d4f7fee6ed178eada7dd6cde0eb1ed186b8c721c0c207ca273eceea26619cc67178f2e372532bbef9a3f7b2c67915a4506cebde82bde990befffa23631e288cc702081a6439ec84c87814a1f0ab7278a5636f43172f60748f82ee5defb2fc682e6ff3d6b2b8a35b9cca4f7763e3734ed8aa4ae3418acb391c0cb3c5c95a6334b0bcb5e19b48a82748774cdf8eeb991e376c085141ab5319a4c116b8d2d0c8106aa07032bbd1b8f40e35855771202ad69906245565a910d192e819d6ef5218c76c51a30654be30c24b8b70d0f89791a81a664bbc423001a2bfe8a14cf1036492722c851482353b81c2c92e47edaee6766a0abb3c77b2a8650a73548baf63de53380d139d95b3df4d2c6dfc5ac42aed2e1b21385c26c92627b70a8546d22ffc142929670a0e6e7006ca6351e003826fd5a79147930aa725c6e00bf33da88fc2bf597fc7beef0ee4b00327c898fb213fa831c66d2db43210983e5152ee66dfab76f988da831153b55cb0a9dcbd41fbd44a7484aa6ea6e4832de92c6f592b0275240ca1cc77ac9c650fc19dc68b8cd5b5efbe4786384f25e3e49b69c19ef14ad2c19bf174cf6926949bdc06a725c7123580deb1fe3b1696b172be5d74f27b896f550c7dc3d5ffb4e2243185be4ee4b28c12835b0145706fbed807aa98a3030242ab1c5ed5da6d8118923f82a4af194f9b59f111f1b605d0193956c25bf348b538e9b5dba58189dbbcb5c0fbcfec4d3b2f7137449123ef65cd428a2f98d728ae22

/-- The initial values of SHA-512; their upper halves are SHA-256's. -/
def shaH512 : List Nat := [0x6a09e667f3bcc908, 0xbb67ae8584caa73b, 0x3c6ef372fe94f82b, 0xa54ff53a5f1d36f1, 0x510e527fade682d1, 0x9b05688c2b3e6c1f, 0x1f83d9abfb41bd6b, 0x5be0cd19137e2179]

/-- The initial values of SHA-384. -/
def shaH384 : List Nat := [0xcbbb9d5dc1059ed8, 0x629a292a367cd507, 0x9159015a3070dd17, 0x152fecd8f70e5939, 0x67332667ffc00b31, 0x8eb44a8768581511, 0xdb0c2e0d64f98fa7, 0x47b5481dbefa4fa4]

/-- The hash functions the spec names. -/
inductive HashAlg where
  | sha256
  | sha384
  | sha512
  deriving DecidableEq, Repr

/-- The digest length in bytes. -/
def hashLen : HashAlg → Nat
  | .sha256 => 32
  | .sha384 => 48
  | .sha512 => 64

/-- The block length in bytes. -/
def hashBlock : HashAlg → Nat
  | .sha256 => 64
  | .sha384 => 128
  | .sha512 => 128

/-- The word width in bits. -/
def hashWord : HashAlg → Nat
  | .sha256 => 32
  | .sha384 => 64
  | .sha512 => 64

/-- The rounds of the compression function. -/
def hashRounds : HashAlg → Nat
  | .sha256 => 64
  | .sha384 => 80
  | .sha512 => 80

/-- Round constant `i`. -/
def hashK (a : HashAlg) (i : Nat) : Nat :=
  match a with
  | .sha256 => (shaKPacked >>> (64 * i + 32)) % 2 ^ 32
  | .sha384 => (shaKPacked >>> (64 * i)) % 2 ^ 64
  | .sha512 => (shaKPacked >>> (64 * i)) % 2 ^ 64

/-- The initial chaining value. -/
def hashInit : HashAlg → List Nat
  | .sha256 => shaH512.map (· >>> 32)
  | .sha384 => shaH384
  | .sha512 => shaH512

/-- Rotation right of a `w`-bit value. -/
def rotr (w n x : Nat) : Nat := (x >>> n) ||| ((x <<< (w - n)) % 2 ^ w)

/-- The lower-case sigma functions of the message schedule: two rotations and a shift. -/
def hashSmall (w r1 r2 s x : Nat) : Nat := rotr w r1 x ^^^ rotr w r2 x ^^^ (x >>> s)

/-- The upper-case sigma functions: three rotations. -/
def hashBig (w r1 r2 r3 x : Nat) : Nat := rotr w r1 x ^^^ rotr w r2 x ^^^ rotr w r3 x

def hashSmall0 (a : HashAlg) (x : Nat) : Nat :=
  match a with
  | .sha256 => hashSmall 32 7 18 3 x
  | _ => hashSmall 64 1 8 7 x

def hashSmall1 (a : HashAlg) (x : Nat) : Nat :=
  match a with
  | .sha256 => hashSmall 32 17 19 10 x
  | _ => hashSmall 64 19 61 6 x

def hashBig0 (a : HashAlg) (x : Nat) : Nat :=
  match a with
  | .sha256 => hashBig 32 2 13 22 x
  | _ => hashBig 64 28 34 39 x

def hashBig1 (a : HashAlg) (x : Nat) : Nat :=
  match a with
  | .sha256 => hashBig 32 6 11 25 x
  | _ => hashBig 64 14 18 41 x

/-- The rounds from round `i`, the last 16 schedule words kept oldest first. -/
def hashRoundsLoop (alg : HashAlg) : Nat → Nat → List Nat → List Nat → List Nat
  | 0, _, _, v => v
  | fuel + 1, i, ws, v =>
    match v with
    | [a, b, c, d, e, f, g, h] =>
      let m := 2 ^ hashWord alg
      let w0 := ws.headD 0
      let t1 := h + hashBig1 alg e + ((e &&& f) ^^^ ((m - 1 - e) &&& g)) + hashK alg i + w0
      let t2 := hashBig0 alg a + ((a &&& b) ^^^ (a &&& c) ^^^ (b &&& c))
      let wn := (hashSmall1 alg (ws.getD 14 0) + ws.getD 9 0 + hashSmall0 alg (ws.getD 1 0) + w0) % m
      hashRoundsLoop alg fuel (i + 1) (ws.drop 1 ++ [wn]) [(t1 + t2) % m, a, b, c, (d + t1) % m, e, f, g]
    | v => v

/-- The compression function over one block. -/
def hashCompress (alg : HashAlg) (v : List Nat) (blk : Bytes) : List Nat :=
  let ws := (chunks (hashWord alg / 8) blk).map beNat
  List.zipWith (fun x y => (x + y) % 2 ^ hashWord alg) v (hashRoundsLoop alg (hashRounds alg) 0 ws v)

/-- The padding that ends a message of `len` bytes. -/
def hashPad (alg : HashAlg) (len : Nat) : Bytes :=
  let b := hashBlock alg
  let l := b / 8
  let z := (2 * b - 1 - l - len % b) % b
  0x80 :: (zeros z ++ beBytes l (8 * len))

/-- The digest of a message. -/
def hash (alg : HashAlg) (msg : Bytes) : Bytes :=
  let v := (chunks (hashBlock alg) (msg ++ hashPad alg msg.length)).foldl (hashCompress alg) (hashInit alg)
  ((v.map (beBytes (hashWord alg / 8))).flatten).take (hashLen alg)

/-- SHA-256. -/
def sha256 (msg : Bytes) : Bytes := hash .sha256 msg

/-- SHA-384. -/
def sha384 (msg : Bytes) : Bytes := hash .sha384 msg

/-- HMAC; a key longer than a block is hashed first. -/
def hmac (alg : HashAlg) (key msg : Bytes) : Bytes :=
  let b := hashBlock alg
  let k := padTo b (if key.length > b then hash alg key else key)
  hash alg (k.map (· ^^^ 0x5C) ++ hash alg (k.map (· ^^^ 0x36) ++ msg))

/-- HMAC-SHA-256. -/
def hmac256 (key msg : Bytes) : Bytes := hmac .sha256 key msg

end Sys2Proof.Machine
end

