-- ==== Sys2Proof/Machine/Ecc.lean ====
section
/-! DEFINITION. Elliptic curves P-256 and P-384 (FIPS 186-5), ECDSA and ECDH, and RSA (RFC 8017) on natural numbers. -/

namespace Sys2Proof.Machine

/-- The two curves of the spec. -/
inductive Curve where
  | p256
  | p384
  deriving DecidableEq, Repr

/-- The field prime. -/
def curveP : Curve → Nat
  | .p256 => 0xFFFFFFFF00000001000000000000000000000000FFFFFFFFFFFFFFFFFFFFFFFF
  | .p384 => 0xFFFFFFFFFFFFFFFFFFFFFFFFFFFFFFFFFFFFFFFFFFFFFFFFFFFFFFFFFFFFFFFEFFFFFFFF0000000000000000FFFFFFFF

/-- The order of the base point. -/
def curveN : Curve → Nat
  | .p256 => 0xFFFFFFFF00000000FFFFFFFFFFFFFFFFBCE6FAADA7179E84F3B9CAC2FC632551
  | .p384 => 0xFFFFFFFFFFFFFFFFFFFFFFFFFFFFFFFFFFFFFFFFFFFFFFFFC7634D81F4372DDF581A0DB248B0A77AECEC196ACCC52973

/-- The curve coefficient b. -/
def curveB : Curve → Nat
  | .p256 => 0x5AC635D8AA3A93E7B3EBBD55769886BC651D06B0CC53B0F63BCE3C3E27D2604B
  | .p384 => 0xB3312FA7E23EE7E4988E056BE3F82D19181D9C6EFE8141120314088F5013875AC656398D8A2ED19D2A85C8EDD3EC2AEF

/-- The base point. -/
def curveG : Curve → Nat × Nat
  | .p256 => (0x6B17D1F2E12C4247F8BCE6E563A440F277037D812DEB33A0F4A13945D898C296,
              0x4FE342E2FE1A7F9B8EE7EB4A7C0F9E162BCE33576B315ECECBB6406837BF51F5)
  | .p384 => (0xAA87CA22BE8B05378EB1C71EF320AD746E1D3B628BA79B9859F741E082542A385502F25DBF55296C3A545E3872760AB7,
              0x3617DE4A96262C6F5D9E98BF9292DC29F8F41DBD289A147CE9DA3113B5F0B8C00A60B1CE1D7E819D7A431D7C90EA0E5F)

/-- The length of a coordinate or scalar in bytes. -/
def curveLen : Curve → Nat
  | .p256 => 32
  | .p384 => 48

/-- The hash ECDSA uses with the curve. -/
def curveHash : Curve → HashAlg
  | .p256 => .sha256
  | .p384 => .sha384

/-- Exponentiation modulo `m` over the low `k` bits of `e`. -/
def powModLoop (m e : Nat) : Nat → Nat → Nat → Nat
  | 0, _, acc => acc
  | k + 1, base, acc =>
    powModLoop m (e / 2) k (base * base % m) (if e % 2 = 1 then acc * base % m else acc)

/-- `b ^ e` modulo `m`, for an exponent below `2 ^ k`. -/
def powMod (k b e m : Nat) : Nat := powModLoop m e k (b % m) (1 % m)

/-- Subtraction modulo `p`. -/
def subMod (p a b : Nat) : Nat := (a % p + (p - b % p)) % p

/-- Inverse modulo a prime. -/
def invMod (p a : Nat) : Nat := powMod 384 a (p - 2) p

/-- A point in Jacobian coordinates; the point at infinity has Z = 0. -/
structure JPoint where
  x : Nat
  y : Nat
  z : Nat
  deriving DecidableEq, Repr

/-- The point at infinity. -/
def jInfinity : JPoint := ⟨1, 1, 0⟩

/-- Doubling, for coefficient a = -3. -/
def jDouble (p : Nat) (q : JPoint) : JPoint :=
  if q.z = 0 ∨ q.y = 0 then jInfinity
  else
    let zz := q.z * q.z % p
    let yy := q.y * q.y % p
    let s := 4 * q.x * yy % p
    let m := 3 * (subMod p q.x zz) * (q.x + zz) % p
    let x := subMod p (m * m) (2 * s)
    ⟨x, subMod p (m * subMod p s x) (8 * yy * yy), 2 * q.y * q.z % p⟩

/-- Addition of two points. -/
def jAdd (p : Nat) (a b : JPoint) : JPoint :=
  if a.z = 0 then b
  else if b.z = 0 then a
  else
    let za := a.z * a.z % p
    let zb := b.z * b.z % p
    let ua := a.x * zb % p
    let ub := b.x * za % p
    let sa := a.y * zb % p * b.z % p
    let sb := b.y * za % p * a.z % p
    let h := subMod p ub ua
    let r := subMod p sb sa
    if h = 0 then (if r = 0 then jDouble p a else jInfinity)
    else
      let hh := h * h % p
      let hhh := h * hh % p
      let v := ua * hh % p
      let x := subMod p (r * r) (hhh + 2 * v)
      ⟨x, subMod p (r * subMod p v x) (sa * hhh), h * a.z % p * b.z % p⟩

/-- Scalar multiplication over the low `k` bits of `e`, most significant first. -/
def jMulLoop (p e : Nat) (q : JPoint) : Nat → JPoint → JPoint
  | 0, acc => acc
  | k + 1, acc =>
    let d := jDouble p acc
    jMulLoop p e q k (if bit e k then jAdd p d q else d)

/-- The affine coordinates; none for the point at infinity. -/
def jAffine (p : Nat) (q : JPoint) : Option (Nat × Nat) :=
  if q.z = 0 then none
  else
    let zi := invMod p q.z
    let zi2 := zi * zi % p
    some (q.x * zi2 % p, q.y * zi2 % p * zi % p)

/-- A scalar times an affine point. -/
def eccMul (c : Curve) (e : Nat) (q : Nat × Nat) : Option (Nat × Nat) :=
  jAffine (curveP c) (jMulLoop (curveP c) e ⟨q.1, q.2, 1⟩ (8 * curveLen c) jInfinity)

/-- The public point of a private scalar, as X then Y big-endian. -/
def eccPublic (c : Curve) (d : Nat) : Bytes :=
  match eccMul c d (curveG c) with
  | some (x, y) => beBytes (curveLen c) x ++ beBytes (curveLen c) y
  | none => zeros (2 * curveLen c)

/-- Public-key validation: coordinates below p, on the curve. -/
def eccOnCurve (c : Curve) (x y : Nat) : Bool :=
  let p := curveP c
  x < p && y < p && (y * y % p == (x * x * x + (p - 3) * x + curveB c) % p)

/-- The point of a compressed X with the parity of FORM 2 or 3; none when X has no square root (R172). -/
def eccDecompress (c : Curve) (form x : Nat) : Option (Nat × Nat) :=
  let p := curveP c
  let t := (x * x * x + (p - 3) * x + curveB c) % p
  let y := powMod 384 t ((p + 1) / 4) p
  if x < p ∧ y * y % p = t then some (x, if y % 2 = form % 2 then y else (p - y) % p) else none

/-- X then Y of a SEC1 point encoding, compressed or not; none when it is not a valid point. -/
def sec1Point (c : Curve) (b : Bytes) : Option Bytes :=
  let l := curveLen c
  let form := fieldBE b 0 1
  let x := fieldBE b 1 l
  if form = 4 ∧ b.length = 2 * l + 1 then
    let y := fieldBE b (1 + l) l
    if eccOnCurve c x y then some (beBytes l x ++ beBytes l y) else none
  else if (form = 2 ∨ form = 3) ∧ b.length = l + 1 then
    (eccDecompress c form x).map fun q => beBytes l q.1 ++ beBytes l q.2
  else none

/-- X then Y of a PUBKEY field of 2L + 16 bytes; none when it is not a valid point (R172). -/
def pubkeyPoint (c : Curve) (b : Bytes) : Option Bytes :=
  let l := curveLen c
  let form := fieldBE b 0 1
  let x := fieldBE b 16 l
  let y := fieldBE b (16 + l) l
  if slice b 1 15 != zeros 15 then none
  else if form = 4 then (if eccOnCurve c x y then some (beBytes l x ++ beBytes l y) else none)
  else if (form = 2 ∨ form = 3) ∧ y = 0 then
    (eccDecompress c form x).map fun q => beBytes l q.1 ++ beBytes l q.2
  else none

/-- One DER INTEGER of a signature at the front of a string: its value and the rest, in minimal encoding of 1 to
`l + 1` bytes (R193). -/
def derInt (l : Nat) (b : Bytes) : Option (Nat × Bytes) :=
  match b with
  | t :: n :: rest =>
    let k := n.toNat
    let body := rest.take k
    let first := (body.headD 0).toNat
    let second := ((body.drop 1).headD 0).toNat
    if t = 0x02 ∧ 1 ≤ k ∧ k ≤ l + 1 ∧ body.length = k ∧ first < 128 ∧ (k = 1 ∨ first ≠ 0 ∨ 128 ≤ second) then
      some (beNat body, rest.drop k)
    else none
  | _ => none

/-- A DER ECDSA-Sig-Value read as r then s of L bytes each (R193). -/
def derSig (c : Curve) (b : Bytes) : Option Bytes :=
  let l := curveLen c
  if fieldBE b 0 1 = 0x30 ∧ fieldBE b 1 1 + 2 = b.length then
    match derInt l (b.drop 2) with
    | none => none
    | some (r, rest) =>
      match derInt l rest with
      | some (s, []) => if r < 256 ^ l ∧ s < 256 ^ l then some (beBytes l r ++ beBytes l s) else none
      | _ => none
  else none

/-- The integer ECDSA takes from a digest. -/
def ecdsaHashInt (c : Curve) (digest : Bytes) : Nat := beNat (digest.take (curveLen c))

/-- ECDSA signature with nonce `k`, as r then s big-endian. -/
def ecdsaSign (c : Curve) (d k : Nat) (digest : Bytes) : Bytes :=
  let n := curveN c
  let r := match eccMul c k (curveG c) with
    | some (x, _) => x % n
    | none => 0
  let s := invMod n k * ((ecdsaHashInt c digest + r * d) % n) % n
  beBytes (curveLen c) r ++ beBytes (curveLen c) s

/-- ECDSA verification of r and s against the public key X, Y. -/
def ecdsaVerify (c : Curve) (pub digest sig : Bytes) : Bool :=
  let n := curveN c
  let p := curveP c
  let l := curveLen c
  let x := fieldBE pub 0 l
  let y := fieldBE pub l l
  let r := fieldBE sig 0 l
  let s := fieldBE sig l l
  if !(eccOnCurve c x y) || r == 0 || s == 0 || r ≥ n || s ≥ n then false
  else
    let w := invMod n s
    let g := curveG c
    let a := jMulLoop p (ecdsaHashInt c digest * w % n) ⟨g.1, g.2, 1⟩ (8 * l) jInfinity
    let b := jMulLoop p (r * w % n) ⟨x, y, 1⟩ (8 * l) jInfinity
    match jAffine p (jAdd p a b) with
    | some (vx, _) => vx % n == r
    | none => false

/-- The ECDH shared secret: the X coordinate of d times the peer's point; none where the peer's key is not valid. -/
def ecdh (c : Curve) (d : Nat) (pub : Bytes) : Option Bytes :=
  let l := curveLen c
  let x := fieldBE pub 0 l
  let y := fieldBE pub l l
  if eccOnCurve c x y then
    match eccMul c d (x, y) with
    | some (z, _) => some (beBytes l z)
    | none => none
  else none

/-- MGF1 with the hash given: `fuel` digests from counter `i`. -/
def mgf1Loop (alg : HashAlg) (seed : Bytes) : Nat → Nat → Bytes
  | 0, _ => []
  | fuel + 1, i => hash alg (seed ++ beBytes 4 i) ++ mgf1Loop alg seed fuel (i + 1)

/-- MGF1 cut to `len` bytes. -/
def mgf1 (alg : HashAlg) (seed : Bytes) (len : Nat) : Bytes :=
  (mgf1Loop alg seed (ceilDiv len (hashLen alg)) 0).take len

/-- The DigestInfo prefix of a hash. -/
def digestInfoPrefix : HashAlg → Bytes
  | .sha256 => [0x30, 0x31, 0x30, 0x0D, 0x06, 0x09, 0x60, 0x86, 0x48, 0x01, 0x65, 0x03, 0x04, 0x02, 0x01, 0x05, 0x00, 0x04, 0x20]
  | .sha384 => [0x30, 0x41, 0x30, 0x0D, 0x06, 0x09, 0x60, 0x86, 0x48, 0x01, 0x65, 0x03, 0x04, 0x02, 0x02, 0x05, 0x00, 0x04, 0x30]
  | .sha512 => [0x30, 0x51, 0x30, 0x0D, 0x06, 0x09, 0x60, 0x86, 0x48, 0x01, 0x65, 0x03, 0x04, 0x02, 0x03, 0x05, 0x00, 0x04, 0x40]

/-- EMSA-PKCS1-v1_5 encoding of a digest into `len` bytes. -/
def emsaPkcs1 (alg : HashAlg) (digest : Bytes) (len : Nat) : Bytes :=
  let t := digestInfoPrefix alg ++ digest
  [0x00, 0x01] ++ ones (len - t.length - 3) ++ [0x00] ++ t

/-- The top byte of a PSS block, whose leftmost bits beyond `emBits` are 0 (RFC 8017). -/
def pssTop (emBits : Nat) (b : Bytes) : Bytes :=
  match b with
  | [] => []
  | x :: xs => byte (x.toNat % 2 ^ (emBits - 8 * (ceilDiv emBits 8 - 1))) :: xs

/-- EMSA-PSS encoding of RFC 8017 with the salt given, for `emBits` bits, one less than the modulus has; `len` is the modulus's
length, so that a block shorter than it gets a leading zero byte. -/
def emsaPss (alg : HashAlg) (digest salt : Bytes) (emBits len : Nat) : Bytes :=
  let em := ceilDiv emBits 8
  let h := hash alg (zeros 8 ++ digest ++ salt)
  let db := zeros (em - salt.length - h.length - 2) ++ [0x01] ++ salt
  let masked := pssTop emBits (xorBytes db (mgf1 alg h (em - h.length - 1)))
  zeros (len - em) ++ masked ++ h ++ [0xBC]

/-- EMSA-PSS verification of RFC 8017 with salt length `sLen`, on a block of the modulus's length. -/
def emsaPssVerify (alg : HashAlg) (digest : Bytes) (emBits : Nat) (block : Bytes) (sLen : Nat) : Bool :=
  let hl := hashLen alg
  let len := ceilDiv emBits 8
  let em := block.drop (block.length - len)
  if block.take (block.length - len) != zeros (block.length - len) then false
  else if len < hl + sLen + 2 then false
  else if em.getLastD 0 != 0xBC then false
  else
    let masked := em.take (len - hl - 1)
    let h := (em.drop (len - hl - 1)).take hl
    if pssTop emBits masked != masked then false
    else
      let db := pssTop emBits (xorBytes masked (mgf1 alg h (len - hl - 1)))
      let salt := db.drop (db.length - sLen)
      if db.take (db.length - sLen) != zeros (db.length - sLen - 1) ++ [0x01] then false
      else hash alg (zeros 8 ++ digest ++ salt) == h

/-- RSA public operation on a signature of the modulus's length; none where the value is not below the modulus. -/
def rsaPublic (n e : Nat) (len : Nat) (sig : Bytes) : Option Bytes :=
  let s := beNat sig
  if s < n then some (beBytes len (powMod 64 s e n)) else none

/-- RSA private operation. -/
def rsaPrivate (n d : Nat) (len : Nat) (em : Bytes) : Bytes :=
  beBytes len (powMod (8 * len) (beNat em) d n)

end Sys2Proof.Machine
end

