-- ==== Sys2Proof/Config.lean ====
section
/-! DEFINITION. What one part fixes, and the values the spec leaves open. A constant without a body is a free value:
nothing in a proof can see what it is. -/

namespace Sys2Proof

/-- The random byte a unit draws (units 0 to 15 the channels, 16 management, 17 the tag, 18 the keep die, 19 the link entropy source), by its
draw count: every nonce, key, challenge, salt and raw sample of the spec is made of these. -/
opaque Config.freeByte : Nat → Nat → BitVec 8

/-- DEV_SERIAL: fuse-programmed at test (R32). -/
opaque Config.serial : BitVec 64

/-- The PCI vendor ID, which the spec does not give. -/
opaque Config.vendorId : BitVec 16

/-- GRADE fuse: false I, true E (R32). -/
opaque Config.gradeE : Bool

/-- Build numbers of the channel and management images (R32: no statement depends on a BUILD value). -/
opaque Config.channelBuild : BitVec 16

opaque Config.mgmtBuild : BitVec 16

/-- The boot ROM of the channel cores (false) and of management's (true), by offset. -/
opaque Config.bootRom : Bool → Nat → BitVec 8

/-- What DV_Q and DV_R hold after a DIVS of a by b shifted by n has run some of its steps: the spec gives no format. -/
opaque Config.divQ : BitVec 32 → BitVec 32 → Nat → Nat → BitVec 32

opaque Config.divR : BitVec 32 → BitVec 32 → Nat → Nat → BitVec 32

/-- The 256-bit pairing secret fused into both dies (R10). -/
opaque Config.pairingSecret : List (BitVec 8)

/-- The link key out of the pairing secret and the nonces of the logic die and the keep die (R10), which gives no function. -/
opaque Config.linkKdf : List (BitVec 8) → List (BitVec 8) → List (BitVec 8) → List (BitVec 8)

/-- The 32-bit field of direction bit (to the keep die) and port number in a frame's IV (R9), which gives no places. -/
opaque Config.linkField : Bool → Nat → BitVec 32

/-- Code, source and parameters of the crumb that records a failed link training (R12), by failure and field: no table gives them. -/
opaque Config.linkFailCrumb : Nat → Nat → BitVec 32

/-- What a page that power was lost under reads as (R357), by bank, boot count and page: its value modulo 3 is 0 for
erased, 1 for correct, 2 for uncorrectable. -/
opaque Config.tornPage : Nat → Nat → Nat → Nat

/-- Tarette's firmware signing key: X then Y of a P-384 point (R408). -/
opaque Config.firmwareKey : List (BitVec 8)

/-- Management's first key-encryption key and the device identity key, installed at final test (R529). -/
opaque Config.mgmtKek : List (BitVec 8)

opaque Config.dik : List (BitVec 8)

/-- A register of a block whose registers the spec names but does not lay out (HQ_ beside the frame unit, EV_, MG_, HP_, management's TP_
and SF_, the update ports), by unit, address and core cycle. -/
opaque Config.blockReg : Nat → Nat → Nat → BitVec 32

/-- Whether a store clears a core interrupt source at a block whose registers the spec does not lay out, by unit, address, value and
IRQ bit. -/
opaque Config.clearsCause : Nat → Nat → Nat → Nat → Bool

/-- Whether the blow of a lifecycle bit that a fall of power cuts reads as the new state (R406), by boot count. -/
opaque Config.blowLands : Nat → Bool

/-- Operations finished in the running PKE batch, by channel and core cycle. -/
opaque Config.pkeProgress : Nat → Nat → Nat

/-- The status of CARD_ERROR, which no table numbers (R526). -/
opaque Config.cardError : BitVec 16

/-- Bytes 240 to 251 of a journal entry, reserved for firmware use, contents not defined (R61): by SERIAL and byte. -/
opaque Config.journalSpare : Nat → Nat → BitVec 8

/-- The 16-bit seed of a generator of the tamper monitor after a number of reseeds (R434), by reseed and line. -/
opaque Config.crustSeed : Nat → Nat → BitVec 16

/-- The last two points of a Montgomery ladder, whose projective coordinates are randomised (R182, R188): by the operation's entry
and the cycle count of its core. -/
opaque Config.ladderPoints : List (BitVec 8) → Nat → List (BitVec 8)

end Sys2Proof
end

