-- ==== Sys2Proof/Machine/TypesCore.lean ====
section
/-! DEFINITION. The state of a Kenten core, of the memory behind it, and of the access table (spec 10, 11, 13). Field
defaults are the reset values. -/

namespace Sys2Proof.Machine

/-- Memory as its listed bytes, addresses rising, no entry equal to zero; an unlisted byte reads as zero. -/
abbrev Mem := List Host.Cell

/-- One entry of the access table (R328, R330). -/
structure AtEntry where
  /-- First and last 64-byte unit. -/
  first : Nat := 0
  last : Nat := 0
  stagedFirst : Nat := 0
  stagedLast : Nat := 0
  /-- AT_PERM bits [16:0]. -/
  perm : Nat := 0
  lock : Bool := false
  deriving DecidableEq, Repr

/-- The AT_ block: table, violation capture, SECDED capture, scrubber and bucket (R328 to R340). -/
structure AccessTable where
  /-- The table stands before the management map, not a channel's (R341, R394). -/
  mgmt : Bool := false
  entries : List AtEntry := List.replicate 63 ({} : AtEntry) ++
    [({ last := 0x3FFFFFF, stagedLast := 0x3FFFFFF, perm := 0x18007 } : AtEntry)]
  lockAll : Bool := false
  violAddr : Nat := 0
  violInfo : Nat := 0
  violValid : Bool := false
  /-- The capture was made for a master other than the core. -/
  violOther : Bool := false
  violCount : Nat := 0
  lockedWrite : Bool := false
  badEntry : Bool := false
  eccCaddr : Nat := 0
  eccCbit : Nat := 0
  eccUaddr : Nat := 0
  eccUmaster : Nat := 0
  eccUvalid : Bool := false
  /-- Words that read as uncorrectable, by physical address. -/
  badWords : List Nat := []
  /-- Line the scrubber reads next, complete passes, and the tick of the last complete pass. -/
  scrubLine : Nat := 0
  scrubPasses : Nat := 0
  scrubTick : Option Nat := none
  bucket : Nat := 0
  crossings : Nat := 0
  bucketThr : Nat := 16
  bucketLeak : Nat := 3600
  /-- Tick of the last leak. -/
  leakTick : Nat := 0
  deriving DecidableEq, Repr

/-- A segment register (R253). -/
structure Seg where
  base : Nat := 0
  limit : Nat := 0
  deriving DecidableEq, Repr

/-- An accumulator: its value, its value before the last write, and the cycle of that write (R269). -/
structure Acc where
  value : Int := 0
  before : Int := 0
  wrote : Option Nat := none
  deriving DecidableEq, Repr

/-- The state each world has its own bank of (R288). -/
structure Bank where
  segs : Vector Seg 6 := Vector.replicate 6 {}
  depth : Nat := 0
  a0 : Acc := {}
  a1 : Acc := {}
  deriving DecidableEq, Repr

/-- A result on its way to its slot (R266, R268). -/
structure Landing where
  due : Nat
  slot : Nat
  value : Word
  deriving DecidableEq, Repr

/-- A fault raised and not yet entered: vector, FADDR, FINFO (R293). -/
structure KFault where
  vector : Nat
  faddr : Nat := 0
  finfo : Nat := 0
  deriving DecidableEq, Repr

/-- A double fault not yet reported: vector, kind, address (R303). -/
structure DFault where
  vector : Nat
  kind : Nat
  addr : Nat
  deriving DecidableEq, Repr

/-- A branch whose delay slots are still to issue (R271). -/
structure Branch where
  slots : Nat
  taken : Bool
  target : Nat
  deriving DecidableEq, Repr

/-- Double-fault record of the SF_ block (R303, R304). -/
structure DfRecord where
  vector : Nat := 0
  kind : Nat := 0
  world : Bool := false
  level : Bool := false
  count : Nat := 0
  valid : Bool := false
  pc : Nat := 0
  addr : Nat := 0
  tag : Nat := 0
  deriving DecidableEq, Repr

/-- A Kenten core. -/
structure Kenten where
  pc : Nat := 0
  /-- Special register 0. -/
  psw : Word := 0x700
  regs : Vector Word 16 := Vector.replicate 16 0
  inner : Bank := { segs := #v[⟨0xFFFF0000, 0x10000⟩, {}, {}, {}, {}, {}] }
  outer : Bank := {}
  /-- PROG.LOOP and PROG.STEP. -/
  loop : Nat := 0
  step : Nat := 0
  lpStart : Nat := 0
  lpEnd : Nat := 0
  lpCount : Nat := 0
  lpStride : Nat := 0
  /-- The PC lies in an active LOOPS body. -/
  looping : Bool := false
  lpExit : Option Nat := none
  dvq : Word := 0
  dvr : Word := 0
  cycles : Nat := 0
  cycleHi : Nat := 0
  hblkWait : Nat := 0
  /-- Bytes the last HBLK_FEED found held in the context, for its resumption. -/
  hblkHeld : Nat := 0
  /-- Results not yet landed, the first due first. -/
  landings : List Landing := []
  branch : Option Branch := none
  wcsBaseI : Nat := 0xFFFF0000
  wcsLimitI : Nat := 0x10000
  wcsBaseO : Nat := 0
  wcsLimitO : Nat := 0
  frameBaseI : Nat := 0
  framePtrI : Nat := 0
  frameBaseO : Nat := 0
  framePtrO : Nat := 0
  frameTopI : Nat := 0
  frameTopO : Nat := 0
  irqEn : Nat := 0
  irqWorld : Nat := 0
  froute : Nat := 0
  gateEn : Nat := 0
  tcmp : Nat := 0xFFFFFFFFFFFFFFFF
  tcmpLow : Nat := 0xFFFFFFFF
  traceTag : Nat := 0
  /-- The long instruction at PC has completed PROG.STEP steps and resumes (R277). -/
  long : Bool := false
  /-- WAIT holds issue. -/
  waiting : Bool := false
  /-- A double fault or a lockstep miscompare stopped the core. -/
  halted : Bool := false
  fault : Option KFault := none
  dfault : Option DFault := none
  df : DfRecord := {}
  deriving DecidableEq, Repr

end Sys2Proof.Machine
end

