-- ==== Sys2Proof/Machine/TypesEngine.lean ====
section
/-! DEFINITION. The state of a channel's engines and monitors: public-key engine, hash engine, cipher engine, noise
source and DRBG instances, frame unit, flash bank and safety monitors (spec 05, 07, 08, 12, 14, 19). Field defaults are
the reset values. -/

namespace Sys2Proof.Machine

/-- The running PKE batch, its header checked (R177). -/
structure PkeRun where
  id : Nat
  op : Nat
  count : Nat
  entry : Nat
  result : Nat
  status : Nat
  /-- The key block the batch runs under. -/
  key : Bytes
  deriving DecidableEq, Repr

/-- A done entry of the PKE: identifier, outcome, COUNT_RUN. -/
structure PkeDone where
  id : Nat
  outcome : Nat
  countRun : Nat
  deriving DecidableEq, Repr

/-- Secret values that operand memory keeps of the last operation (R188); the key block's own are in `Pke.key`. -/
inductive PkeSecret where
  /-- ECDSA_SIGN: the last nonce k, k^−1 mod n and r·d. -/
  | signing (nonce inverse rd : Nat)
  /-- ECDH: the ephemeral d when the operation made one, Z, and the ladder's last two points. -/
  | agreement (ephemeral : Option Nat) (z ladder : Bytes)
  /-- KEYGEN: the last d. -/
  | generated (d : Nat)
  /-- RSA_PRIVATE: the last blinded exponents and both CRT halves of the last result. -/
  | exponentiation (dp dq half1 half2 : Nat)
  deriving DecidableEq, Repr

/-- The public-key engine (R184 to R192). -/
structure Pke where
  en : Bool := false
  irqEn : Bool := false
  qaddr : Nat := 0
  refused : Bool := false
  lastId : Nat := 0xFF
  nextId : Nat := 0
  /-- Pushed and not started: identifier and header address, oldest first. -/
  queue : List (Nat × Nat) := []
  running : Option PkeRun := none
  done : List PkeDone := []
  /-- The loaded key block: its address, its kind (0 EC P-256, 1 EC P-384, 2 and 3 RSA), its bytes. -/
  key : Option (Nat × Nat × Bytes) := none
  /-- What the last operation left beside the key block (R188). -/
  retained : Option PkeSecret := none
  dirty : Bool := false
  clearing : Bool := false
  /-- A PK_CLEAR recorded while a batch runs. -/
  clearPending : Bool := false
  /-- PK_ABORT reads 1. -/
  aborting : Bool := false
  /-- Firmware's pending list: journal indices of the jobs whose operations wait for the engine, longest first (R191). -/
  pending : List Nat := []
  /-- Batches that PK_ABORT ended: their done entries appear once operand memory is clear (R186). -/
  ending : List PkeDone := []
  irq : Word := 0
  errcnt : Nat := 0
  deriving DecidableEq, Repr

/-- A hash context: the message so far and what FINAL left (R194). -/
structure HashCtx where
  alg : Nat := 0
  hmac : Bool := false
  key : Bytes := []
  message : Bytes := []
  /-- INIT has run and FINAL has not. -/
  opened : Bool := false
  digest : Bytes := []
  deriving DecidableEq, Repr

/-- A FEED (with its source and length) or a FINAL waiting for its datapath. -/
structure HashOp where
  ctx : Nat
  final : Bool
  src : Nat := 0
  len : Nat := 0
  deriving DecidableEq, Repr

/-- The hash engine. -/
structure HashEngine where
  sel : Nat := 0
  alg : Nat := 0
  hmac : Bool := false
  src : Nat := 0
  len : Nat := 0
  done : Bool := false
  error : Bool := false
  key : Bytes := List.replicate 128 0
  ctxs : Vector HashCtx 4 := Vector.replicate 4 {}
  /-- The tree lane and the main datapath, oldest operation first. -/
  lane : List HashOp := []
  main : List HashOp := []
  deriving DecidableEq, Repr

/-- States of a cipher context. -/
inductive CxState where
  | free
  | held
  | keyed
  | opened
  | clearing
  deriving DecidableEq, Repr

/-- A queued command with what it captured at its write (R208). -/
structure CxCmd where
  cmd : Nat
  irq : Bool
  len : Nat
  src : Nat
  dst : Nat
  aux : Nat
  deriving DecidableEq, Repr

/-- The message a context has open. -/
structure CxMsg where
  /-- 0 after START, 1 in AAD, 2 in DATA. -/
  phase : Nat := 0
  iv : Bytes := []
  /-- The received counter of a TITLE32 decryption. -/
  inCtr : Nat := 0
  aad : Bytes := []
  data : Bytes := []
  /-- The counter block (CTR) or the chaining value (CBC). -/
  chain : Bytes := []
  dataCmds : Nat := 0
  /-- Extents written so far, for the zeroing of R219. -/
  written : List (Nat × Nat) := []
  /-- Where the held-back last block goes. -/
  heldDst : Nat := 0
  deriving DecidableEq, Repr

/-- A cipher context (R203 to R223). -/
structure Cx where
  st : CxState := .free
  /-- CX_CFG. -/
  cfg : Nat := 0
  refused : Bool := false
  writeRefused : Bool := false
  outcome : Nat := 0
  hwEmpty : Bool := false
  started : Bool := false
  usedEnc : Bool := false
  fifo : List CxCmd := []
  len : Nat := 0
  src : Nat := 0
  dst : Nat := 0
  aux : Nat := 0
  outlen : Nat := 0
  ctr : Nat := 0
  ctrLow : Nat := 0
  limit : Nat := 0
  inCtr : Nat := 0
  hw : Nat := 0
  fix : Bytes := List.replicate 8 0
  iv : Bytes := List.replicate 16 0
  used : Nat := 0
  total : Nat := 0
  key : Bytes := []
  msg : CxMsg := {}
  deriving DecidableEq, Repr

/-- The cipher engine. -/
structure Cipher where
  en : Bool := false
  irqEn : Bool := false
  waiting : Bool := false
  halted : Bool := false
  /-- Firmware keeps contexts 0 and 1, for the record-wrapping key and for its other unwraps and derivations (R225). -/
  standing : Bool := false
  /-- Firmware's wait list for a context: journal indices of the jobs that found none free (R225). -/
  waiters : List Nat := []
  freeSel : Nat := 0
  freeBusy : Bool := false
  prio : Nat := 0
  /-- The context without priority that was served last (R207). -/
  turn : Fin 8 := 7
  irq : Word := 0
  errcnt : Nat := 0
  /-- The value the last CE_ALLOC read returned. -/
  lastAlloc : Nat := 0
  cxs : Vector Cx 8 := Vector.replicate 8 {}
  deriving DecidableEq, Repr

/-- A request to a DRBG instance. -/
structure RngReq where
  cmd : Nat
  irq : Bool
  dst : Nat := 0
  len : Nat := 0
  inner : Bool := true
  sup : Bool := true
  deriving DecidableEq, Repr

/-- A DRBG instance (R314 to R318). -/
structure Drbg where
  /-- 0 UNINSTANTIATED, 1 READY, 2 RESEED_DUE, 3 ERROR. -/
  state : Nat := 0
  current : Option RngReq := none
  queue : List RngReq := []
  result : Nat := 0
  dst : Nat := 0
  len : Nat := 0
  count : Nat := 0
  reseeds : Nat := 0
  key : Bytes := []
  v : Bytes := []
  /-- Blocks asked for and not yet delivered, and those delivered. -/
  wants : Nat := 0
  blocks : List Bytes := []
  deriving DecidableEq, Repr

/-- States of the noise source, with their RG_STAT code. -/
inductive Source where
  | off
  | proofing
  | running
  | calibrating
  | failed
  | test
  deriving DecidableEq, Repr

/-- The code of a source state. -/
def sourceCode : Source → Nat
  | .off => 0
  | .proofing => 1
  | .running => 2
  | .calibrating => 3
  | .failed => 4
  | .test => 5

/-- The RG_ block. -/
structure Rng where
  irqEn : Bool := false
  source : Source := .off
  proofOk : Bool := false
  /-- PROOF_TRIES: attempts of the last boot. -/
  tries : Nat := 0
  /-- Failed attempts of the proofing repeated since (R313). -/
  again : Nat := 0
  alarms : Nat := 0
  run : Nat := 0
  last : Nat := 0
  /-- Tick calibration last completed. -/
  calTick : Option Nat := none
  irq : Word := 0
  tpEn : Bool := false
  rawRd : Bool := false
  /-- Health tests and conditioner in test mode: last value and its run, window position, reference, its count, samples. -/
  rctVal : Nat := 0
  rctRun : Nat := 0
  aptPos : Nat := 0
  aptRef : Nat := 0
  aptCnt : Nat := 0
  samples : List Nat := []
  tpDigest : Bytes := List.replicate 32 0
  /-- RG_RAW as last read. -/
  raw : Word := 0
  inst : Vector Drbg 8 := Vector.replicate 8 {}
  deriving DecidableEq, Repr

/-- The frame unit (R131). -/
structure FrameUnit where
  steps : Nat := 0
  regions : Nat := 0
  locs : Nat := 0
  count : Nat := 0
  phase : Bool := false
  busy : Bool := false
  first : Nat := 0
  fail : Bool := false
  cycles : Nat := 0
  deriving DecidableEq, Repr

/-- A sector of a flash bank: its flag region and the suspended mark (R343 to R358). -/
structure Sector where
  erases : Nat := 0
  format : Nat := 1
  incomplete : Bool := false
  suspended : Bool := false
  empty : Bool := true
  deriving DecidableEq, Repr

/-- A flash command in progress: CMD, flags, address, length, data latched. -/
structure NvCmd where
  cmd : Nat
  autosusp : Bool
  irq : Bool
  addr : Nat
  len : Nat
  buf : Bytes
  /-- The erase suspended itself (R356). -/
  selfSusp : Bool := false
  deriving DecidableEq, Repr

/-- A flash bank and its controller (R353 to R367). -/
structure NvBank where
  en : Bool := false
  irqEn : Bool := false
  scrubEn : Bool := true
  addr : Nat := 0
  len : Nat := 0
  buf : Bytes := List.replicate 512 0
  busy : Option NvCmd := none
  /-- The suspended erase. -/
  susp : Option NvCmd := none
  result : Nat := 0
  maxcorr : Nat := 0
  erasedPages : Nat := 0
  uncorrPages : Nat := 0
  irq : Word := 0
  uaddr : Nat := 0
  uvalid : Bool := false
  dropped : Bool := false
  /-- Refresh FIFO: page offset, correction count, and the tick of entry (R556). -/
  refresh : List (Nat × Nat × Nat) := []
  margin : Nat := 0
  bucket : Nat := 0
  crossings : Nat := 0
  thr : Nat := 64
  leak : Nat := 600
  /-- Tick of the last leak. -/
  leakTick : Nat := 0
  scrubPage : Nat := 0
  scrubTick : Option Nat := none
  sectors : List Sector := List.replicate 8 ({ format := 3 } : Sector) ++ List.replicate 63 ({} : Sector)
  /-- An update-port operation waits for the bank (R366). -/
  port : Bool := false
  /-- Programmed codewords: byte offset in the bank and data; a codeword not listed reads as erased. -/
  words : List (Nat × Bytes) := []
  /-- Codewords that read as uncorrectable, by byte offset. -/
  badWords : List Nat := []
  deriving DecidableEq, Repr

/-- A memory repair record (R474). -/
structure Repair where
  bank : Nat
  spare : Nat
  row : Nat
  bit : Nat
  seconds : Nat
  deriving DecidableEq, Repr

/-- The safety controller's registers of a channel (R462 to R477). -/
structure Safety where
  latched : Bool := false
  /-- Ticks of FAULT entries within the last hour. -/
  entries : List Nat := []
  mech : Nat := 0
  info : Nat := 0
  tag : Nat := 0
  count : Nat := 0
  valid : Bool := false
  /-- Tick at which FAULT was entered, for the 10 ms of R462. -/
  faultTick : Nat := 0
  wdogEn : Bool := false
  /-- Tick of the last kick. -/
  wdogTick : Nat := 0
  /-- Tick of the last completed logic BIST cycle (battery domain). -/
  bistTick : Nat := 0
  /-- Tick the next notice begins at. -/
  bistNext : Nat := 0
  debt : Bool := false
  /-- Tick at which the notice that runs began. -/
  noticeTick : Nat := 0
  mbDone : Bool := false
  mbFail : Bool := false
  mbRepaired : Bool := false
  mbUnrepairable : Bool := false
  mbBank : Nat := 0
  mbRepairs : Nat := 0
  mbAddr : Nat := 0
  mbBit : Nat := 0
  /-- Spares in use: eight SRAM banks, then engine memory. -/
  spares : List Nat := List.replicate 9 0
  /-- Repair records of the configuration log. -/
  repairs : List Repair := []
  deriving DecidableEq, Repr

end Sys2Proof.Machine
end

