-- ==== Sys2Proof/Machine/TypesHost.lean ====
section
/-! DEFINITION. The state of a function's slice of the hearth: DMA window, ring pairs, interrupts, faults, the writes
on their way to the host, and the management mailbox (spec 02). Field defaults are the reset values. -/

namespace Sys2Proof.Machine

/-- A 64-bit register written as two words, low first; it takes its new value with the high word (R31). -/
structure Reg64 where
  /-- The value in force. -/
  value : DWord := 0
  /-- The low word last written. -/
  low : Word := 0
  deriving DecidableEq, Repr

/-- The DMA window registers of a function (R36). -/
structure Window where
  base : Reg64 := {}
  /-- LIMIT holds bits [63:12]; bits [11:0] always read 0xFFF. -/
  limit : Reg64 := { value := 0xFFF }
  lock : Bool := false
  overlap : Bool := false
  badRange : Bool := false
  deriving DecidableEq, Repr

/-- One MSI-X table entry; the mask bit is 1 at reset (PCI Express Base). -/
structure MsixEntry where
  addr : DWord := 0
  data : Word := 0
  mask : Bool := true
  deriving DecidableEq, Repr

/-- What a posted write carries. -/
inductive WKind where
  | record
  | proof
  | treeNode
  | account
  /-- A whole tree image (R167, R168). -/
  | image
  | output
  | completion
  | msix
  | response
  deriving DecidableEq, Repr

/-- A posted write to host memory: transmitted, and not yet acknowledged by the link partner (R63). -/
structure HostWrite where
  kind : WKind
  /-- The journal index of the job it belongs to; for an MSI-X message the vector. -/
  jidx : Nat
  addr : Nat
  data : Bytes
  deriving DecidableEq, Repr

/-- A ring pair (R38 to R43). -/
structure RingPair where
  sqBase : Reg64 := {}
  cqBase : Reg64 := {}
  sqLog2 : Nat := 6
  cqLog2 : Nat := 6
  en : Bool := false
  irqEn : Bool := false
  cfgErr : Bool := false
  vec : Nat := 0
  coCount : Nat := 0
  coTime : Nat := 0
  sqHead : Nat := 0
  sqTail : Nat := 0
  cqHead : Nat := 0
  cqTail : Nat := 0
  phase : Bool := false
  /-- RING_SEQ.LAST and VALID. -/
  seqLast : Nat := 0
  seqValid : Bool := false
  /-- The inline copies held, by ring slot; at most 8 (R40). -/
  inline : List (Nat × Bytes) := []
  /-- Counted completions posted since the vector last fired (R55). -/
  counted : Nat := 0
  /-- The CQ full source was raised for the completion now waiting (R42). -/
  fullRaised : Bool := false
  deriving DecidableEq, Repr

/-- A channel function's slice of the hearth. -/
structure Slice where
  win : Window := {}
  pairs : Vector RingPair 4 := #v[{}, { vec := 1 }, { vec := 2 }, { vec := 3 }]
  /-- CH_CTRL. -/
  en : Bool := false
  sleepOk : Bool := false
  idle : Nat := 0x0A
  /-- CH_ARB. -/
  w1 : Nat := 8
  w2 : Nat := 2
  w3 : Nat := 1
  /-- What is left of the round of R48 for SQ1, SQ2 and SQ3. -/
  left1 : Nat := 8
  left2 : Nat := 2
  left3 : Nat := 1
  irqEn : Word := 0
  irqStat : Word := 0
  /-- CH_FAULT bits [5:0]; FATAL is computed. -/
  fault : Word := 0
  faultValue : Nat := 0
  faultQueue : Nat := 0
  faultBit : Nat := 0
  msix : List MsixEntry := List.replicate 32 {}
  /-- The pending-bit array: vectors raised while masked. -/
  pba : List Nat := []
  /-- Writes handed to the hearth, oldest first, not yet acknowledged; while its link is down it transmits none. -/
  sent : List HostWrite := []
  /-- The function is in D3hot (R546). -/
  d3hot : Bool := false
  /-- An advisory non-fatal error is logged against the function (R29). -/
  advisory : Bool := false
  deriving DecidableEq, Repr

/-- Where a mailbox message stands (R57 to R59). -/
inductive MbPhase where
  | idle
  /-- GO accepted; management has not taken it up. -/
  | waiting
  deriving DecidableEq, Repr

/-- The mailbox registers and function 0's slice of the hearth. -/
structure Fn0 where
  win : Window := {}
  msix : List MsixEntry := List.replicate 64 {}
  pba : List Nat := []
  sent : List HostWrite := []
  d3hot : Bool := false
  /-- A fault in function 0's slice stands: the function is faulted (R18, R34). -/
  faulted : Bool := false
  phase : MbPhase := .idle
  done : Bool := false
  status : Nat := 0
  req : Reg64 := {}
  reqLen : Nat := 0
  rsp : Reg64 := {}
  rspLen : Nat := 0
  /-- The request taken up and not yet answered: command, flags, sequence, tag and payload. -/
  current : Option (Nat × Nat × Nat × Nat × Bytes) := none
  /-- The response buffer as last written. -/
  rspData : Bytes := []
  /-- Device-level sources pending on vectors 1 to 63. -/
  pend : List Nat := []
  deriving DecidableEq, Repr

/-- Channel states (R33). -/
inductive ChState where
  | reset
  | booting
  | ready
  | asleep
  | bist
  | fault
  | recovery
  | tampered
  | waitMgmt
  | waitLink
  deriving DecidableEq, Repr

/-- The code CH_STATE.STATE shows. -/
def chStateCode : ChState → Nat
  | .reset => 1
  | .booting => 2
  | .ready => 3
  | .asleep => 4
  | .bist => 5
  | .fault => 6
  | .recovery => 7
  | .tampered => 8
  | .waitMgmt => 9
  | .waitLink => 10

/-- An event record as its originator makes it (R417, R418); SUPPRESSED, CRC and MARK are added when it is filed. -/
structure Crumb where
  code : Nat
  source : Nat
  seconds : Nat
  cycles : Nat
  p0 : Nat := 0
  p1 : Nat := 0
  p2 : Nat := 0
  p3 : Nat := 0
  deriving DecidableEq, Repr

/-- A channel's event port (R20): at most 32 held crumbs, oldest first, and the count of crumbs dropped since. -/
structure EventPort where
  held : List Crumb := []
  drops : Nat := 0
  deriving DecidableEq, Repr

end Sys2Proof.Machine
end

