-- ==== Sys2Proof/Machine/TypesJobs.lean ====
section
/-! DEFINITION. The state behind a channel's jobs: meter records, shard state in the battery domain, the governor, pair
state, caches, recipes, programs, keys and the journal (spec 03 to 07, 09, 15). -/

namespace Sys2Proof.Machine

/-- A submission entry, decoded (R44). -/
structure Sub where
  opcode : Nat := 0
  flags : Nat := 0
  seq : Nat := 0
  recipe : Nat := 0xFFFF
  hostTag : Nat := 0
  meter : Nat := 0
  recAddr : Nat := 0
  proofAddr : Nat := 0
  inAddr : Nat := 0
  outAddr : Nat := 0
  inLen : Nat := 0
  outLen : Nat := 0
  /-- Bytes 56 to 63 as a little-endian number. -/
  param : Nat := 0
  deriving DecidableEq, Repr

/-- A meter record in plaintext (R132). -/
structure MRec where
  meter : Nat := 0
  title : Bytes := []
  /-- Byte 12 whole: suite [1:0], MKDK generation [3:2]. -/
  suiteByte : Nat := 0
  pendingId : Nat := 0xFF
  flags : Nat := 0
  keyGen : Nat := 0
  skipGen : Nat := 0
  icIn : Nat := 0
  icOut : Nat := 0
  bcastRef : Nat := 0xFFFFFFFF
  /-- GUEK, GAK and PENDING_KEY, 32 bytes each as stored. -/
  guek : Bytes := []
  gak : Bytes := []
  pendingKey : Bytes := []
  sigkeyLen : Nat := 0
  /-- 49 bytes as stored. -/
  sigkey : Bytes := []
  ackGen : Nat := 0
  ackOut : Nat := 0
  lastEpoch : Nat := 0
  settleRef : Nat := 0xFFFFFFFF
  deriving DecidableEq, Repr

/-- A commit slot (R67, R153): MARK is 0x3CC3, or 0x3CC5 for an account (R230). -/
structure CommitSlot where
  meter : Nat
  epoch : Nat
  queue : Nat
  seq : Nat
  hostTag : Nat
  jidx : Nat
  record : Bytes
  account : Bool
  /-- The truncated boundary node kept beside the slot. -/
  bnd : Bytes
  /-- The group that node belongs to. -/
  group : Nat
  deriving DecidableEq, Repr

/-- Battery-domain shard state (R154). -/
structure ShardBatt where
  assigned : Bool := false
  shard : Nat := 0
  root : Bytes := List.replicate 16 0
  epoch : Nat := 0
  promo : Nat := 0
  ackEpoch : Nat := 0
  gen : Nat := 0
  genCount : Nat := 0
  rotateTick : Nat := 0
  /-- Whether RECORD_ROTATE has run since the shard was created. -/
  rotated : Bool := false
  srk : Bytes := List.replicate 32 0
  wrapCtr : Nat := 0
  treeBase : Nat := 0
  slots : List (Option CommitSlot) := List.replicate 16 none
  /-- LAST_TXN: boot count and journal SERIAL of the last transaction done. -/
  lastTxn : Nat × Nat := (0, 0)
  /-- Promoted and not yet wrapped: the next wrap rolls the generation (R137). -/
  rollDue : Bool := false
  deriving DecidableEq, Repr

/-- The governor's battery state (R102 to R109). -/
structure Governor where
  budget : Nat := 1000
  window : Nat := 60
  /-- Ticks of the grants paid from base units, newest first, at most B. -/
  log : List Nat := []
  /-- Token units left and the tick it lapses at, when one is active. -/
  token : Option (Nat × Nat) := none
  /-- Outstanding challenge and the tick it was issued at. -/
  challenge : Option (Bytes × Nat) := none
  /-- Tick the promotion hold ends at (R106). -/
  holdUntil : Nat := 0
  grants : Nat := 0
  /-- Whether the window stood at or above 90 % of B at the last look (R104). -/
  above90 : Bool := false
  /-- SOLO_PERMIT: expiry tick, none inside for no expiry (R390). -/
  solo : Option (Option Nat) := none
  deriving DecidableEq, Repr

/-- Pair roles (R370). -/
inductive PairRole where
  | none
  | active
  | standby
  | standbyEmpty
  deriving DecidableEq, Repr

/-- A note item (R375). -/
inductive NoteItem where
  | leaf (meter epoch : Nat) (bnd leaf : Bytes)
  | governor (epoch b w : Nat)
  | generation (epoch gen : Nat)
  deriving DecidableEq, Repr

/-- A snapshot being staged on a standby (R382). -/
structure Shadow where
  snapId : Nat
  /-- The chunk 0 STATE fields: shard, PROMO, GEN, B, W, SRK, root at E0. -/
  shard : Nat := 0
  promo : Nat := 0
  gen : Nat := 0
  b : Nat := 0
  w : Nat := 0
  srk : Bytes := []
  epoch : Nat := 0
  /-- Chunks 1 to 4 staged. -/
  chunks : List Nat := []
  /-- Level-8 nodes by group; unlisted groups hold U8. -/
  nodes : List (Nat × Bytes) := []
  deriving DecidableEq, Repr

/-- Pair state: role, peer and ACK_LAG in the battery domain, the rest volatile (R370 to R384). -/
structure Pair where
  role : PairRole := .none
  /-- Peer member index and channel. -/
  peer : Option (Nat × Nat) := none
  ackLag : Nat := 0
  /-- The shard a standby was bound for. -/
  bindShard : Nat := 0
  bindTreeBase : Nat := 0
  snonce : Bytes := []
  pseq : Nat := 0
  /-- Items not yet built into a note, with the tick each was queued at, oldest first. -/
  buffer : List (NoteItem × Nat) := []
  /-- Items built into notes and not yet acknowledged. -/
  unacked : List (NoteItem × Nat) := []
  syncLost : Bool := true
  snapId : Nat := 0
  /-- EPOCH and ROOT of the last note built since the last chunk of this session. -/
  lastNote : Option (Nat × Bytes) := none
  shadow : Option Shadow := none
  /-- Tick and sender role of the last beat accepted. -/
  lastBeat : Option (Nat × PairRole) := none
  /-- Last TICK accepted, by SNONCE. -/
  beatTicks : List (Bytes × Nat) := []
  /-- Tick at which ACK_EPOCH last advanced; ACK_OVERDUE has risen since. -/
  ackTick : Nat := 0
  overdue : Bool := false
  /-- Revocation list: LIST_SEQ and members. -/
  listSeq : Nat := 0
  revoked : List Nat := []
  deriving DecidableEq, Repr

/-- A key cache entry (R142). -/
structure CacheEntry where
  record : MRec
  keep : Bool
  /-- Tick of the last use. -/
  used : Nat
  /-- Its place, 0 to 5,460, in the key-cache range. -/
  slot : Nat
  deriving DecidableEq, Repr

/-- A dedicated-key table entry (R88). -/
structure Dedicated where
  entry : Nat
  generation : Nat
  meter : Nat
  key : Bytes
  out : Nat
  /-- Inbound high-water; none when empty. -/
  inHigh : Option Nat
  /-- Serial of the job that used it last. -/
  used : Nat
  /-- Released entries stay listed for their generation. -/
  live : Bool := true
  deriving DecidableEq, Repr

/-- A loaded recipe or program image. -/
structure Image where
  id : Nat
  version : Nat
  bytes : Bytes
  digest : Bytes
  /-- Claims with a SERIAL above `since` and, once replaced or withdrawn, at most `till` use this version (R125). -/
  since : Nat := 0
  till : Option Nat := none
  deriving DecidableEq, Repr

/-- A record of the recipe or settlement store (R128): a load with its image, or a removal. -/
structure StoreRec where
  removal : Bool
  id : Nat
  version : Nat
  seq : Nat
  digest : Bytes
  image : Bytes
  /-- Where its commit page lies: byte offset in the channel's bank. -/
  off : Nat := 0
  deriving DecidableEq, Repr

/-- Loaded images and the old versions that drain; the durable store behind them lies in the flash bank. -/
structure ImageArea where
  loaded : List Image := []
  draining : List Image := []
  deriving DecidableEq, Repr

/-- A key slot (R173): the material as the slot holds it. -/
structure KeySlot where
  material : Bytes
  faulty : Bool := false
  deriving DecidableEq, Repr

/-- The quorum set a channel or management holds: identifier, threshold M, and each card's P-256 public key. -/
structure QuorumSet where
  id : Bytes
  m : Nat
  cards : List Bytes
  deriving DecidableEq, Repr

/-- The keys a channel holds (R172, R368, R579, and the package items of spec 21). -/
structure ChannelKeys where
  /-- Key slots by selector of *Key selectors*; an unlisted selector is an empty slot. -/
  slots : List (Nat × KeySlot) := []
  mkdk : List (Option Bytes) := List.replicate 4 none
  frk : Option Bytes := none
  importKey : Option Bytes := none
  heTitle : Option Bytes := none
  quorum : Option QuorumSet := none
  deriving DecidableEq, Repr

/-- A root backup record (R155). -/
structure RootBackup where
  shard : Nat
  epoch : Nat
  root : Bytes
  promo : Nat
  gen : Nat
  wrapCtr : Nat
  ackEpoch : Nat
  seq : Nat
  ckptEpoch : Nat
  ckptDigest : Bytes
  deriving DecidableEq, Repr

/-- The pacing of the root backups and of the checkpoint, which themselves lie in the channel's flash bank (R155 to R157). -/
structure Backups where
  /-- The checkpoint last written: epoch, digest, tick. -/
  checkpoint : Option (Nat × Bytes × Nat) := none
  lastTick : Nat := 0
  /-- Epoch at the last backup. -/
  lastEpoch : Nat := 0
  /-- Tick of the last commit that changed the root. -/
  rootTick : Nat := 0
  deriving DecidableEq, Repr

/-- Completion image (R45): what the completion will carry. -/
structure Cpl where
  status : Nat := 0
  detail : Nat := 0
  result : Nat := 0
  outBytes : Nat := 0
  epochLo : Nat := 0
  epochValid : Bool := false
  deriving DecidableEq, Repr

/-- Journal entry states (R62); FREE entries are not listed. -/
inductive JState where
  | claimed
  | committing
  | committed
  | written
  deriving DecidableEq, Repr

/-- The STATE byte of a journal entry. -/
def jStateCode : JState → Nat
  | .claimed => 0x1E
  | .committing => 0x2D
  | .committed => 0x4B
  | .written => 0x87

/-- The change a commit makes to one meter's leaf (R150). -/
structure LeafChange where
  meter : Nat
  /-- The new plaintext record for the key cache; none removes the meter. -/
  record : Option MRec
  /-- The new wrapped record; zeros for a retirement. -/
  wrapped : Bytes
  leaf : Bytes
  bndOld : Bytes
  bndNew : Bytes
  wrapIv : Nat
  /-- The wrapped account of a settlement job. -/
  account : Option Bytes := none
  deriving DecidableEq, Repr

/-- What a commit does to a shard, its role or its pair besides a leaf change (R167, R168, R371 to R392). -/
inductive ShardAct where
  /-- SNAPSHOT_BUILD index 0: a session starts (R381). -/
  | snapStart (snapId : Nat)
  /-- SNAPSHOT_BUILD index 1 to 4. -/
  | snapChunk
  /-- PROMOTE over the level-8 nodes rebuilt (R385). -/
  | promote (tree : List (Nat × Bytes))
  /-- RELINQUISH (R387). -/
  | relinquish
  /-- A note applied to the live state (R378). -/
  | note (tree : List (Nat × Bytes)) (epoch gen b w : Nat)
  /-- An ACK received (R379). -/
  | ack (epoch : Nat)
  /-- A COMMIT received: the shadow becomes the live state (R383). -/
  | adopt (shadow : Shadow) (treeBase : Nat)
  /-- A RELINQUISH received (R388): B, W, token and grant log. -/
  | takeOver (budget window : Nat) (token : Option (Nat × Nat)) (log : List Nat)
  /-- PAIR_BIND (R371). -/
  | bindActive (peer : Nat × Nat) (ackLag : Nat)
  | bindStandby (discard : Bool) (peer : Nat × Nat) (shard treeBase : Nat)
  /-- PAIR_UNBIND (R372). -/
  | unbind
  /-- REVOCATION_LOAD (R392). -/
  | revoke (listSeq : Nat) (members : List Nat)
  /-- SHARD_CREATE (R167). -/
  | create (shard treeBase : Nat) (srk : Bytes)
  /-- TREE_IMAGE (R168). -/
  | moveTree (treeBase : Nat)
  deriving DecidableEq, Repr

/-- What a job with side effects will apply at its commit, and the battery state it was computed from. -/
structure Effect where
  /-- Battery state the job was computed from; a commit that finds another makes the job run again. -/
  basisShard : ShardBatt
  basisGov : Governor
  basisDed : List Dedicated := []
  basisPair : Pair := {}
  /-- Battery state after the commit, EPOCH, ROOT and slots aside, which the transaction sets. -/
  shard : ShardBatt
  gov : Governor
  act : Option ShardAct := none
  leaf : Option LeafChange := none
  /-- Disconnect units the transaction takes. -/
  units : Nat := 0
  /-- Dedicated-key table after the commit. -/
  ded : Option (List Dedicated) := none
  items : List NoteItem := []
  cpl : Cpl
  writes : List HostWrite
  /-- Crumb code and parameters filed at the commit. -/
  crumb : Option (Nat × Nat × Nat × Nat) := none
  rollRaised : Bool := false
  headroomLow : Bool := false
  deriving DecidableEq, Repr

/-- The engagement record of a journal entry (R466): PKE batch and operation in it, cipher context, DRBG instance, hash
context. -/
structure Engaged where
  pke : Option Nat := none
  pkeOp : Option Nat := none
  ctx : Option Nat := none
  rng : Option Nat := none
  hash : Option Nat := none
  deriving DecidableEq, Repr

/-- A journal entry that is not FREE (R61). -/
structure JEntry where
  jidx : Nat
  sub : Sub
  cpl : Cpl := {}
  state : JState := .claimed
  queue : Nat
  inline : Bool
  serial : Nat
  stageOff : Nat := 0
  stageLen : Nat := 0
  staged : Bool := false
  slotIx : Option Nat := none
  slotIx2 : Option Nat := none
  note : Bool := false
  epoch : Nat := 0
  leafNew : Bytes := []
  bndOld : Bytes := []
  bndNew : Bytes := []
  wrapIv : Nat := 0
  /-- REPLAYED will be set in its completion (R72). -/
  replayed : Bool := false
  /-- Host data read so far, by the entry field that names its address. -/
  reads : List (Nat × Bytes) := []
  /-- The effect staged and waiting for its commit. -/
  ready : Option Effect := none
  /-- Host writes of the job; `sentUpTo` counts those transmitted, `acked` those acknowledged. -/
  writes : List HostWrite := []
  sentUpTo : Nat := 0
  acked : Nat := 0
  /-- The completion write has been transmitted. -/
  posted : Bool := false
  /-- Extents are to be checked again after a function-level reset (R71). -/
  recheck : Bool := false
  /-- The keep die refused this job's units; a settlement job is built again without them (R243). -/
  refused : Bool := false
  engaged : Engaged := {}
  /-- PAIR_RECEIVE's checks 1 to 6 passed; the kind's own row applies the message (R374). -/
  checked : Bool := false
  deriving DecidableEq, Repr

/-- The journal of a channel and what it reports of the last resolution. -/
structure Journal where
  entries : List JEntry := []
  cursor : Nat := 0
  serial : Nat := 0
  /-- COMMIT_LIST's LAST_RESET, LOST and REPLAYED. -/
  lastReset : Nat := 0
  lost : Nat := 0
  replayed : Nat := 0
  deriving DecidableEq, Repr

end Sys2Proof.Machine
end

