-- ==== Sys2Proof/Machine/TypesMgmt.lean ====
section
/-! DEFINITION. The state of what the channels share: firmware slots, management with its sensors, sideband and update
session, the event recorder, the tamper monitor, the service tag, the card slots and ceremonies, and power (spec 16 to 18,
20 to 22). Field defaults are the reset values. -/

namespace Sys2Proof.Machine

/-- A firmware image header (R408). -/
structure FwHeader where
  component : Nat
  major : Nat
  minor : Nat
  build : Nat := 0
  ifEpoch : Nat
  otherMin : Nat
  otherMax : Nat
  jformats : Nat := 0
  svn : Nat := 0
  len : Nat := 0
  featReq : List Nat := List.replicate 7 0
  minStep : Nat := 0xB1
  deriving DecidableEq, Repr

/-- An image as a slot holds it: its header, and whether its signature and its DIGEST hold. -/
structure FwImage where
  hdr : FwHeader
  sigOk : Bool := true
  digestOk : Bool := true
  /-- The image body as written; the bodies of the factory images are not given and not listed. -/
  body : Bytes := []
  deriving DecidableEq, Repr

/-- What a bank's configuration says of the slot that is not ACTIVE (R409). -/
inductive SlotMark where
  | empty
  | pending
  | trial
  deriving DecidableEq, Repr

/-- The two firmware slots of a bank (R408, R409). -/
structure FwSlots where
  a : Option FwImage
  b : Option FwImage := none
  /-- The ACTIVE slot: false A, true B. -/
  active : Bool := false
  other : SlotMark := .empty
  /-- The slot of the running image. -/
  running : Option Bool := none
  deriving DecidableEq, Repr

/-- A sensor: its last sample, its thresholds once set, WARN, and what the history interval has seen (R397 to R400). -/
structure Sensor where
  sample : Int := 0
  thr : Option (Int × Int) := none
  warn : Bool := false
  low : Int := 0
  high : Int := 0
  sum : Int := 0
  count : Nat := 0
  /-- The PLDM state in force and the one before it: 1 normal, 5 below, 8 above its threshold (DSP0248). -/
  pldm : Nat := 1
  pldmPrev : Nat := 1
  deriving DecidableEq, Repr

/-- A message of the sideband: over VDM or SMBus, the other side's bus address and endpoint, the MCTP tag with its owner
bit, the sequence of its last packet, the message bytes with the type first. -/
structure SideMsg where
  vdm : Bool
  addr : Nat
  eid : Nat
  tag : Nat
  seq : Nat := 0
  bytes : Bytes
  deriving DecidableEq, Repr

/-- The SMBus target, MCTP endpoint and PLDM responder (R401 to R403). -/
structure Sideband where
  /-- In force, and as SIDEBAND_CONFIG set them for the next management reset. -/
  addr : Nat := 0x3A
  rate : Nat := 0
  nextAddr : Nat := 0x3A
  nextRate : Nat := 0
  eid : Nat := 0
  tid : Nat := 0
  /-- Messages being put together, and those to be served, oldest first. -/
  building : List SideMsg := []
  requests : List SideMsg := []
  /-- Messages to be sent, oldest first, and the failures of the packet being sent. -/
  out : List SideMsg := []
  retries : Nat := 0
  failures : Nat := 0
  /-- SMB_ALERT_N asserted; the sideband has read the sensor state since. -/
  alert : Bool := false
  alertRead : Bool := false
  deriving DecidableEq, Repr

/-- An update session (R410 to R413). -/
structure UpdateSession where
  /-- Code of *Update session states*. -/
  state : Nat := 0
  /-- Opened from PLDM. -/
  pldm : Bool := false
  component : Nat := 0
  mask : Nat := 0
  length : Nat := 0
  data : Bytes := []
  /-- Targets that have reached READY on their TRIAL slot. -/
  arrived : Nat := 0
  /-- PLDM: a component has been named by UpdateComponent; the transfer's largest size; the state GetStatus shows. -/
  compNamed : Bool := false
  maxTransfer : Nat := 256
  pldmState : Nat := 0
  pldmPrev : Nat := 0
  /-- PLDM: the update agent: over VDM, bus address, endpoint. -/
  agent : Bool × Nat × Nat := (false, 0, 0)
  deriving DecidableEq, Repr

/-- The management subsystem beside its core, memory and bank (R394 to R416). -/
structure Mgmt where
  fw : FwSlots := { a := none }
  /-- The running image; none in boot ROM recovery and before the boot. -/
  image : Option FwHeader := none
  /-- Management runs its boot ROM recovery (R409). -/
  romOnly : Bool := false
  /-- The lowest SVN that may boot: management, channel (R409). -/
  mgSvn : Nat := 0
  chSvn : Nat := 0
  sensors : List Sensor := List.replicate 36 {}
  /-- Telemetry: TM_SEQ, TM_CTRL.IRQ_EACH, the record, and its number. -/
  tmSeq : Nat := 0
  tmIrq : Bool := false
  record : Bytes := List.replicate 256 0
  /-- History records, newest first (R400). -/
  history : List Bytes := []
  side : Sideband := {}
  update : UpdateSession := {}
  /-- The lifecycle state being blown (R406). -/
  blow : Option Nat := none
  /-- Incompatible channels, bit n (R416). -/
  incompat : Nat := 0
  /-- Management's key-encryption key in the battery domain, and its wrapped copy in SHIP mode (R445, R449). -/
  kek : Option Bytes := none
  kekCopy : Option Bytes := none
  quorum : Option QuorumSet := none
  /-- The device identity key; none until installed, and unusable without the key-encryption key (R529). -/
  dik : Option Bytes := none
  fbk : Option Bytes := none
  pkgSeq : Nat := 0
  pkgDigest : Bytes := []
  /-- The challenge of AUTH_CHALLENGE: purpose, value, tick (R537). -/
  auth : Option (Nat × Bytes × Nat) := none
  /-- Copies of SECONDS, CYCLES and the battery tick in the parameter sectors (R419). -/
  copy : Option (Nat × Nat × Nat) := none
  /-- Marks recorded in the bank (R448). -/
  marksKnown : Nat := 0
  /-- The host's copies of the access tables: sixteen channels, then management (R342). -/
  views : List (Option (List Nat)) := List.replicate 17 none
  /-- Random bytes management has drawn. -/
  draws : Nat := 0
  /-- Tick at which the core left reset, for the 2 s of R412, and of the last watchdog service (R547). -/
  bootTick : Nat := 0
  deriving DecidableEq, Repr

/-- The token bucket of a crumb class (R420). -/
structure ClassBucket where
  cap : Nat
  period : Nat
  tokens : Nat
  /-- Suppressed since the last recorded crumb of the class, and in all. -/
  suppressed : Nat := 0
  total : Nat := 0
  deriving DecidableEq, Repr

/-- One of the two logs (R422 to R427). -/
structure LogState where
  /-- Programmed slots by sequence, rising: the 32 bytes as stored; an unlisted slot is empty. -/
  slots : List (Nat × Bytes) := []
  /-- First sequence of the oldest sector held, and the next slot to be written. -/
  oldest : Nat := 0
  next : Nat := 0
  /-- The pending segment and the tick of its first crumb. -/
  pending : List Bytes := []
  pendTick : Nat := 0
  frozen : Bool := false
  freezeTick : Nat := 0
  /-- Length in ms of a freeze that a management reset ended and that is not drained yet. -/
  freezeMs : Nat := 0
  /-- Crumbs held by the freeze: pinned class, bytes; and the count dropped. -/
  held : List (Bool × Bytes) := []
  dropped : Nat := 0
  expired : Bool := false
  draining : Bool := false
  /-- An erase of the whole log deferred by a freeze: the authorising quorum set (R424, R427). -/
  clearDue : Option Nat := none
  deriving DecidableEq, Repr

/-- The defaults of R421's table: class, CAPACITY, PERIOD; class 6 has no limit. -/
def classDefaults : List (Nat × ClassBucket) :=
  [0, 1, 2, 3, 4, 5].map (fun k => (k, (⟨64, 60, 64, 0, 0⟩ : ClassBucket))) ++
  [8, 9, 10, 11, 12, 13, 14, 15, 16, 17, 18, 19, 20, 21].map (fun k => (k, (⟨16, 60, 16, 0, 0⟩ : ClassBucket)))

/-- The event recorder (R417 to R431). -/
structure Recorder where
  /-- Crumbs handed to the recorder and not yet accepted, oldest first. -/
  inbox : List Crumb := []
  classes : List (Nat × ClassBucket) := classDefaults
  rolling : LogState := {}
  pinned : LogState := {}
  /-- EV_CTRL.LOG (true pinned), IRQ_NEW, EV_STAT.OVERRUN, EV_CURSOR. -/
  logSel : Bool := false
  irqNew : Bool := false
  irqSecond : Nat := 0
  overrun : Bool := false
  cursor : Nat := 0
  lost : Nat := 0
  suppressed : Nat := 0
  deriving DecidableEq, Repr

/-- The tamper monitor (R432 to R455). -/
structure Tamper where
  armed : Bool := false
  ship : Bool := false
  interval : Nat := 1
  cell : Bool := false
  removalArmed : Bool := false
  /-- Tick since which a cell has been present under main power. -/
  cellTick : Nat := 0
  marks : Nat := 0
  sticky : Nat := 0
  live : Nat := 0
  policy : Nat := 0
  /-- TP_TAMPERED: channels, then bit 16 management. -/
  tampered : Nat := 0
  first : Option (Nat × Nat × Nat) := none
  samples : Nat := 0
  trips : List Nat := List.replicate 32 0
  /-- The battery-domain queue of 16 crumbs and its drops (R442). -/
  queue : List Crumb := []
  drops : Nat := 0
  /-- TAMPER_CHALLENGE: value and tick; sources tripped since. -/
  challenge : Option (Bytes × Nat) := none
  since : Nat := 0
  /-- Channels (and bit 16 the whole logic die) whose memory is still being cleared (R444 step 2). -/
  clearing : Nat := 0
  /-- The battery domain holds its contents (R505). -/
  battery : Bool := true
  /-- Crust reseeds done and self-checks passed. -/
  reseeds : Nat := 0
  /-- Number of the sample at the last reseed, and the last sample in which each line mismatched (R433). -/
  seedSample : Nat := 0
  missed : List (Nat × Nat) := []
  checks : Nat := 0
  deriving DecidableEq, Repr

/-- States of the tag, with their NF_STAT codes (R494). -/
inductive TagState where
  | idle
  | ready
  | active
  | halted
  | opened
  | secured
  deriving DecidableEq, Repr

/-- A counter record of the tag (R506). -/
structure TagCount where
  seq : Nat := 0
  inv : Nat := 0
  authFails : Nat := 0
  dtFails : Nat := 0
  nonce : Nat := 0
  authTotal : Nat := 0
  noteSeq : Nat := 0
  deriving DecidableEq, Repr

/-- A session: its two keys and the counter expected next (R503). -/
structure TagSession where
  kenc : Bytes
  kmac : Bytes
  ctr : Nat := 0
  deriving DecidableEq, Repr

/-- The near-field service tag (R489 to R517). -/
structure Tag where
  field : Bool := false
  st : TagState := .idle
  lfsr : Nat := 0
  slot : Nat := 0
  handle : Nat := 0xFFFF
  /-- The tag has just replied, and the next frame may be its ACK or NAK. -/
  replied : Bool := false
  session : Option TagSession := none
  /-- RR and RT of an AUTH_START whose AUTH_FINISH is the next frame. -/
  auth : Option (Bytes × Bytes) := none
  /-- Nonces issued. -/
  issued : Nat := 0
  count : TagCount := {}
  /-- The other copy of the counter record (R507). -/
  older : TagCount := {}
  /-- A reply prepared and not yet sent, with the T_D it must start by, in µs. -/
  reply : Option (Bytes × Nat) := none
  /-- The last frame sent. -/
  sent : Bytes := []
  /-- Tag memory: identity, compatibility area, note slots; the key area holds K_T, K_N and the password. -/
  identity : Bytes := List.replicate 64 0
  compat : Bytes := List.replicate 256 0
  notes : List Bytes := List.replicate 28 (List.replicate 128 0)
  kt : Option Bytes := none
  kn : Option Bytes := none
  /-- K_T and K_N were wrapped under the key-encryption key that management still holds. -/
  wrapped : Bool := false
  password : Nat := 0
  /-- Transit ring: samples by index, write index, whether it has wrapped, run table, last tick. -/
  ring : List (Nat × Nat) := []
  writeIx : Nat := 0
  wrappedRing : Bool := false
  runs : List (Nat × Nat) := []
  lastTick : Nat := 0
  /-- A tamper source has tripped since the last sample; the next sample starts a run. -/
  tripped : Bool := false
  runStart : Bool := true
  wake : Bool := false
  irqEn : Bool := false
  irq : Nat := 0
  memAddr : Nat := 0
  /-- The counter record management last copied (R517). -/
  copied : TagCount := {}
  deriving DecidableEq, Repr

/-- The SD host (R518 to R523). -/
structure SdHost where
  en : Bool := false
  irqEn : Bool := false
  mode : Nat := 0
  bus4 : Bool := false
  recovery : Bool := true
  present : Bool := false
  v18 : Bool := false
  tuned : Bool := false
  busy : Bool := false
  tap : Nat := 0
  crc : Nat := 0
  drops : Nat := 0
  irq : Nat := 0
  /-- Ticks of the endings with DMA_ERROR within the last 60 s. -/
  errors : List Nat := []
  /-- The card's objects: kind and bytes, as the volume header lists them. -/
  objects : List (Nat × Bytes) := []
  /-- The volume carries MAGIC. -/
  volume : Bool := false
  /-- What the card offers, found at insertion. -/
  seen : Option SdSeen := none
  /-- The object a write will enter in the header when it ends. -/
  writing : Option (Nat × Bytes) := none
  deriving DecidableEq, Repr

/-- States of the smart-card slot, with their SC_STAT codes. -/
inductive ScState where
  | off
  | activating
  | atr
  | pps
  | ready
  | exchanging
  deriving DecidableEq, Repr

/-- The smart-card slot (R524 to R527). -/
structure ScSlot where
  en : Bool := false
  irqEn : Bool := false
  present : Bool := false
  /-- 0 none, 1 C, 2 B. -/
  cls : Nat := 0
  st : ScState := .off
  fi : Nat := 0
  di : Nat := 0
  irq : Nat := 0
  buf : Bytes := List.replicate 256 0
  /-- A PPS was refused once (R525). -/
  ppsRefused : Bool := false
  retries : Nat := 0
  /-- The INS of the transaction in progress, and the response collected over its chained blocks. -/
  ins : Option Nat := none
  chained : Bytes := []
  /-- EDC by CRC, as TC3 names it; LRC otherwise. -/
  edcCrc : Bool := false
  deriving DecidableEq, Repr

/-- A ceremony session (R535). -/
structure Ceremony where
  kind : Nat
  member : Nat := 0
  m : Nat := 0
  n : Nat := 0
  lost : Nat := 0
  tick : Nat
  /-- The intake private key, when the kind draws one. -/
  intake : Option Bytes := none
  /-- Shares held or given out: card index and 32 values. -/
  shares : List (Nat × Bytes) := []
  /-- The public keys of the cards enrolled in this session, by index. -/
  cards : List (Nat × Bytes) := []
  /-- FLEET_CREATE and CARD_REPLACE: the polynomial's coefficients, the FPK first, 32 bytes each. -/
  poly : List Bytes := []
  /-- The package read from SD. -/
  pkg : Bytes := []
  deriving DecidableEq, Repr

/-- Both card slots and the ceremony session. -/
structure Cards where
  sd : SdHost := {}
  sc : ScSlot := {}
  session : Option Ceremony := none
  deriving DecidableEq, Repr

/-- Power, clocks, link and reset pins (R539 to R552). -/
structure Power where
  main : Bool := true
  /-- Microsecond time of the rail fall that has not yet been settled (R436). -/
  fallen : Bool := false
  link : Bool := false
  linkFails : Nat := 0
  /-- Link bring-ups, the two nonces of the link key in force, that key, and the frame counter of each direction (R9, R10). -/
  keyed : Nat := 0
  nonces : Bytes × Bytes := ([], [])
  linkKey : Bytes := []
  frames : Nat × Nat := (0, 0)
  /-- Supplies valid, training not yet given up (R12). -/
  refclk : Bool := true
  crystal : Bool := false
  perst : Bool := true
  /-- HP_LOG is powered and the configuration space is loaded (R12, R549 step 6). -/
  hpLog : Bool := false
  /-- The PCIe link is up. -/
  pcieUp : Bool := false
  /-- The last answer to a configuration request: true is CRS. -/
  crs : Bool := true
  /-- Management is held in reset. -/
  mgHeld : Bool := true
  /-- The safety controller has passed its start-up self-test (R463). -/
  selfTest : Bool := false
  /-- The link entropy source has passed its start-up tests (R10). -/
  entropy : Bool := false
  /-- A lifecycle fuse bit has been blown and the warm reset it asks for has not happened (R406, R547). -/
  warmDue : Bool := false
  deriving DecidableEq, Repr

end Sys2Proof.Machine
end

