-- ==== Sys2Proof/Machine/State.lean ====
section
/-! DEFINITION. The state of the block, the reasons a step can stop, and the state right after reset. -/

namespace Sys2Proof.Machine

/-- One channel: its slice of the hearth, its jobs, its shard, keys and engines. -/
structure Channel where
  host : Slice := {}
  state : ChState := .reset
  bootStep : Nat := 0
  /-- CH_IFEPOCH: the interface epoch of the running image, 0 before boot. -/
  ifEpoch : Nat := 0
  notice : Bool := false
  port : EventPort := {}
  jr : Journal := {}
  shard : ShardBatt := {}
  gov : Governor := {}
  pair : Pair := {}
  cache : List CacheEntry := []
  /-- Level-8 nodes of the tree cache by group, rising; an unlisted group holds U8. -/
  tree : List (Nat × Bytes) := []
  treeOk : Bool := false
  held : Bool := false
  ded : List Dedicated := []
  recipes : ImageArea := {}
  programs : ImageArea := {}
  keys : ChannelKeys := {}
  backups : Backups := {}
  /-- Count of random bytes drawn. -/
  draws : Nat := 0
  /-- The channel physical map's bytes, the areas the firmware keeps apart. -/
  mem : Mem := []
  /-- Bytes of those areas that differ from what the firmware wrote: address, the firmware's byte, the byte that stands. -/
  patches : List (Nat × Byte × Byte) := []
  table : AccessTable := {}
  core : Kenten := {}
  /-- Level-sensitive core interrupt sources whose registers the spec does not lay out: bit i is set by the cause of IRQ bit i, and
  cleared at its source (R291, R395). -/
  causes : Nat := 0
  /-- The two words of the tamper view as the channel last read them (R291 source 17, R453). -/
  viewSeen : Nat × Nat := (0, 0)
  pke : Pke := {}
  hash : HashEngine := {}
  ce : Cipher := {}
  rng : Rng := {}
  fu : FrameUnit := {}
  nv : NvBank := {}
  sf : Safety := {}
  /-- EV_ port status is in `port`; function-0 sources and always-on crumbs raised and not yet collected. -/
  outSources : List Nat := []
  outCrumbs : List Crumb := []
  /-- Accesses of management's core that reach blocks outside this record, oldest first: address, and the value of a write. -/
  outWrites : List (Nat × Option Word) := []
  /-- The refresh record of the configuration log that has no done record: sector and digest of its 64 KiB (R360). -/
  refreshing : Option (Nat × Bytes) := none
  /-- Firmware slots of the bank, and the running image once booted (R32, R409). -/
  fw : FwSlots := { a := some { hdr := { component := 0x10, major := 3, minor := 2, build := Config.channelBuild.toNat, ifEpoch := 7, otherMin := 5, otherMax := 6, jformats := 2 } } }
  image : Option FwHeader := none
  /-- The next boot needs management's confirmation: of a lifecycle transition, and of the TRIAL slot of an update (R21). -/
  confirm : Bool := false
  confirmSlot : Bool := false
  /-- The bank's update port is open to management (R23). -/
  updatePort : Bool := false
  /-- Tick of the release from reset (R412). -/
  bootTick : Nat := 0
  /-- Attempts of root-load in this boot (R152). -/
  rootTries : Nat := 0
  /-- Tick of falling asleep; CH_ENG is off (R543, R544). -/
  sleepTick : Nat := 0
  deep : Bool := false
  /-- The key-encryption key in the battery domain, and its wrapped copy in SHIP mode (R174, R449). -/
  kek : Option Bytes := none
  kekCopy : Option Bytes := none
  /-- PKG_SEQ and digest of the key package installed (R534). -/
  pkgSeq : Nat := 0
  pkgDigest : Bytes := []
  deriving DecidableEq, Repr

/-- Time and identity every unit reads: battery tick in ms, SECONDS, CYCLES, boot count, lifecycle, member. -/
structure Device where
  tick : Nat := 0
  seconds : Nat := 0
  cycles : Nat := 0
  bootCount : Nat := 0
  lifecycle : Nat := 3
  member : Nat := 0
  memberValid : Bool := false
  mgmtUp : Bool := false
  hearthUp : Bool := false
  /-- The device safe state stands (R461). -/
  deviceSafe : Bool := false
  /-- Enabled channels, by fuse: channels 0 up to this number, 16, 8 or 4 (R4, DEV_CHMASK). -/
  enabled : Nat := 16
  deriving DecidableEq, Repr

/-- Why the machine stops with a fault. No command of this block faults; the type is kept for the interface. -/
inductive Fault where
  /-- Raised by no command. Safe. -/
  | unused
  deriving DecidableEq, Repr

/-- Why a command is refused. -/
inductive Refusal where
  /-- Raised by exec for a command whose meaning is not written yet. Safe. -/
  | notModelled (mnemonic : String)
  deriving DecidableEq, Repr

/-- The always-on domain's crumb queue (R20): at most 32, oldest kept, the rest counted. -/
structure AonQueue where
  held : List Crumb := []
  drops : Nat := 0
  deriving DecidableEq, Repr

/-- The whole block. -/
structure State where
  /-- The commands that wait, first in, first out. -/
  pending : List Instr := []
  chans : Vector Channel 16 := Vector.replicate 16 {}
  fn0 : Fn0 := {}
  dev : Device := {}
  aon : AonQueue := {}
  /-- Management's core, memory, access table, bank and generators: the same design as a channel's (R324, R341, R367). -/
  mgu : Channel := { table := { mgmt := true } }
  mg : Mgmt := { fw := { a := some { hdr := { component := 1, major := 2, minor := 4, build := Config.mgmtBuild.toNat, ifEpoch := 5, otherMin := 6, otherMax := 8 } } }, kek := some Config.mgmtKek, dik := some Config.dik }
  log : Recorder := {}
  tp : Tamper := {}
  nf : Tag := {}
  cards : Cards := {}
  pw : Power := {}
  deriving DecidableEq, Repr

/-- The state right after reset: every field at the value the spec gives, or that the assumption log names. -/
def State.reset : State := {}

end Sys2Proof.Machine
end

