-- ==== Sys2Proof/Machine/Ops.lean ====
section
/-! DEFINITION. Named operations over the state: reaching one channel, drawing random bytes, filing crumbs, raising
interrupt sources and fault bits, the DMA window, the governor's arithmetic. -/

namespace Sys2Proof.Machine

/-- The channel `ch`. -/
def State.chan (s : State) (ch : Ch) : Channel := s.chans.get ch

/-- The state with channel `ch` replaced. -/
def setChan (s : State) (ch : Ch) (c : Channel) : State :=
  { s with chans := s.chans.set ch.val c ch.isLt }

/-- Whether a channel is enabled; one that is not stays powered down and its function is not enumerated (R4). -/
def Device.has (d : Device) (ch : Ch) : Bool := decide (ch.val < d.enabled)

/-- The enabled channels, in order. -/
def State.enabledChannels (s : State) : List Ch := (List.finRange 16).filter s.dev.has

/-- A command confined to one channel (R14): it reads the shared clocks and identity and changes that channel only. A
channel that is not enabled takes none (R4). -/
def onChan (ch : Ch) (f : Ch → Device → Channel → Channel) (s : State) : State :=
  if s.dev.has ch then setChan s ch (f ch s.dev (s.chan ch)) else s

/-- Signals function-0 source `v`: its message, or pending while its vector is masked (R56, R396) or the function is faulted, which
posts nothing (R34). -/
def raiseFn0 (v : Nat) (s : State) : State :=
  match s.fn0.msix[v]? with
  | none => s
  | some e =>
    if e.mask || s.fn0.faulted then { s with fn0 := { s.fn0 with pba := if s.fn0.pba.contains v then s.fn0.pba else s.fn0.pba ++ [v] } }
    else { s with fn0 := { s.fn0 with sent := s.fn0.sent ++ [⟨.msix, v, e.addr.toNat, leBytes 4 e.data.toNat⟩] } }

/-- A crumb of the tamper monitor or the safety controller enters the always-on queue; the oldest are kept (R20). -/
def aonCrumb (x : Crumb) (s : State) : State :=
  if s.aon.held.length < 32 then { s with aon := { s.aon with held := s.aon.held ++ [x] } }
  else { s with aon := { s.aon with drops := s.aon.drops + 1 } }

/-- The cause of core interrupt source `i` arises (R291). -/
def raiseCause (i : Nat) (c : Channel) : Channel := { c with causes := setBit c.causes i true }

/-- It is cleared at its source. -/
def dropCause (i : Nat) (c : Channel) : Channel := { c with causes := setBit c.causes i false }

/-- The cause of a source of management's core arises (R395). -/
def raiseMg (i : Nat) (s : State) : State := { s with mgu := raiseCause i s.mgu }

/-- Passes on the function-0 sources and always-on crumbs a channel's monitors raised. -/
def collect (ch : Ch) (s : State) : State :=
  let c := s.chan ch
  let s := setChan s ch { c with outSources := [], outCrumbs := [] }
  let s := c.outSources.foldl (fun s v => raiseFn0 v s) (if c.outSources.isEmpty then s else raiseMg 9 s)
  c.outCrumbs.foldl (fun s x => aonCrumb x s) s

/-- A command confined to one channel whose monitors may report to function 0 and the always-on domain. -/
def onChanS (ch : Ch) (f : Ch → Device → Channel → Channel) (s : State) : State := collect ch (onChan ch f s)

/-- `n` random bytes of a unit, from draw number `k`. -/
def freeBytes (unit k n : Nat) : Bytes := (List.range n).map fun i => Config.freeByte unit (k + i)

/-- Draws `n` random bytes from a channel's DRBG. -/
def drawBytes (ch : Ch) (n : Nat) (c : Channel) : Bytes × Channel :=
  (freeBytes ch.val c.draws n, { c with draws := c.draws + n })

/-- A number's saturation at 16 bits. -/
def sat16 (n : Nat) : Nat := min n 0xFFFF

/-- A fatal CH_FAULT bit stands: the function is faulted (R34). -/
def Slice.faulted (h : Slice) : Bool := h.fault.getLsbD 0 || h.fault.getLsbD 1 || h.fault.getLsbD 2

/-- MSI-X: sends the message of vector `v`, or marks it pending while the vector is masked (R54, R56) or the function is faulted,
which posts nothing (R34). -/
def fireVector (v : Nat) (h : Slice) : Slice :=
  match h.msix[v]? with
  | none => h
  | some e =>
    if e.mask || h.faulted then { h with pba := if h.pba.contains v then h.pba else h.pba ++ [v] }
    else { h with sent := h.sent ++ [⟨.msix, v, e.addr.toNat, leBytes 4 e.data.toNat⟩] }

/-- Raises channel interrupt source `n`, 4 to 19: recorded in CH_IRQ_STAT, signalled when enabled (R54). -/
def raiseSource (n : Nat) (c : Channel) : Channel :=
  let h := { c.host with irqStat := c.host.irqStat ||| BitVec.ofNat 32 (2 ^ n) }
  { c with host := if h.irqEn.getLsbD n then fireVector n h else h }

/-- CH_FAULT as read: FATAL is computed. -/
def Slice.faultWord (h : Slice) : Word := h.fault ||| (if h.faulted then 0x100 else 0)

/-- Sets a CH_FAULT bit; CH_FAULT_INFO is captured when CH_FAULT read all zero (R33 tables), and source 10 rises. -/
def setFault (b value queue : Nat) (c : Channel) : Channel :=
  let h := c.host
  let fresh := h.faultWord == 0
  let was := h.fault.getLsbD b
  let h := { h with
    fault := h.fault ||| BitVec.ofNat 32 (2 ^ b)
    faultValue := if fresh then value % 65536 else h.faultValue
    faultQueue := if fresh then queue else h.faultQueue
    faultBit := if fresh then b else h.faultBit }
  let c := { c with host := h }
  if was then c else raiseSource 10 c

/-- Writes a crumb to the channel's event port: held while there is room, counted and signalled when dropped (R20). -/
def fileCrumb (ch : Ch) (d : Device) (code p0 p1 p2 p3 : Nat) (c : Channel) : Channel :=
  if c.port.held.length < 32 then
    { c with port := { c.port with held := c.port.held ++ [⟨code, ch.val, d.seconds, d.cycles, p0, p1, p2, p3⟩] } }
  else
    raiseSource 19 { c with port := { c.port with drops := c.port.drops + 1 } }

/-- Changes CH_STATE.STATE; source 8 rises when the value changes (R54). -/
def setChState (st : ChState) (c : Channel) : Channel :=
  if c.state = st then c else raiseSource 8 { c with state := st }

/-- Whether an extent passes the window check (R37). -/
def Window.holds (w : Window) (addr len : Nat) : Bool :=
  len == 0 || (w.lock && w.base.value.toNat ≤ addr && addr + len ≤ 2 ^ 64 && addr + len ≤ w.limit.value.toNat + 1)

/-- Whether two locked windows share a byte (R36). -/
def Window.overlaps (a b : Window) : Bool :=
  a.base.value.toNat ≤ b.limit.value.toNat && b.base.value.toNat ≤ a.limit.value.toNat

/-- The channel's firmware runs its jobs: READY, RECOVERY or TAMPERED. -/
def chanUp (st : ChState) : Bool := st == .ready || st == .recovery || st == .tampered

/-- The device is reachable and the channel may send: hearth up, no fatal fault, not in D3hot, channel running. -/
def canTransmit (d : Device) (c : Channel) : Bool :=
  d.hearthUp && !c.host.faulted && !c.host.d3hot && chanUp c.state

/-- The channel serves a shard: assigned, not held, tree cache built, and not a standby (R141 step 1, R370). -/
def servesShard (c : Channel) : Bool :=
  c.shard.assigned && !c.held && c.treeOk && c.pair.role != .standby && c.pair.role != .standbyEmpty

/-- EPOCH_LO of a completion that committed no root (R46). -/
def epochLoNow (c : Channel) : Nat := if servesShard c then c.shard.epoch % 2 ^ 32 else 0

/-- Grants of the governor's log younger than W (R102). -/
def Governor.used (g : Governor) (tick : Nat) : Nat :=
  (g.log.filter fun t => tick < t + g.window * 1000).length

/-- The promotion hold is in force (R106). -/
def Governor.hold (g : Governor) (tick : Nat) : Bool := tick < g.holdUntil

/-- Base units free now. -/
def Governor.baseFree (g : Governor) (tick : Nat) : Nat :=
  if g.hold tick then 0 else g.budget - g.used tick

/-- Token units left now; units left at expiry lapse (R109). -/
def Governor.tokenUnits (g : Governor) (tick : Nat) : Nat :=
  match g.token with
  | some (u, t) => if tick < t then u else 0
  | none => 0

/-- A quorum token is active: one stands unexpired with units left (R106, R243). DEDUCED: a token whose last unit is spent is
active no more (log 145). -/
def Governor.tokenActive (g : Governor) (tick : Nat) : Bool := g.tokenUnits tick != 0

/-- SOLO_PERMIT is in force (R390). -/
def Governor.soloNow (g : Governor) (tick : Nat) : Bool :=
  match g.solo with
  | none => false
  | some none => true
  | some (some t) => decide (tick < t)

/-- ⌈0.9 × B⌉ (R104). -/
def Governor.ninety (g : Governor) : Nat := ceilDiv (9 * g.budget) 10

/-- Milliseconds until a base unit is free: SF_GOV_NEXT (R106 registers). -/
def Governor.nextMs (g : Governor) (tick : Nat) : Nat :=
  if g.budget = 0 then 0xFFFFFFFF
  else
    let byHold := g.holdUntil - tick
    let young := g.log.filter fun t => tick < t + g.window * 1000
    let byLog := if young.length < g.budget then 0
      else match young[g.budget - 1]? with
        | some t => t + g.window * 1000 - tick
        | none => 0
    max byHold byLog

/-- Takes `n` disconnect units at `tick`, base units before token units; none when they are not to be had (R103).
The 90 % mark is looked at first: it was left when grants have aged out below it (R104). -/
def Governor.take (g : Governor) (tick n : Nat) : Option Governor :=
  let base := min n (g.baseFree tick)
  let rest := n - base
  if rest ≤ g.tokenUnits tick then
    some { g with
      log := (List.replicate base tick ++ g.log).take g.budget
      above90 := g.above90 && decide (g.ninety ≤ g.used tick)
      token := if rest = 0 then g.token else g.token.map fun p => (p.1 - rest, p.2)
      grants := g.grants + n }
  else none

/-- The quorum-token units among `n` units taken now. -/
def Governor.tokenPart (g : Governor) (tick n : Nat) : Nat := n - min n (g.baseFree tick)

/-- The channel after the 90 % mark was looked at (R104): BUDGET_90 rises once per crossing. DESIGN CHOICE: with B = 0, whose mark
is 0, it never rises (log 145). -/
def checkNinety (ch : Ch) (d : Device) (c : Channel) : Channel :=
  let at90 := c.gov.budget != 0 && c.gov.ninety ≤ c.gov.used d.tick
  if at90 && !c.gov.above90 then
    fileCrumb ch d 0x2600 c.shard.shard (c.gov.used d.tick) 0 0
      (raiseSource 15 { c with gov := { c.gov with above90 := true } })
  else if !at90 then { c with gov := { c.gov with above90 := false } }
  else c

/-- The counter-mode KDF of NIST SP 800-108 with AES-CMAC: `fuel` blocks from counter `i` (R578). -/
def kdfLoop (key label ctx : Bytes) (bitsLen : Nat) : Nat → Nat → Bytes
  | 0, _ => []
  | fuel + 1, i =>
    cmac key (beBytes 4 i ++ label ++ [0x00] ++ ctx ++ beBytes 4 bitsLen) ++ kdfLoop key label ctx bitsLen fuel (i + 1)

/-- The KDF of R578, `len` bytes of output. -/
def kdf (key : Bytes) (label : String) (ctx : Bytes) (len : Nat) : Bytes :=
  (kdfLoop key (ascii label) ctx (8 * len) (ceilDiv len 16) 1).take len

/-- The scalar R181 takes from L + 8 drawn bytes. -/
def scalarOf (cv : Curve) (drawn : Bytes) : Nat := beNat drawn % (curveN cv - 1) + 1

/-- A millisecond of the battery tick passes while the battery domain has a supply (R419). -/
def msPasses (s : State) : State :=
  if s.pw.main || s.tp.battery then { s with dev := { s.dev with tick := (s.dev.tick + 1) % 2 ^ 64 } } else s

/-- A firmware version register (R32). -/
def fwWord (h : Option FwHeader) : Nat :=
  match h with
  | some h => h.minor + 256 * h.major + 65536 * h.build
  | none => 0

end Sys2Proof.Machine
end

