-- ==== Sys2Proof/Machine/Debt.lean ====
section
/-! DEFINITION. Background activities of a channel in debt, and the order in which they take a resource they share (R556,
R557). -/

namespace Sys2Proof.Machine

/-- The activities that R557 orders. -/
inductive Background where
  | bist
  | rootBackup
  | sramScrub
  | flashScrub
  | refresh
  | calibration
  deriving DecidableEq, Repr

/-- R557's order, first to last. -/
def debtOrder : List Background := [.bist, .rootBackup, .sramScrub, .flashScrub, .refresh, .calibration]

/-- A time limit in ms passed since a tick; an activity that has never run has no age yet. -/
def olderThan (ms : Nat) (since : Option Nat) (d : Device) : Bool := since.any fun t => t + ms < d.tick

/-- *In debt when* of *Background activities*. A logic BIST whose deadline is past needs the channel once its notice is over. -/
def owed (d : Device) (c : Channel) : Background → Bool
  | .bist => c.notice && decide (c.sf.noticeTick + 500 ≤ d.tick) && decide (c.sf.bistTick + 28799460 ≤ d.tick)
  | .rootBackup => c.shard.assigned && !c.held && c.shard.epoch != c.backups.lastEpoch && decide (c.backups.lastTick + 120000 < d.tick)
  | .sramScrub => olderThan 500 c.table.scrubTick d
  | .flashScrub => olderThan 172800000 c.nv.scrubTick d
  | .refresh => c.nv.dropped || c.nv.refresh.any fun p => p.2.2 + 86400000 < d.tick
  | .calibration => olderThan 1200000 c.rng.calTick d

/-- Activities on one resource: root backup, flash scrub and refresh share the bank, and a logic BIST takes all of the channel but the
keep die, where the flash scrubber runs. -/
def sharesResource : Background → Background → Bool
  | .bist, .flashScrub | .flashScrub, .bist => false
  | .bist, _ | _, .bist => true
  | .rootBackup, b | .flashScrub, b | .refresh, b => b == .rootBackup || b == .flashScrub || b == .refresh
  | _, _ => false

/-- An activity in debt waits for one in debt that stands before it and needs the same resource (R557). -/
def debtWaits (b : Background) (d : Device) (c : Channel) : Bool :=
  owed d c b && (debtOrder.takeWhile (· != b)).any fun a => sharesResource a b && owed d c a

/-- A step of an activity, unless it waits for another in debt. -/
def inTurn (b : Background) (f : Device → Channel → Channel) (d : Device) (c : Channel) : Channel := if debtWaits b d c then c else f d c

end Sys2Proof.Machine
end

