-- ==== Sys2Proof/Machine/RecordOps.lean ====
section
/-! DEFINITION. Meter records: their bytes, their wrapping, the leaf and the freshness tree, the key cache, and the
reservation rule (R132 to R161). -/

namespace Sys2Proof.Machine

/-- The record's suite. -/
def MRec.suite (r : MRec) : Nat := r.suiteByte % 4

/-- The MKDK generation the record names. -/
def MRec.mkdkGen (r : MRec) : Nat := r.suiteByte / 4 % 4

/-- FLAGS bits (R132). -/
def MRec.broadcast (r : MRec) : Bool := bit r.flags 0

def MRec.disconnectClass (r : MRec) : Bool := bit r.flags 1

def MRec.inEmpty (r : MRec) : Bool := bit r.flags 2

def MRec.newKey (r : MRec) : Bool := bit r.flags 3

/-- The key length of a suite (R83). -/
def suiteKeyLen (suite : Nat) : Nat := if suite = 2 then 32 else 16

/-- The curve of suites 1 and 2. -/
def suiteCurve (suite : Nat) : Curve := if suite = 2 then .p384 else .p256

/-- The 192 bytes of a record (R132). -/
def MRec.toBytes (r : MRec) : Bytes :=
  leBytes 4 r.meter ++ padTo 8 r.title ++ [byte r.suiteByte, byte r.pendingId] ++ leBytes 2 r.flags ++
  leBytes 2 r.keyGen ++ leBytes 2 r.skipGen ++ leBytes 4 r.icIn ++ leBytes 4 r.icOut ++ leBytes 4 r.bcastRef ++
  padTo 32 r.guek ++ padTo 32 r.gak ++ padTo 32 r.pendingKey ++ [byte r.sigkeyLen] ++ padTo 49 r.sigkey ++
  leBytes 2 r.ackGen ++ leBytes 4 r.ackOut ++ leBytes 4 r.lastEpoch ++ leBytes 4 r.settleRef

/-- The record of 192 bytes. -/
def MRec.ofBytes (b : Bytes) : MRec :=
  { meter := fieldLE b 0 4, title := slice b 4 8, suiteByte := fieldLE b 12 1, pendingId := fieldLE b 13 1
    flags := fieldLE b 14 2, keyGen := fieldLE b 16 2, skipGen := fieldLE b 18 2, icIn := fieldLE b 20 4
    icOut := fieldLE b 24 4, bcastRef := fieldLE b 28 4, guek := slice b 32 32, gak := slice b 64 32
    pendingKey := slice b 96 32, sigkeyLen := fieldLE b 128 1, sigkey := slice b 129 49, ackGen := fieldLE b 178 2
    ackOut := fieldLE b 180 4, lastEpoch := fieldLE b 184 4, settleRef := fieldLE b 188 4 }

/-- The GUEK, or the broadcast key, at the suite's length. -/
def MRec.guekKey (r : MRec) : Bytes := r.guek.take (suiteKeyLen r.suite)

/-- The GAK at the suite's length. -/
def MRec.gakKey (r : MRec) : Bytes := r.gak.take (suiteKeyLen r.suite)

/-- The pending key at the suite's length. -/
def MRec.pendKey (r : MRec) : Bytes := r.pendingKey.take (suiteKeyLen r.suite)

/-- Whether a record read from a host follows R132 and R133. -/
def MRec.valid (r : MRec) : Bool :=
  r.suite ≤ 2 && r.suiteByte < 16 && r.flags < 16 &&
  (r.pendingId == 0 || r.pendingId == 2 || r.pendingId == 0xFF) &&
  (r.pendingId != 0xFF || r.pendingKey == zeros 32) &&
  (r.suite == 2 || (r.guek.drop 16 == zeros 16 && r.gak.drop 16 == zeros 16 && r.pendingKey.drop 16 == zeros 16)) &&
  (r.sigkey.drop r.sigkeyLen == zeros (49 - r.sigkeyLen)) &&
  (if r.broadcast then
     r.inEmpty && r.icIn == 0 && r.sigkeyLen == 0 && r.bcastRef == 0xFFFFFFFF && !r.disconnectClass
   else
     r.sigkeyLen == (if r.suite = 0 then 0 else if r.suite = 1 then 33 else 49) &&
     (r.bcastRef == 0xFFFFFFFF || r.bcastRef >>> 22 == r.meter >>> 22))

/-- The record-wrapping key of a generation (R135). -/
def rwk (srk : Bytes) (gen : Nat) : Bytes := kdf srk "RWK" (beBytes 4 gen) 32

/-- The segment key of the shard (R231). -/
def segmentKey (srk : Bytes) : Bytes := kdf srk "SGK" (beBytes 4 0) 32

/-- The header of a wrapped block (R134, R227). -/
def wrapHeader (member : Nat) (ch : Ch) (gen ctr format : Nat) : Bytes :=
  beBytes 4 (member % 4096 * 2 ^ 20 + ch.val * 2 ^ 16 + gen % 65536) ++ beBytes 8 ctr ++ leBytes 2 (gen / 65536) ++
  [byte format, 0]

/-- Wraps 192 bytes under the current generation with the current wrap counter (R134 to R136). -/
def wrapBlock (member : Nat) (ch : Ch) (s : ShardBatt) (format : Nat) (plain : Bytes) : Bytes :=
  let h := wrapHeader member ch s.gen s.wrapCtr format
  let r := gcmEncrypt (rwk s.srk s.gen) (h.take 12) h plain
  h ++ r.1 ++ r.2

/-- The generation a wrapped block's header names. -/
def wrappedGen (w : Bytes) : Nat := fieldBE w 0 4 % 65536 + 65536 * fieldLE w 12 2

/-- Unwraps a block; none when its tag fails. -/
def unwrapBlock (s : ShardBatt) (w : Bytes) : Option Bytes :=
  gcmDecrypt (rwk s.srk (wrappedGen w)) (slice w 0 12) (slice w 0 16) (slice w 16 192) (slice w 208 16)

/-- One wrap made: the counter advances, and the generation rolls when R137 says so; the second part tells a roll. The wrap itself
used the generation before (log 57). -/
def countWrap (s : ShardBatt) : ShardBatt × Bool :=
  let s := { s with wrapCtr := (s.wrapCtr + 1) % 2 ^ 64, genCount := s.genCount + 1 }
  if s.rollDue || s.genCount ≥ 2 ^ 31 then
    ({ s with gen := (s.gen + 1) % 2 ^ 32, genCount := 0, rollDue := false }, true)
  else (s, false)

/-- A second wrap of the same commit: every wrap of a commit uses the generation that is current before it, so one made in a commit
that already rolls counts in no generation (R137). -/
def countSecond (rolled : Bool) (s : ShardBatt) : ShardBatt × Bool :=
  if rolled then ({ s with wrapCtr := (s.wrapCtr + 1) % 2 ^ 64 }, false) else countWrap s

/-- The leaf of a record and its wrapped form (R144). -/
def leafOf (r : MRec) (wrapped : Bytes) : Bytes :=
  sha256 ([0x00] ++ leBytes 4 r.meter ++ leBytes 2 r.keyGen ++ leBytes 4 r.icIn ++ leBytes 4 r.icOut ++ sha256 wrapped)

/-- A node of levels 1 to 8. -/
def nodeLow (l r : Bytes) : Bytes := sha256 ([0x01] ++ l ++ r)

/-- A node of levels 9 to 22. -/
def nodeHigh (l r : Bytes) : Bytes := (sha256 ([0x02] ++ l ++ r)).take 16

/-- Z0 to Z8: empty regions of levels 0 to 8 (R145). -/
def zNode : Nat → Bytes
  | 0 => zeros 32
  | k + 1 => let z := zNode k; nodeLow z z

/-- U at `k` levels above 8. -/
def uNode : Nat → Bytes
  | 0 => (zNode 8).take 16
  | k + 1 => let u := uNode k; nodeHigh u u

/-- The path nodes from the leaf at level `k` upwards through the siblings given. -/
def pathUp (slot : Nat) : Nat → Bytes → List Bytes → List Bytes
  | _, n, [] => [n]
  | k, n, s :: ss => n :: pathUp slot (k + 1) (if bit slot k then nodeLow s n else nodeLow n s) ss

/-- PATH[0] to PATH[8] of a leaf under the eight siblings of a proof (R147, R148). -/
def proofPath (meter : Nat) (leaf proof : Bytes) : List Bytes :=
  pathUp (meter % 2 ^ 22) 0 leaf (chunks 32 (padTo 256 proof))

/-- The full level-8 node of a leaf with its proof. -/
def boundaryOf (meter : Nat) (leaf proof : Bytes) : Bytes := (proofPath meter leaf proof).getLastD []

/-- The group of a meter (R144). -/
def groupOf (meter : Nat) : Nat := meter % 2 ^ 22 / 256

/-- The cached level-8 node of a group. -/
def treeNode (tree : List (Nat × Bytes)) (g : Nat) : Bytes :=
  match tree.find? (fun p => p.1 == g) with
  | some p => p.2
  | none => uNode 0

/-- Inserts into a list rising by key. -/
def treeInsert (g : Nat) (n : Bytes) : List (Nat × Bytes) → List (Nat × Bytes)
  | [] => [(g, n)]
  | p :: ps => if g < p.1 then (g, n) :: p :: ps else if g = p.1 then (g, n) :: ps else p :: treeInsert g n ps

/-- Sets a group's node; a group that holds U8 is not listed. -/
def treeSet (tree : List (Nat × Bytes)) (g : Nat) (n : Bytes) : List (Nat × Bytes) :=
  if n = uNode 0 then tree.filter fun p => p.1 != g else treeInsert g n tree

/-- The node `k` levels above 8 at position `p`, over the listed groups below it. -/
def treeUp : Nat → Nat → List (Nat × Bytes) → Bytes
  | 0, p, t => treeNode t p
  | k + 1, p, t =>
    if t.isEmpty then uNode (k + 1)
    else
      let mid := (2 * p + 1) * 2 ^ k
      nodeHigh (treeUp k (2 * p) (t.filter fun q => q.1 < mid)) (treeUp k (2 * p + 1) (t.filter fun q => mid ≤ q.1))

/-- The root over the level-8 nodes. -/
def treeRoot (t : List (Nat × Bytes)) : Bytes := treeUp 14 0 t

/-- A cache entry for a meter. -/
def cacheFind (c : Channel) (meter : Nat) : Option CacheEntry := c.cache.find? fun e => e.record.meter == meter

/-- Removes a meter from the key cache. -/
def cacheDrop (meter : Nat) (c : Channel) : Channel := { c with cache := c.cache.filter fun e => e.record.meter != meter }

/-- Drops the last element that is not kept, or the last when all are kept: least recently used goes first (R142). -/
def evictLru (l : List CacheEntry) : List CacheEntry :=
  match l.reverse.findIdx? (fun e => !e.keep) with
  | some i => (l.reverse.eraseIdx i).reverse
  | none => l.dropLast

/-- The lowest place of the key cache that no entry has. -/
def cacheSlot (l : List CacheEntry) : Nat := ((List.range 5461).find? fun i => !l.any fun x => x.slot == i).getD 0

/-- Enters or renews a record in the key cache, most recently used first (R142). -/
def cachePut (d : Device) (r : MRec) (keep : Bool) (c : Channel) : Channel :=
  let old := cacheFind c r.meter
  let rest := c.cache.filter fun e => e.record.meter != r.meter
  let rest := if rest.length < 5461 then rest else evictLru rest
  let kept := (rest.filter fun e => e.keep).length
  let k := (keep || old.any (·.keep)) && kept < 4096
  let slot := match old with
    | some x => x.slot
    | none => cacheSlot rest
  { c with cache := ⟨r, k, d.tick, slot⟩ :: rest }

/-- The wrapped data a job's record checks found: the record, its generation, and its wrapped bytes. -/
structure RecCheck where
  record : MRec
  gen : Nat
  wrapped : Bytes
  proof : Bytes
  deriving DecidableEq, Repr

/-- A status, its DETAIL and RESULT: how a job ends when a check fails. -/
structure Fail where
  status : Nat
  detail : Nat := 0
  result : Nat := 0
  deriving DecidableEq, Repr

/-- Header checks of a wrapped block (R141 step 3, R229). -/
def headerCheck (s : ShardBatt) (w : Bytes) (format : Nat) : Option Fail :=
  let g := wrappedGen w
  if fieldLE w 14 1 ≠ format ∨ fieldLE w 15 1 ≠ 0 ∨ g > s.gen then some ⟨0x0200, 0, 0⟩
  else if g + 8 ≤ s.gen then some ⟨0x0202, g % 65536, 0⟩
  else none

/-- R141 steps 1 and 2. -/
def shardCheck (c : Channel) (meter : Nat) : Option Fail :=
  if !servesShard c then some ⟨0x0205, 0, 0⟩
  else if meter / 2 ^ 22 ≠ c.shard.shard then some ⟨0x0204, 0, 0⟩
  else none

/-- The record checks of R141, in order. -/
def recordCheck (c : Channel) (sub : Sub) (wrapped proof : Bytes) : Except Fail RecCheck :=
  match shardCheck c sub.meter with
  | some f => .error f
  | none =>
    match headerCheck c.shard wrapped 0x01 with
    | some f => .error f
    | none =>
      let found := match cacheFind c sub.meter with
        | some e => some e.record
        | none => (unwrapBlock c.shard wrapped).map MRec.ofBytes
      match found with
      | none => .error ⟨0x0200, 0, 0⟩
      | some r =>
        if r.meter ≠ sub.meter then .error ⟨0x0201, 0, 0⟩
        else if (boundaryOf sub.meter (leafOf r wrapped) proof).take 16 ≠ treeNode c.tree (groupOf sub.meter) then
          .error ⟨0x0203, 8, 0⟩
        else .ok ⟨r, wrappedGen wrapped, wrapped, proof⟩

/-- Whether a 32-bit epoch is acknowledged (R158, R554). -/
def acked32 (a last : Nat) : Bool := (a % 2 ^ 32 + 2 ^ 32 - last % 2 ^ 32) % 2 ^ 32 < 2 ^ 31

/-- R158 before the job's own changes: the acknowledgement brought up to date. -/
def absorbAck (s : ShardBatt) (r : MRec) : MRec :=
  if acked32 s.ackEpoch r.lastEpoch then
    { r with ackOut := r.icOut, ackGen := r.skipGen, flags := setBit r.flags 3 false }
  else r

/-- Generation difference modulo 65,536 (R158). -/
def genDiff (p g : Nat) : Nat := (p % 65536 + 65536 - g % 65536) % 65536

/-- The failover skip, when due; the second part tells that it was applied (R158). -/
def applySkip (s : ShardBatt) (r : MRec) : MRec × Bool :=
  let p := s.promo % 65536
  if r.skipGen ≠ p then
    ({ r with icOut := min (r.icOut + 65536 * genDiff p r.skipGen) 0xFFFFFFFF, skipGen := p }, true)
  else (r, false)

/-- The limit of R158. -/
def reserveLimit (s : ShardBatt) (r : MRec) : Nat := r.ackOut + 65536 * (1 + genDiff s.promo r.ackGen)

/-- The limit check of R158, made at the commit of every job that changes a record. -/
def limitOk (s : ShardBatt) (solo : Bool) (r : MRec) : Bool := solo || r.icOut ≤ reserveLimit s r

/-- R158 for a job that uses no outbound counter: the record as its commit starts from it. -/
def reserveIn (s : ShardBatt) (solo : Bool) (r : MRec) : Except Fail MRec :=
  let r := absorbAck s r
  if limitOk s solo r then .ok r else .error ⟨0x0309, 0, 0⟩

/-- R158 and R89 for one use of the outbound counter of a record whose acknowledgement the job has brought up to date: the record
with the counter advanced, the counter used, and whether the skip was applied. `top` is the last counter the job may use. -/
def takeCounter (s : ShardBatt) (solo : Bool) (top : Nat) (r : MRec) : Except Fail (MRec × Nat × Bool) :=
  if r.newKey && !solo then .error ⟨0x0309, 0, 0⟩
  else
    let (r, skipped) := applySkip s r
    if r.icOut > top then .error ⟨0x0302, 0, 0⟩
    else
      let used := r.icOut
      let r := { r with icOut := r.icOut + 1 }
      if r.icOut > reserveLimit s r && !solo then .error ⟨0x0309, 0, 0⟩
      else .ok (r, used, skipped)

/-- The first failing extent of a list of (offset, address, length) against the window (R37). -/
def badExtent (w : Window) (l : List (Nat × Nat × Nat)) : Option Nat :=
  (l.find? fun e => !w.holds e.2.1 e.2.2).map (·.1)

end Sys2Proof.Machine
end

