-- ==== Sys2Proof/Machine/AccessTable.lean ====
section
/-! DEFINITION. Byte memory and the decisions of the access table (R25, R325 to R335). -/

namespace Sys2Proof.Machine

/-- The byte at an address. -/
def memRead (m : Mem) (a : Nat) : Byte :=
  match m.find? (fun c => c.1 == a) with
  | some c => c.2
  | none => 0

/-- Inserts a byte that is not zero. -/
def memInsert (a : Nat) (b : Byte) : Mem → Mem
  | [] => [(a, b)]
  | c :: cs => if a < c.1 then (a, b) :: c :: cs else if a = c.1 then (a, b) :: cs else c :: memInsert a b cs

/-- One byte written; a zero is not listed. -/
def memWrite (m : Mem) (a : Nat) (b : Byte) : Mem :=
  if b = 0 then m.filter fun c => c.1 != a else memInsert a b m

/-- `n` bytes from an address. -/
def memBytes (m : Mem) (a n : Nat) : Bytes := (List.range n).map fun i => memRead m (a + i)

/-- Bytes written from an address up. -/
def memStore (m : Mem) (a : Nat) : Bytes → Mem
  | [] => m
  | b :: bs => memStore (memWrite m a b) (a + 1) bs

/-- The canonical form of memory. -/
def memWf (m : Mem) : Bool := decide (m.Pairwise fun a b => a.1 < b.1) && m.all fun c => c.2 != 0

/-- Whether a cipher engine address holds a register. -/
def ceReg (o : Nat) : Bool :=
  o < 0x20 || (0x1000 ≤ o && o < 0x1800 && o % 0x100 < 0x5C && !(0x34 ≤ o % 0x100 && o % 0x100 < 0x38))

/-- Whether a flash controller address holds a register. -/
def nvReg (o : Nat) : Bool := o < 0x30 || (0x40 ≤ o && o < 0x4C) || (0x100 ≤ o && o < 0x21C) || (0x400 ≤ o && o < 0x600)

/-- Whether an access-table address holds a register. -/
def atReg (o : Nat) : Bool := o < 0x14 || (0x20 ≤ o && o < 0x38) || (0x40 ≤ o && o < 0x4C) || (0x1000 ≤ o && o < 0x1400)

/-- Whether a random-number address holds a register. -/
def rgReg (o : Nat) : Bool :=
  o < 0x1C || (0x20 ≤ o && o < 0x2C) || (0x40 ≤ o && o < 0x60) || (0x1000 ≤ o && o < 0x1200 && o % 0x40 < 0x18)

/-- Whether a safety address holds a register. -/
def sfReg (o : Nat) : Bool :=
  o < 0x18 || (0x20 ≤ o && o < 0x28) || (0x40 ≤ o && o < 0x54) || (0x800 ≤ o && o < 0x814) || (0x900 ≤ o && o < 0x910)

/-- Whether a peripheral address holds a register (R26, R223, R367): of the blocks whose registers are laid out, the
offsets laid out; of the others, all. -/
def periphReg (mgmt : Bool) (a : Nat) : Bool :=
  let o := a % 0x10000
  match a / 0x10000 with
  | 0xF0 => mgmt || ceReg o
  | 0xF1 => mgmt || o < 0x28
  | 0xF2 => mgmt || o < 0x14 || (0x100 ≤ o && o < 0x180) || (0x200 ≤ o && o < 0x240)
  | 0xF3 => mgmt || rgReg o
  | 0xF4 => if mgmt then o < 0x1C else nvReg o
  | 0xF5 => if mgmt then o < 0x10 else atReg o
  | 0xF6 => if mgmt then o < 0x0C || (0x100 ≤ o && o < 0x200) else sfReg o
  | 0xF7 => !mgmt || atReg o
  | 0xF8 => !mgmt || nvReg o
  | 0xF9 => if mgmt then rgReg o else o < 8
  | 0xFA => mgmt
  | 0xFB => mgmt
  | _ => false

/-- The ranges of the channel physical map (R25), or of management's (R394); a reserved sub-range counts as no range
(R26). -/
def mapped (mgmt : Bool) (a : Nat) : Bool :=
  (!(0xF00000 ≤ a && a < 0x1000000) || periphReg mgmt a) &&
  if mgmt then
    a < 0x200000 || (0x800000 ≤ a && a < 0xC00000) || (0xF00000 ≤ a && a < 0xFC0000) || (0xFFFF0000 ≤ a && a < 0x100000000)
  else
    a < 0x80000 || (0x100000 ≤ a && a < 0x480000) || (0x800000 ≤ a && a < 0xA00000) || (0xF00000 ≤ a && a < 0xFA0000) ||
    (0xFFFF0000 ≤ a && a < 0x100000000)

/-- Kinds of access. -/
inductive Access where
  | read
  | write
  | fetch
  deriving DecidableEq, Repr

/-- KIND of AT_VIOL_INFO. -/
def accessCode : Access → Nat
  | .read => 0
  | .write => 1
  | .fetch => 2

/-- Bit of the permission field of a context for a kind of access: IS 0, IU 1, OS 2, OU 3. -/
def permBit (ctx : Nat) (k : Access) : Nat := 3 * ctx + accessCode k

/-- The context number of a world and level. -/
def contextOf (inner sup : Bool) : Nat := (if inner then 0 else 2) + if sup then 0 else 1

/-- The lowest-numbered valid entry that contains an address. -/
def atFind (t : AccessTable) (a : Nat) : Option (Nat × AtEntry) :=
  (t.entries.zipIdx.find? fun p => bit p.1.perm 16 && p.1.first ≤ a / 64 && a / 64 ≤ p.1.last).map fun p => (p.2, p.1)

/-- The boot ROM and the flash window, which no master writes (R25). -/
def readOnly (mgmt : Bool) (a : Nat) : Bool :=
  (0x800000 ≤ a && a < if mgmt then 0xC00000 else 0xA00000) || 0xFFFF0000 ≤ a

/-- Whether the map and the table allow an access (R25, R328). -/
def atAllows (t : AccessTable) (ctx : Nat) (k : Access) (a : Nat) : Bool :=
  mapped t.mgmt a && !(k == .write && readOnly t.mgmt a) && match atFind t a with
    | some (_, e) => bit e.perm (permBit ctx k)
    | none => false

/-- AT_VIOL_INFO of a refused access, VALID apart. -/
def violInfoOf (t : AccessTable) (master : Nat) (inner sup : Bool) (k : Access) (width a : Nat) : Nat :=
  master + 16 * b2n inner + 32 * b2n sup + 64 * accessCode k + 256 * Nat.log2 width + 2048 * b2n (!mapped t.mgmt a) +
  (if mapped t.mgmt a then match atFind t a with
    | some (i, _) => 2 ^ 16 * i
    | none => 2 ^ 22
  else 0)

/-- Captures or counts a refusal (R335). -/
def atRefuse (t : AccessTable) (master : Nat) (inner sup : Bool) (k : Access) (width a : Nat) : AccessTable :=
  if t.violValid then { t with violCount := min (t.violCount + 1) 0xFFFFFFFF }
  else { t with violAddr := a, violInfo := violInfoOf t master inner sup k width a, violValid := true, violOther := master != 0 }

/-- The first address of an extent that an engine may not access as Inner supervisor, unit by unit (R326). A transfer is no
32-bit register access, so one in the peripheral range is refused (R26; DEDUCED, log 148). -/
def dmaBad (t : AccessTable) (k : Access) (a n : Nat) : Option Nat :=
  (List.range (n / 64 + 2)).findSome? fun i =>
    let x := if i = 0 then a else (a / 64 + i) * 64
    if x < a + n && (!atAllows t 0 k x || (0xF00000 ≤ x && x < 0x1000000)) then some x else none

/-- Staged START (R330). -/
def writeAtStart (i : Nat) (v : Word) (t : AccessTable) : AccessTable :=
  match t.entries[i]? with
  | none => t
  | some e => if e.lock || t.lockAll then { t with lockedWrite := true }
    else { t with entries := t.entries.set i { e with stagedFirst := v.toNat / 64 } }

/-- Staged END. -/
def writeAtEnd (i : Nat) (v : Word) (t : AccessTable) : AccessTable :=
  match t.entries[i]? with
  | none => t
  | some e => if e.lock || t.lockAll then { t with lockedWrite := true }
    else { t with entries := t.entries.set i { e with stagedLast := v.toNat / 64 } }

/-- A write of AT_PERM (R330, R331). -/
def writeAtPerm (i : Nat) (v : Word) (t : AccessTable) : AccessTable :=
  match t.entries[i]? with
  | none => t
  | some e =>
    let n := v.toNat
    if e.lock || t.lockAll then { t with lockedWrite := true }
    else if e.stagedFirst > e.stagedLast ∨ bits n 13 12 = 3 ∨ bits n 15 14 = 3 ∨ n ≥ 2 ^ 17 then { t with badEntry := true }
    else { t with entries := t.entries.set i { e with first := e.stagedFirst, last := e.stagedLast, perm := n } }

/-- Locks one entry; a locked entry's own lock register is locked too (R331). -/
def lockEntry (i : Nat) (t : AccessTable) : AccessTable :=
  if (t.entries.getD i {}).lock || t.lockAll then { t with lockedWrite := true }
  else { t with entries := t.entries.modify i fun e => { e with lock := true } }

/-- LOCK_ALL (R331). -/
def lockAllEntries (t : AccessTable) : AccessTable := { t with lockAll := true }

end Sys2Proof.Machine
end

