-- ==== Sys2Proof/Machine/Window.lean ====
section
/-! DEFINITION. What a master reads at an address of a unit's physical map: SRAM, the flash window, the boot ROM (R25,
R343 to R349, R394). -/

namespace Sys2Proof.Machine

/-- The sector of a byte offset (R343). -/
def sectorOf (off : Nat) : Nat := if off < 0x10000 then off / 0x2000 else 8 + (off - 0x10000) / 0x10000

/-- First byte and length of a sector. -/
def sectorBase (s : Nat) : Nat := if s < 8 then 0x2000 * s else 0x10000 + 0x10000 * (s - 8)

def sectorLen (s : Nat) : Nat := if s < 8 then 0x2000 else 0x10000

/-- Bytes of a unit's bank: 2 MiB, management's 4 MiB. -/
def bankBytes (mgmt : Bool) : Nat := if mgmt then 0x400000 else 0x200000

/-- Bits a format corrects in one codeword (R346). -/
def formatT (f : Nat) : Nat := if f = 1 then 12 else if f = 2 then 16 else if f = 3 then 24 else 8

/-- A sector's flag region. -/
def NvBank.sector (b : NvBank) (s : Nat) : Sector := b.sectors.getD s {}

/-- One sector's flags changed. -/
def NvBank.onSector (s : Nat) (f : Sector → Sector) (b : NvBank) : NvBank := { b with sectors := b.sectors.modify s f }

/-- A sector whose reads deliver zeros: INCOMPLETE, or of the suspended erase (R358). -/
def Sector.closed (s : Sector) : Bool := s.incomplete || s.suspended

/-- Whether a codeword has been programmed since its erase. -/
def NvBank.programmed (b : NvBank) (off : Nat) : Bool := b.words.any fun w => w.1 == off

/-- Offsets of the codewords of a page. -/
def codewords (format page : Nat) : List Nat := if format = 4 then [page, page + 128, page + 256, page + 384] else [page]

/-- Whether a page reads as erased (R348). -/
def NvBank.pageErased (b : NvBank) (page : Nat) : Bool :=
  (codewords (b.sector (sectorOf page)).format page).all fun o => !b.programmed o

/-- The decoded byte a read delivers (R348, R349, R358). -/
def NvBank.byteAt (b : NvBank) (off : Nat) : Byte :=
  let s := b.sector (sectorOf off)
  if s.closed then 0
  else
    let cw := if s.format = 4 then off / 128 * 128 else off / 512 * 512
    if b.badWords.contains cw then 0
    else match b.words.find? (fun w => w.1 == cw) with
      | some w => Machine.byteAt w.2 (off - cw)
      | none => 0xFF

/-- The byte at an address of SRAM, of the flash window or of the boot ROM, the firmware's own structures apart. -/
def mapByte (mgmt : Bool) (mem : Mem) (nv : NvBank) (a : Nat) : Byte :=
  if 0xFFFF0000 ≤ a then Config.bootRom mgmt (a - 0xFFFF0000)
  else if 0x800000 ≤ a ∧ a < 0x800000 + bankBytes mgmt then nv.byteAt (a - 0x800000)
  else memRead mem a

end Sys2Proof.Machine
end

