-- ==== Sys2Proof/Machine/Layout.lean ====
section
/-! DEFINITION. Where channel firmware keeps its own structures in the channel physical map, as a master reads them there: the
journal, the result stage, the key cache, the tree cache, the recipe area and the program area (R60, R61, R64, R67, R123, R142,
R146, R236), and a store into them. -/

namespace Sys2Proof.Machine

/-- The 64 bytes of a submission entry (R44). -/
def Sub.toBytes (s : Sub) : Bytes :=
  leBytes 2 s.opcode ++ leBytes 2 s.flags ++ leBytes 2 s.seq ++ leBytes 2 s.recipe ++ leBytes 4 s.hostTag ++ leBytes 4 s.meter ++
  leBytes 8 s.recAddr ++ leBytes 8 s.proofAddr ++ leBytes 8 s.inAddr ++ leBytes 8 s.outAddr ++ leBytes 4 s.inLen ++
  leBytes 4 s.outLen ++ leBytes 8 s.param

/-- CPL in a journal entry: SQ_HEAD and bytes 28 to 31 are filled in at posting (R61). -/
def Cpl.image (s : Sub) (c : Cpl) : Bytes :=
  leBytes 4 s.hostTag ++ leBytes 4 c.outBytes ++ leBytes 2 s.seq ++ leBytes 2 c.status ++ zeros 2 ++ leBytes 2 c.detail ++
  leBytes 8 c.result ++ leBytes 4 c.epochLo ++ zeros 4

/-- *Engagement record*, bytes 232 to 239 of a journal entry (R466). -/
def Engaged.toBytes (g : Engaged) : Bytes :=
  [byte (g.pke.getD 0xFF), byte (g.ctx.getD 0xFF)] ++ leBytes 2 (g.pkeOp.getD 0xFFFF) ++ [byte (g.rng.getD 0xFF), byte (g.hash.getD 0xFF)] ++
  zeros 2

/-- JFLAGS (R61). -/
def JEntry.jflags (e : JEntry) : Nat := b2n e.inline + 2 * b2n e.staged + 4 * b2n e.slotIx.isSome + 8 * b2n e.note

/-- *Journal entry* without its CRC (R61). -/
def JEntry.body (e : JEntry) : Bytes :=
  e.sub.toBytes ++ e.cpl.image e.sub ++ [byte (jStateCode e.state), 0x01, byte e.queue, byte e.jflags] ++ leBytes 8 e.serial ++
  leBytes 2 e.stageOff ++ [byte (e.slotIx.getD 0xFF), byte (e.slotIx2.getD 0xFF)] ++ leBytes 4 e.stageLen ++ zeros 4 ++
  leBytes 8 e.epoch ++ padTo 32 e.leafNew ++ padTo 32 e.bndOld ++ padTo 32 e.bndNew ++ leBytes 8 e.wrapIv ++ e.engaged.toBytes ++
  (List.range 12).map (Config.journalSpare e.serial)

/-- The 256 bytes of a journal entry (R61). -/
def JEntry.toBytes (e : JEntry) : Bytes := e.body ++ leBytes 4 (crc32 e.body)

/-- Whether 256 bytes are an entry that is not lost (R62): a STATE of the table other than FREE, FORMAT 0x01, and the CRC. -/
def entryIntact (b : Bytes) : Bool :=
  [0x1E, 0x2D, 0x4B, 0x87].contains (fieldLE b 96 1) && fieldLE b 97 1 == 0x01 && fieldLE b 252 4 == crc32 (b.take 252)

/-- *Commit slot* without its CRC (R67, R153, R230). -/
def CommitSlot.body (s : CommitSlot) : Bytes :=
  leBytes 4 s.meter ++ leBytes 8 s.epoch ++ [byte s.queue, 0] ++ leBytes 2 s.seq ++ leBytes 4 s.hostTag ++ leBytes 2 s.jidx ++
  zeros 2 ++ padTo 224 s.record ++ zeros 2 ++ leBytes 2 (if s.account then 0x3CC5 else 0x3CC3)

/-- The 256 bytes of a commit slot in the battery domain; MARK is 0x0000 while it is free (R67). -/
def slotBytes (s : Option CommitSlot) : Bytes :=
  let b := match s with
    | some x => x.body
    | none => zeros 252
  b ++ leBytes 4 (crc32 b)

/-- The bytes a job's writes take in the result stage (R64); a whole tree image is not staged. -/
def stageBytes (ws : List HostWrite) : Bytes := ((ws.filter fun w => w.kind != .image).map (·.data)).flatten

/-- A byte of the result stage by offset: the staged bytes of the entry that holds its unit. -/
def stageByte (es : List JEntry) (o : Nat) : Option Byte :=
  (es.find? fun e => 64 * e.stageOff ≤ o && o < 64 * e.stageOff + e.stageLen).map fun e => (stageBytes e.writes).getD (o - 64 * e.stageOff) 0

/-- A byte of the journal by offset: entry i at 256 i (R60). -/
def journalByte (es : List JEntry) (o : Nat) : Option Byte :=
  (es.find? fun e => e.jidx == o / 256).map fun e => e.toBytes.getD (o % 256) 0

/-- A byte of the key cache by offset: 5,461 entries of 192 bytes (R142). -/
def cacheByte (l : List CacheEntry) (o : Nat) : Option Byte :=
  (l.find? fun x => x.slot == o / 192).map fun x => x.record.toBytes.getD (o % 192) 0

/-- The epoch the tree cache reflects: that of the commit whose path it already holds, else the shard's (R146, R65 step 2). -/
def treeEpoch (c : Channel) : Nat :=
  match c.jr.entries.find? (fun e => e.state == .committing && !e.leafNew.isEmpty) with
  | some e => e.epoch
  | none => c.shard.epoch

/-- The check word of the tree cache, slot 0 (R146). -/
def treeCheck (c : Channel) : Bytes :=
  let b := leBytes 8 (treeEpoch c) ++ leBytes 2 c.shard.shard ++ zeros 2
  b ++ leBytes 4 (crc32 b)

/-- Slot `j` of the tree cache: the node at level k and position p in slot 2^(22-k) + p (R146). -/
def treeSlot (c : Channel) (j : Nat) : Bytes :=
  if j = 0 then treeCheck c
  else
    let k := 14 - Nat.log2 j
    let p := j - 2 ^ Nat.log2 j
    treeUp k p (c.tree.filter fun q => q.1 / 2 ^ k == p)

/-- The bytes of its area an image takes: images start at words, so that a program's tables keep their alignment. -/
def Image.room (i : Image) : Nat := roundUp i.bytes.length 4

/-- The images of an area one after another from its first byte. -/
def areaByte : List Image → Nat → Option Byte
  | [], _ => none
  | i :: l, o => if o < i.room then some (i.bytes.getD o 0) else areaByte l (o - i.room)

/-- The images that lie in an area, in the order they were loaded in: the loaded ones, then the old versions. -/
def ImageArea.placed (a : ImageArea) : List Image := a.loaded ++ a.draining

/-- The offset in its area of the first image that meets a test. -/
def areaOffset (p : Image → Bool) : List Image → Nat
  | [] => 0
  | i :: l => if p i then 0 else i.room + areaOffset p l

/-- The bytes of its area that a list of images takes. -/
def areaUsed (a : ImageArea) : Nat := (a.placed.map Image.room).sum

/-- The byte that the firmware's own structures put at an address; none where they put nothing. -/
def Channel.firmwareByte (c : Channel) (a : Nat) : Option Byte :=
  if a < 0x150000 ∨ 0x480000 ≤ a then none
  else if a < 0x190000 then areaByte c.programs.placed (a - 0x150000)
  else if a < 0x1C0000 then areaByte c.recipes.placed (a - 0x190000)
  else if a < 0x200000 then stageByte c.jr.entries (a - 0x1C0000)
  else if a < 0x300000 then journalByte c.jr.entries (a - 0x200000)
  else if a < 0x400000 then cacheByte c.cache (a - 0x300000)
  else if c.treeOk then some ((padTo 16 (treeSlot c ((a - 0x400000) / 16))).getD (a % 16) 0)
  else none

/-- A byte of the firmware's with what was stored over it, as long as the firmware has not written it again. -/
def patched (l : List (Nat × Byte × Byte)) (a : Nat) (b : Byte) : Byte :=
  match l.find? (fun p => p.1 == a) with
  | some p => if p.2.1 = b then p.2.2 else b
  | none => b

/-- The byte a read of the unit's physical map delivers; the peripheral range apart. -/
def Channel.byteAt (c : Channel) (a : Nat) : Byte :=
  match c.firmwareByte a with
  | some b => patched c.patches a b
  | none => mapByte c.table.mgmt c.mem c.nv a

/-- Bytes read from an address up. -/
def Channel.bytesAt (c : Channel) (a n : Nat) : Bytes := (List.range n).map fun i => c.byteAt (a + i)

/-- One byte stored; over a byte of the firmware's own it stands beside it. -/
def Channel.storeByte (a : Nat) (b : Byte) (c : Channel) : Channel :=
  match c.firmwareByte a with
  | some f => { c with patches := (a, f, b) :: c.patches.filter fun p => p.1 != a }
  | none => { c with mem := memWrite c.mem a b }

/-- Bytes stored from an address up. -/
def Channel.store (a : Nat) : Bytes → Channel → Channel
  | [], c => c
  | b :: bs, c => Channel.store (a + 1) bs (c.storeByte a b)

/-- Whether something was stored over the firmware's bytes in a range. -/
def Channel.patchedIn (c : Channel) (a n : Nat) : Bool := c.patches.any fun p => a ≤ p.1 && p.1 < a + n

/-- Whether a range holds a word that reads as uncorrectable. -/
def badIn (t : AccessTable) (a n : Nat) : Bool := t.badWords.any fun w => a < w + 8 && w < a + n

/-- A lost entry (R62, R337): its words are uncorrectable, or its STATE, FORMAT or CRC fails. -/
def entryLost (c : Channel) (e : JEntry) : Bool :=
  let a := 0x200000 + 256 * e.jidx
  badIn c.table a 256 || (c.patchedIn a 256 && !entryIntact (c.bytesAt a 256))

end Sys2Proof.Machine
end

