-- ==== Sys2Proof/Machine/SafetyOps.lean ====
section
/-! DEFINITION. The safety controller's reaction to a report, and the engines' accesses to channel memory (R25, R325 to
R337, R459 to R466). -/

namespace Sys2Proof.Machine

/-- FAULT entries within the last hour: HOUR_COUNT (R465). -/
def Safety.hourCount (s : Safety) (tick : Nat) : Nat := (s.entries.filter fun t => tick ≤ t + 3600000).length

/-- Slots held: queued, running, ended and being cleared, and done entries not popped (R184, R192). -/
def Pke.held (p : Pke) : Nat := p.queue.length + (if p.running.isSome then 1 else 0) + p.ending.length + p.done.length

/-- Sets PK_IRQ bits. -/
def Pke.irqs (n : Nat) (p : Pke) : Pke := { p with irq := p.irq ||| BitVec.ofNat 32 n }

/-- Operand memory cleared at once. -/
def Pke.wiped (p : Pke) : Pke := { p with key := none, retained := none, dirty := false }

/-- A done entry appended, with its interrupt bits (R185). -/
def Pke.finish (id outcome count : Nat) (p : Pke) : Pke :=
  let p : Pke := { p with running := none, done := p.done ++ [⟨id, outcome, count⟩] }
  p.irqs (1 + (if outcome = 0 then 0 else 2) + if outcome = 4 ∨ outcome = 6 then 4 else 0)

/-- Every queued batch ends ABORTED. -/
def Pke.abortQueued (p : Pke) : Pke :=
  p.queue.foldl (fun p b => p.finish b.1 1 0) { p with queue := [] }

/-- The engine halted (R462 step 3): operand memory cleared, then every batch ends ABORTED (R185, R186). DESIGN CHOICE: none of the
running batch's operations had been written (log 146). -/
def Pke.halted (p : Pke) : Pke :=
  let p := p.wiped
  let p := match p.running with
    | none => p
    | some b => p.finish b.id 1 0
  p.abortQueued

/-- Every engine halted: batches, messages, hash operations and random requests end (R462 step 3). -/
def haltEngines (c : Channel) : Channel :=
  { c with
    core := { c.core with halted := true }
    pke := c.pke.halted
    ce := { c.ce with cxs := c.ce.cxs.map fun x => { x with
      fifo := [], msg := {}, outcome := if x.st = .opened then 12 else x.outcome, st := if x.st = .opened then .keyed else x.st } }
    hash := { c.hash with lane := [], main := [] }
    rng := { c.rng with inst := c.rng.inst.map fun i => { i with current := none, queue := [] } }
    fu := { c.fu with busy := false } }

/-- A safety crumb of a channel, SOURCE 0x13 (R479). -/
def safetyCrumb (d : Device) (code p0 p1 p2 p3 : Nat) (c : Channel) : Channel :=
  { c with outCrumbs := c.outCrumbs ++ [⟨code, 0x13, d.seconds, d.cycles, p0, p1, p2, p3⟩] }

/-- States a report takes to FAULT (R552). -/
def faultsFrom (st : ChState) : Bool :=
  st == .ready || st == .asleep || st == .recovery || st == .bist || st == .booting

/-- A mechanism's report (R462, R465): capture, count, and the safe state. -/
def reportSafety (ch : Ch) (d : Device) (mech info : Nat) (c : Channel) : Channel :=
  let c := { c with sf := { c.sf with
    mech := mech, info := info % 2 ^ 32, tag := c.core.traceTag, valid := true, count := min (c.sf.count + 1) 0xFF } }
  if !faultsFrom c.state then c
  else
    let entries := d.tick :: c.sf.entries.filter fun t => d.tick ≤ t + 3600000
    let latch := decide (3 ≤ entries.length) && !c.sf.latched
    let c := { haltEngines c with
      sf := { c.sf with entries := entries, faultTick := d.tick, latched := c.sf.latched || latch }
      outSources := c.outSources ++ [48] ++ if latch then [49] else [] }
    let c := setFault 4 0 0 (setChState .fault c)
    let c := safetyCrumb d (0x0400 + mech) ch.val (info % 2 ^ 32) c.sf.tag entries.length c
    if latch then safetyCrumb d 0x0600 ch.val mech 0 0 c else c

/-- FAULT with the latch set, as a BIST failure and the device safe state have it (R461, R471, R476). -/
def latchFault (ch : Ch) (d : Device) (mech info : Nat) (c : Channel) : Channel :=
  let c := reportSafety ch d mech info c
  if c.sf.latched then c
  else safetyCrumb d 0x0600 ch.val mech 0 0 { c with
    sf := { c.sf with latched := true }, outSources := c.outSources ++ [49] }

/-- The first 8-byte word of an extent that reads as uncorrectable. -/
def badWordIn (t : AccessTable) (a n : Nat) : Option Nat := t.badWords.find? fun w => a < w + 8 && w < a + n

/-- An uncorrectable word captured, first since VALID was cleared (R337). -/
def captureUncorr (word master : Nat) (t : AccessTable) : AccessTable :=
  if t.eccUvalid then t else { t with eccUaddr := word, eccUmaster := master, eccUvalid := true }

/-- Bytes of an extent a master reads as Inner supervisor: none when the table refuses one or a word is uncorrectable
(R325, R329, R337). -/
def engineRead (ch : Ch) (d : Device) (master a n : Nat) (c : Channel) : Option Bytes × Channel :=
  match dmaBad c.table .read a n with
  | some x => (none, { c with table := atRefuse c.table master true true .read (min 64 (a + n - x)) x })
  | none => match badWordIn c.table a n with
    | some w => (none, reportSafety ch d 0x07 w { c with table := captureUncorr w master c.table })
    | none => (some (c.bytesAt a n), c)

/-- A word that a write of an extent covers in part and that reads as uncorrectable: it would have to be read first (R336, R337). -/
def partWordBad (t : AccessTable) (a n : Nat) : Option Nat :=
  t.badWords.find? fun w => a < w + 8 && w < a + n && !(a ≤ w && w + 8 ≤ a + n)

/-- Stores an extent for a master as Inner supervisor; false when the table refuses it, or when a word it covers in part is
uncorrectable. A word written whole gets a fresh code (R336). -/
def engineWrite (ch : Ch) (d : Device) (master a : Nat) (b : Bytes) (c : Channel) : Bool × Channel :=
  match dmaBad c.table .write a b.length with
  | some x => (false, { c with table := atRefuse c.table master true true .write (min 64 (a + b.length - x)) x })
  | none => match partWordBad c.table a b.length with
    | some w => (false, reportSafety ch d 0x07 w { c with table := captureUncorr w master c.table })
    | none =>
      let t := { c.table with badWords := c.table.badWords.filter fun w => !(a ≤ w && w + 8 ≤ a + b.length) }
      (true, { c with table := t }.store a b)

/-- Whether an extent lies in data SRAM. -/
def inData (a n : Nat) : Bool := 0x100000 ≤ a && a + n ≤ 0x200000

/-- A job named in a report completes with SAFETY_HOLD (R464); DETAIL names the mechanism. -/
def safetyHold (mech : Nat) : Nat × Nat := (0x0A00, mech)

/-- SF_STAT (R477). -/
def sfStat (d : Device) (s : Safety) : Nat := b2n s.latched + 2 * b2n d.deviceSafe + 16 * min 15 (s.hourCount d.tick)

/-- SF_FAULT_MECH. -/
def sfMech (s : Safety) : Nat := s.mech + 65536 * s.count + 2 ^ 31 * b2n s.valid

/-- AGE_MIN of SF_BIST. -/
def bistAge (d : Device) (s : Safety) : Nat := sat16 ((d.tick - s.bistTick) / 60000)

/-- The tick at which a channel's next notice is due: its slots are 8 h apart, and channel n's first one n slots after
the tick began, each 8 h divided by the number of enabled channels (R468, R472). -/
def bistDue (ch : Ch) (d : Device) (s : Safety) : Nat := if s.bistNext = 0 then 28800000 / d.enabled * ch.val else s.bistNext

/-- SF_BIST_NEXT. -/
def bistSeconds (ch : Ch) (d : Device) (s : Safety) : Nat := ceilDiv (bistDue ch d s - d.tick) 1000

/-- SF_MB_RESULT. -/
def sfMbResult (s : Safety) : Nat :=
  b2n s.mbDone + 2 * b2n s.mbFail + 4 * b2n s.mbRepaired + 8 * b2n s.mbUnrepairable + 256 * s.mbBank + 4096 * s.mbRepairs

/-- SF_MB_SPARES. -/
def sfSpares (s : Safety) : Nat := (s.spares.take 8).zipIdx.foldl (fun w p => w + p.1 * 16 ^ p.2) 0

/-- A write of SF_REPORT: FIRMWARE_CHECK alone (R459). -/
def sfReport (ch : Ch) (d : Device) (v : Word) (c : Channel) : Channel :=
  if v.toNat % 256 = 0x0B then reportSafety ch d 0x0B (v.toNat / 256) c else c

/-- A write of SF_WDOG (R467): EN starts the watchdog, KICK restarts its count. -/
def sfWdog (d : Device) (v : Word) (s : Safety) : Safety :=
  let start := v.getLsbD 1 && !s.wdogEn
  { s with wdogEn := s.wdogEn || v.getLsbD 1, wdogTick := if start || v.getLsbD 0 then d.tick else s.wdogTick }

/-- Channel firmware's kick, at every claim, at every completion and at every TIMER entry (R467). -/
def kicked (d : Device) (c : Channel) : Channel := { c with sf := { c.sf with wdogTick := d.tick } }

end Sys2Proof.Machine
end

