-- ==== Sys2Proof/Machine/AccessRows.lean ====
section
/-! DEFINITION. Access-table writes, violations, the SRAM scrubber and the leaky buckets (R328 to R342, R362). -/

namespace Sys2Proof.Machine

/-- Passes on the sources and crumbs of management's unit: its crumbs enter the recorder (R417). -/
def collectMg (s : State) : State :=
  let c := s.mgu
  let s := { s with mgu := { c with outSources := [], outCrumbs := [] }, log := { s.log with inbox := s.log.inbox ++ c.outCrumbs } }
  c.outSources.foldl (fun s v => raiseFn0 v s) s

/-- A change to a channel, or to management's unit (16). -/
def onUnit (u : Core) (f : Device → Channel → Channel) (s : State) : State :=
  if h : u.val < 16 then onChanS ⟨u.val, h⟩ (fun _ d c => f d c) s
  else collectMg { s with mgu := f s.dev s.mgu }

/-- A crumb of management's unit, SOURCE 0x10. -/
def mgUnitCrumb (d : Device) (code p0 p1 p2 : Nat) (c : Channel) : Channel :=
  { c with outCrumbs := c.outCrumbs ++ [⟨code, 0x10, d.seconds, d.cycles, p0, p1, p2, 0⟩] }

/-- The table of a unit changed. -/
def onTable (f : AccessTable → AccessTable) (c : Channel) : Channel := { c with table := f c.table }

/-- The originator number of a crumb filed by a unit: its channel, or management 0x10. -/
def unitSource (u : Core) : Nat := u.val

/-- What a bucket's crossing does (R339, R340, R362): the core vector, the host source and the crumb. -/
def sramCrossing (u : Core) (d : Device) (c : Channel) : Channel :=
  let c := { c with table := { c.table with crossings := sat16 (c.table.crossings + 1) } }
  if h : u.val < 16 then
    fileCrumb ⟨u.val, h⟩ d 0x1A00 c.table.bucket c.table.eccCaddr c.table.eccCbit 0 (raiseSource 16 c)
  else mgUnitCrumb d 0x1A00 c.table.bucket c.table.eccCaddr c.table.eccCbit { c with outSources := c.outSources ++ [6] }

/-- One correction of an SRAM word (R336, R339). -/
def sramCorrection (u : Core) (addr bitNo : Nat) (d : Device) (c : Channel) : Channel :=
  let v := c.table.bucket
  let v' := sat16 (v + 1)
  let c := { c with table := { c.table with bucket := v', eccCaddr := addr / 8 * 8, eccCbit := bitNo } }
  if c.table.bucketThr ≠ 0 ∧ v < c.table.bucketThr ∧ c.table.bucketThr ≤ v' then sramCrossing u d c else c

/-- A crossing of a flash bucket. -/
def nvCrossing (u : Core) (d : Device) (c : Channel) : Channel :=
  let c := { c with nv := { c.nv with crossings := sat16 (c.nv.crossings + 1) } }
  if h : u.val < 16 then fileCrumb ⟨u.val, h⟩ d 0x1C00 c.nv.bucket c.nv.crossings 0 0 (raiseSource 17 c)
  else mgUnitCrumb d 0x1C00 c.nv.bucket c.nv.crossings 0 { c with outSources := c.outSources ++ [7] }

/-- `n` corrected bits of a flash bank (R348, R362), one at a time. -/
def nvCorrections (u : Core) (d : Device) : Nat → Channel → Channel
  | 0, c => c
  | n + 1, c =>
    let v := c.nv.bucket
    let v' := sat16 (v + 1)
    let c := { c with nv := { c.nv with bucket := v' } }
    nvCorrections u d n (if c.nv.thr ≠ 0 ∧ v < c.nv.thr ∧ c.nv.thr ≤ v' then nvCrossing u d c else c)

/-- Bytes of SRAM a unit's scrubber sweeps: a channel's data ranges, or management's 2 MiB. -/
def scrubAddr (mgmt : Bool) (line : Nat) : Nat :=
  if mgmt then line * 64 else if line < 0x2000 then line * 64 else 0x100000 + (line - 0x2000) * 64

/-- Lines of one scrub pass. -/
def scrubLines (mgmt : Bool) : Nat := if mgmt then 0x8000 else 0x2000 + 0xE000

/-- SCRUB_LINE (R338): the next line is read; a corrected bit (word of the line, bit) and an uncorrectable word are what
the memory shows. -/
def scrubLine (u : Core) (corrected : Option (Fin 8 × Fin 72)) (bad : Option (Fin 8)) (d : Device) (c : Channel) : Channel :=
  if c.state = .asleep then c
  else
    let mg := c.table.mgmt
    let a := scrubAddr mg c.table.scrubLine
    let last := decide (c.table.scrubLine + 1 = scrubLines mg)
    let c := onTable (fun t => { t with
      scrubLine := if last then 0 else t.scrubLine + 1
      scrubPasses := if last then (t.scrubPasses + 1) % 2 ^ 32 else t.scrubPasses
      scrubTick := if last then some d.tick else t.scrubTick }) c
    let c := match corrected with
      | some (w, b) => sramCorrection u (a + 8 * w.val) b.val d c
      | none => c
    match bad with
    | none => c
    | some w =>
      let x := a + 8 * w.val
      let c := onTable (fun t => captureUncorr x 15 { t with badWords := if t.badWords.contains x then t.badWords else x :: t.badWords }) c
      if h : u.val < 16 then reportSafety ⟨u.val, h⟩ d 0x07 x c else c

/-- A bucket leaks: one is subtracted once LEAK_PERIOD seconds have passed since it last was; a period of 0 acts as 1 (R339, R340). -/
def bucketLeak (nv : Bool) (d : Device) (c : Channel) : Channel :=
  if nv then
    if c.nv.leakTick + 1000 * max 1 c.nv.leak ≤ d.tick then { c with nv := { c.nv with bucket := c.nv.bucket - 1, leakTick := d.tick } } else c
  else onTable (fun t => if t.leakTick + 1000 * max 1 t.bucketLeak ≤ d.tick then { t with bucket := t.bucket - 1, leakTick := d.tick } else t) c

/-- A threshold written (R339): at or below the value it crosses, once until the value has fallen below it. -/
def thresholdWrite (u : Core) (nv : Bool) (v : Word) (d : Device) (c : Channel) : Channel :=
  let n := v.toNat % 65536
  if nv then
    let above := c.nv.thr ≠ 0 ∧ c.nv.thr ≤ c.nv.bucket
    let c := { c with nv := { c.nv with thr := n } }
    if n ≠ 0 ∧ n ≤ c.nv.bucket ∧ ¬ above then nvCrossing u d c else c
  else
    let above := c.table.bucketThr ≠ 0 ∧ c.table.bucketThr ≤ c.table.bucket
    let c := onTable (fun t => { t with bucketThr := n }) c
    if n ≠ 0 ∧ n ≤ c.table.bucket ∧ ¬ above then sramCrossing u d c else c

/-- AT_PERM_WRITE (R330). -/
def execAtPermWrite (unit : Core) (entry : Fin 64) (value : Word) (s : State) : Host.Outcome State Fault Refusal :=
  .next (onUnit unit (fun _ c => onTable (writeAtPerm entry.val value) c) s)

/-- AT_ENTRY_LOCK (R331). -/
def execAtEntryLock (unit : Core) (entry : Fin 64) (s : State) : Host.Outcome State Fault Refusal :=
  .next (onUnit unit (fun _ c => onTable (lockEntry entry.val) c) s)

/-- LOCK_ALL (R331). -/
def execLockAll (unit : Core) (s : State) : Host.Outcome State Fault Refusal :=
  .next (onUnit unit (fun _ c => onTable lockAllEntries c) s)

/-- CNT_CLR (R335). -/
def execCntClr (unit : Core) (s : State) : Host.Outcome State Fault Refusal :=
  .next (onUnit unit (fun _ c => onTable (fun t => { t with violCount := 0 }) c) s)

/-- SCRUB_LINE. -/
def execScrubLine (unit : Core) (corrected : Option (Fin 8 × Fin 72)) (bad : Option (Fin 8)) (s : State) :
    Host.Outcome State Fault Refusal :=
  .next (onUnit unit (inTurn .sramScrub (scrubLine unit corrected bad)) s)

/-- BUCKET_LEAK: of a unit's SRAM bucket, or its flash bucket. -/
def execBucketLeak (unit : Core) (nv : Bool) (s : State) : Host.Outcome State Fault Refusal :=
  .next (onUnit unit (bucketLeak nv) s)

/-- BUCKET_THRESHOLD_WRITE. -/
def execBucketThresholdWrite (unit : Core) (nv : Bool) (value : Word) (s : State) : Host.Outcome State Fault Refusal :=
  .next (onUnit unit (thresholdWrite unit nv value) s)

end Sys2Proof.Machine
end

