-- ==== Sys2Proof/Machine/Flags.lean ====
section
/-! DEFINITION. Rounding, overflow and saturation of Kenten arithmetic (R240, R256, R257, R258). -/

namespace Sys2Proof.Machine

/-- `num / den` rounded under RND (R240); `den` is positive. -/
def roundDiv (rnd : Nat) (num : Int) (den : Nat) : Int :=
  let f := num.fdiv den
  let r := num - f * den
  match rnd with
  | 0 => f
  | 1 => if (den : Int) ≤ 2 * r then f + 1 else f
  | 2 => if 2 * r < den then f else if 2 * r = den ∧ f % 2 = 0 then f else f + 1
  | _ => if num < 0 ∧ r ≠ 0 then f + 1 else f

/-- PSW.RND. -/
def pswRnd (p : Word) : Nat := p.toNat % 4
/-- PSW.SAT. -/
def pswSat (p : Word) : Bool := p.getLsbD 2
/-- PSW.MASK. -/
def pswMask (p : Word) : Bool := p.getLsbD 8
/-- PSW.LEVEL: supervisor. -/
def pswSup (p : Word) : Bool := p.getLsbD 9
/-- PSW.WORLD: Inner. -/
def pswInner (p : Word) : Bool := p.getLsbD 10

/-- PSW with OV set. -/
def pswOv (p : Word) : Word := p ||| 8

/-- Whether a value lies outside two's complement of `w` bits. -/
def outside (w : Nat) (v : Int) : Bool := decide (v < -(2 ^ (w - 1) : Int) ∨ (2 ^ (w - 1) : Int) ≤ v)

/-- The value kept of an exact result of `w` bits: clamped under SAT, else its low bits (R256). -/
def kept (sat : Bool) (w : Nat) (v : Int) : Int :=
  if sat then max (-(2 ^ (w - 1) : Int)) (min v ((2 ^ (w - 1) : Int) - 1)) else (BitVec.ofInt w v).toInt

/-- A result that can overflow, with the PSW after it (R256). -/
def fit (p : Word) (w : Nat) (v : Int) : Int × Word :=
  if outside w v then (kept (pswSat p) w v, pswOv p) else (v, p)

/-- An int32 result with the PSW after it. -/
def fit32 (p : Word) (v : Int) : Word × Word :=
  let r := fit p 32 v
  (BitVec.ofInt 32 r.1, r.2)

/-- The high and the low Q1.15 element of a pair. -/
def pairHi (w : Word) : Int := (w.extractLsb' 16 16).toInt
def pairLo (w : Word) : Int := (w.extractLsb' 0 16).toInt

/-- A pair of two results, each fitted on its own. -/
def fitPair (p : Word) (h l : Int) : Word × Word :=
  let a := fit p 16 h
  let b := fit a.2 16 l
  ((BitVec.ofInt 16 a.1) ++ (BitVec.ofInt 16 b.1), b.2)

/-- A truth value on the stack. -/
def flagWord (b : Bool) : Word := if b then 1 else 0

end Sys2Proof.Machine
end

