-- ==== Sys2Proof/Machine/Operands.lean ====
section
/-! DEFINITION. The Kenten instructions with their immediates: opcode, length, class, decoding, inputs (R261, R262, R265,
R266). -/

namespace Sys2Proof.Machine

/-- An instruction and its immediate. -/
inductive KOp where
  | reserved (opcode : Nat)
  | nop | drop | dup | swap | over | rot | nip | pick (n : Nat) | depth | drop2 | dup2
  | push8 (i : Byte) | push16 (i : Half) | push32 (i : Word) | pushu8 (i : Byte) | pushu16 (i : Half) | pushh (i : Half)
  | add | sub | neg | abs | min | max | addi8 (i : Byte) | addi16 (i : Half)
  | eq | ne | lt | le | ltu | leu | sel | addw
  | and | or | xor | not | shl (n : Nat) | shr (n : Nat) | sarr (n : Nat) | shlv | shrv | sarv | clz | subw
  | mul | mulq | add2 | sub2 | mul2 | pack | unpk
  | clra (k : Bool) | lda (k : Bool) | mac (k : Bool) | msu (k : Bool) | rda (k : Bool) | rdas (k : Bool) (n : Nat)
  | adda (k : Bool)
  | ldw (s : Nat) | ldwi (s : Nat) (i : Half) | ldh (s : Nat) | ldb (s : Nat)
  | stw (s : Nat) | stwi (s : Nat) (i : Half) | sth (s : Nat) | stb (s : Nat)
  | br (r : Half) | brs (r : Byte) | bz (r : Half) | bnz (r : Half) | call (r : Half) | ret | jmp
  | bmov (m : Nat) | vmac (m : Nat) | loops (b : Nat) | hblk (m : Nat) | divs (n : Nat)
  | feat (n : Nat) | gate (n : Nat) | rete | mfsr (n : Nat) | mtsr (n : Nat) | segr (s : Nat) | segw (s : Nat)
  | setrnd (m : Nat) | setsat (m : Nat) | clrov | brk (n : Nat) | wait
  deriving DecidableEq, Repr

/-- The opcode byte. -/
def KOp.opcode : KOp → Nat
  | .reserved o => o
  | .nop => 0x01 | .drop => 0x02 | .dup => 0x03 | .swap => 0x04 | .over => 0x05 | .rot => 0x06 | .nip => 0x07
  | .pick _ => 0x08 | .depth => 0x09 | .drop2 => 0x0A | .dup2 => 0x0B
  | .push8 _ => 0x10 | .push16 _ => 0x11 | .push32 _ => 0x12 | .pushu8 _ => 0x13 | .pushu16 _ => 0x14 | .pushh _ => 0x15
  | .add => 0x20 | .sub => 0x21 | .neg => 0x22 | .abs => 0x23 | .min => 0x24 | .max => 0x25
  | .addi8 _ => 0x26 | .addi16 _ => 0x27 | .eq => 0x28 | .ne => 0x29 | .lt => 0x2A | .le => 0x2B | .ltu => 0x2C
  | .leu => 0x2D | .sel => 0x2E | .addw => 0x2F
  | .and => 0x30 | .or => 0x31 | .xor => 0x32 | .not => 0x33 | .shl _ => 0x34 | .shr _ => 0x35 | .sarr _ => 0x37
  | .shlv => 0x38 | .shrv => 0x39 | .sarv => 0x3A | .clz => 0x3B | .subw => 0x3F
  | .mul => 0x40 | .mulq => 0x41 | .add2 => 0x44 | .sub2 => 0x45 | .mul2 => 0x46 | .pack => 0x47 | .unpk => 0x48
  | .clra k => 0x50 + b2n k | .lda k => 0x52 + b2n k | .mac k => 0x54 + b2n k | .msu k => 0x56 + b2n k
  | .rda k => 0x58 + b2n k | .rdas k _ => 0x5A + b2n k | .adda k => 0x5C + b2n k
  | .ldw s => 0x60 + s | .ldwi s _ => 0x68 + s | .ldh s => 0x70 + s | .ldb s => 0x78 + s
  | .stw s => 0x80 + s | .stwi s _ => 0x88 + s | .sth s => 0x90 + s | .stb s => 0x98 + s
  | .br _ => 0xA0 | .brs _ => 0xA1 | .bz _ => 0xA2 | .bnz _ => 0xA3 | .call _ => 0xA4 | .ret => 0xA5 | .jmp => 0xA6
  | .bmov _ => 0xB0 | .vmac _ => 0xB1 | .loops _ => 0xB2 | .hblk _ => 0xB3 | .divs _ => 0xB4
  | .feat _ => 0xC0 | .gate _ => 0xC1 | .rete => 0xC2 | .mfsr _ => 0xC3 | .mtsr _ => 0xC4 | .segr _ => 0xC5
  | .segw _ => 0xC6 | .setrnd _ => 0xC7 | .setsat _ => 0xC8 | .clrov => 0xC9 | .brk _ => 0xCA | .wait => 0xCB

/-- The instruction an opcode and its immediate bytes (little-endian value) name. -/
def KOp.ofCode (o imm : Nat) : KOp :=
  match o with
  | 0x01 => .nop | 0x02 => .drop | 0x03 => .dup | 0x04 => .swap | 0x05 => .over | 0x06 => .rot | 0x07 => .nip
  | 0x08 => .pick (imm % 256) | 0x09 => .depth | 0x0A => .drop2 | 0x0B => .dup2
  | 0x10 => .push8 (byte imm) | 0x11 => .push16 (BitVec.ofNat 16 imm) | 0x12 => .push32 (BitVec.ofNat 32 imm)
  | 0x13 => .pushu8 (byte imm) | 0x14 => .pushu16 (BitVec.ofNat 16 imm) | 0x15 => .pushh (BitVec.ofNat 16 imm)
  | 0x20 => .add | 0x21 => .sub | 0x22 => .neg | 0x23 => .abs | 0x24 => .min | 0x25 => .max
  | 0x26 => .addi8 (byte imm) | 0x27 => .addi16 (BitVec.ofNat 16 imm)
  | 0x28 => .eq | 0x29 => .ne | 0x2A => .lt | 0x2B => .le | 0x2C => .ltu | 0x2D => .leu | 0x2E => .sel | 0x2F => .addw
  | 0x30 => .and | 0x31 => .or | 0x32 => .xor | 0x33 => .not | 0x34 => .shl (imm % 256) | 0x35 => .shr (imm % 256)
  | 0x37 => .sarr (imm % 256) | 0x38 => .shlv | 0x39 => .shrv | 0x3A => .sarv | 0x3B => .clz | 0x3F => .subw
  | 0x40 => .mul | 0x41 => .mulq | 0x44 => .add2 | 0x45 => .sub2 | 0x46 => .mul2 | 0x47 => .pack | 0x48 => .unpk
  | 0x50 => .clra false | 0x51 => .clra true | 0x52 => .lda false | 0x53 => .lda true
  | 0x54 => .mac false | 0x55 => .mac true | 0x56 => .msu false | 0x57 => .msu true
  | 0x58 => .rda false | 0x59 => .rda true | 0x5A => .rdas false (imm % 256) | 0x5B => .rdas true (imm % 256)
  | 0x5C => .adda false | 0x5D => .adda true
  | 0xA0 => .br (BitVec.ofNat 16 imm) | 0xA1 => .brs (byte imm) | 0xA2 => .bz (BitVec.ofNat 16 imm)
  | 0xA3 => .bnz (BitVec.ofNat 16 imm) | 0xA4 => .call (BitVec.ofNat 16 imm) | 0xA5 => .ret | 0xA6 => .jmp
  | 0xB0 => .bmov (imm % 256) | 0xB1 => .vmac (imm % 256) | 0xB2 => .loops (imm % 65536) | 0xB3 => .hblk (imm % 256)
  | 0xB4 => .divs (imm % 256)
  | 0xC0 => .feat (imm % 256) | 0xC1 => .gate (imm % 256) | 0xC2 => .rete | 0xC3 => .mfsr (imm % 256)
  | 0xC4 => .mtsr (imm % 256) | 0xC5 => .segr (imm % 256) | 0xC6 => .segw (imm % 256) | 0xC7 => .setrnd (imm % 256)
  | 0xC8 => .setsat (imm % 256) | 0xC9 => .clrov | 0xCA => .brk (imm % 256) | 0xCB => .wait
  | _ =>
    let s := o % 8
    if o < 0x60 ∨ 0xA0 ≤ o ∨ 5 < s then .reserved o
    else match o / 8 with
      | 12 => .ldw s
      | 13 => .ldwi s (BitVec.ofNat 16 imm)
      | 14 => .ldh s
      | 15 => .ldb s
      | 16 => .stw s
      | 17 => .stwi s (BitVec.ofNat 16 imm)
      | 18 => .sth s
      | _ => .stb s

/-- Bytes of the instruction an opcode begins; 1 for a reserved one. -/
def codeLen (o : Nat) : Nat :=
  if [0x08, 0x10, 0x13, 0x26, 0x34, 0x35, 0x37, 0x5A, 0x5B, 0xA1, 0xB0, 0xB1, 0xB3, 0xB4, 0xC0, 0xC1, 0xC3, 0xC4, 0xC5,
      0xC6, 0xC7, 0xC8, 0xCA].contains o then 2
  else if [0x11, 0x14, 0x15, 0x27, 0xA0, 0xA2, 0xA3, 0xA4, 0xB2].contains o then 3
  else if (0x68 ≤ o ∧ o ≤ 0x6D) ∨ (0x88 ≤ o ∧ o ≤ 0x8D) then 3
  else if o = 0x12 then 5 else 1

/-- Bytes of an instruction. -/
def KOp.len (i : KOp) : Nat := codeLen i.opcode

/-- Latency classes (R266). -/
inductive KClass where
  | a | m | c | l | s | b | x | y
  deriving DecidableEq, Repr

/-- The class of an instruction. -/
def KOp.cls : KOp → KClass
  | .mul | .mulq | .mul2 => .m
  | .clra _ | .lda _ | .mac _ | .msu _ | .adda _ => .c
  | .ldw _ | .ldwi _ _ | .ldh _ | .ldb _ => .l
  | .stw _ | .stwi _ _ | .sth _ | .stb _ => .s
  | .br _ | .brs _ | .bz _ | .bnz _ | .call _ | .ret | .jmp => .b
  | .bmov _ | .vmac _ | .loops _ | .hblk _ | .divs _ => .x
  | .gate _ | .rete | .mtsr _ | .segw _ | .setrnd _ | .setsat _ | .clrov | .brk _ | .wait => .y
  | _ => .a

/-- An immediate outside the range of its instruction, or a reserved opcode (R262). -/
def KOp.badImm : KOp → Bool
  | .reserved _ => true
  | .pick n => decide (15 < n)
  | .shl n | .shr n | .divs n => decide (31 < n)
  | .sarr n => decide (n = 0 ∨ 31 < n)
  | .rdas _ n => decide (39 < n)
  | .ldw s | .ldh s | .ldb s | .stw s | .sth s | .stb s => decide (5 < s)
  | .ldwi s _ | .stwi s _ => decide (5 < s)
  | .segr s => decide (5 < s)
  | .segw s => decide (s = 0 ∨ 5 < s)
  | .setrnd m => decide (3 < m)
  | .setsat m => decide (1 < m)
  | .loops b => decide (b = 0)
  | .bmov m => decide (5 < m % 8 ∨ 5 < m / 8 % 8 ∨ 63 < m)
  | .vmac m => decide (5 < m % 8 ∨ 5 < m / 8 % 8)
  | .hblk m => decide (4 < m % 8 ∨ 63 < m ∨ 5 < m / 8 % 8)
  | .gate n => decide (4 < n / 16 % 8)
  | _ => false

/-- Slots an instruction takes from the top. -/
def KOp.pops : KOp → Nat
  | .drop | .dup | .neg | .abs | .addi8 _ | .addi16 _ | .not | .shl _ | .shr _ | .sarr _ | .clz | .unpk | .lda _ | .adda _
  | .ldw _ | .ldh _ | .ldb _ | .stwi _ _ | .bz _ | .bnz _ | .ret | .jmp | .mtsr _ => 1
  | .swap | .over | .nip | .drop2 | .dup2 | .add | .sub | .min | .max | .eq | .ne | .lt | .le | .ltu | .leu | .addw
  | .and | .or | .xor | .shlv | .shrv | .sarv | .subw | .mul | .mulq | .add2 | .sub2 | .mul2 | .pack | .mac _ | .msu _
  | .stw _ | .sth _ | .stb _ | .loops _ | .divs _ | .segw _ => 2
  | .rot | .sel | .bmov _ | .vmac _ => 3
  | .hblk m => if m % 8 = 3 then 2 else if m % 8 = 4 then 1 else 0
  | _ => 0

/-- Slots that must be present: PICK reads below the top without taking. -/
def KOp.needs : KOp → Nat
  | .pick n => n + 1
  | i => i.pops

/-- Slots an instruction pushes. -/
def KOp.pushes : KOp → Nat
  | .dup2 => 4
  | .over | .rot => 3
  | .dup | .swap | .unpk | .segr _ => 2
  | .pick _ | .depth | .push8 _ | .push16 _ | .push32 _ | .pushu8 _ | .pushu16 _ | .pushh _
  | .add | .sub | .neg | .abs | .min | .max | .addi8 _ | .addi16 _ | .eq | .ne | .lt | .le | .ltu | .leu | .sel | .addw
  | .and | .or | .xor | .not | .shl _ | .shr _ | .sarr _ | .shlv | .shrv | .sarv | .clz | .subw
  | .mul | .mulq | .add2 | .sub2 | .mul2 | .pack | .rda _ | .rdas _ _ | .ldw _ | .ldwi _ _ | .ldh _ | .ldb _
  | .call _ | .divs _ | .feat _ | .mfsr _ | .nip => 1
  | _ => 0

/-- Cycles until a result can be read. -/
def KClass.latency : KClass → Nat
  | .m | .c => 2
  | .l => 3
  | _ => 1

/-- The FEAT0 bit an instruction's group has (R287). -/
def KOp.feature : KOp → Nat
  | .mul => 1
  | .mulq | .sarr _ | .sarv => 2
  | .add2 | .sub2 | .mul2 | .pack | .unpk => 3
  | .clra _ | .lda _ | .mac _ | .msu _ | .adda _ | .rda _ | .rdas _ _ => 4
  | .divs _ => 5
  | .bmov _ => 6
  | .vmac _ => 7
  | .loops _ => 8
  | .hblk _ => 9
  | .call _ | .ret | .jmp => 10
  | .rete | .mtsr _ | .segw _ | .wait => 11
  | _ => 0

end Sys2Proof.Machine
end

