-- ==== Sys2Proof/Machine/HostPort.lean ====
section
/-! DEFINITION. The host port: registers of a channel function, DMA window, ring pairs, doorbells, coalescing
(R31 to R43, R54, R55). -/

namespace Sys2Proof.Machine

/-- One ring pair of a slice changed. -/
def onPair (q : Fin 4) (f : RingPair → RingPair) (h : Slice) : Slice :=
  { h with pairs := h.pairs.set q.val (f (h.pairs.get q)) q.isLt }

/-- The pair `q` of a channel. -/
def Channel.pairOf (c : Channel) (q : Fin 4) : RingPair := c.host.pairs.get q

/-- One ring pair of a channel changed. -/
def onPairC (q : Fin 4) (f : RingPair → RingPair) (c : Channel) : Channel := { c with host := onPair q f c.host }

/-- Low word of a 64-bit register written; it takes effect with the high word (R31). -/
def Reg64.writeLow (r : Reg64) (v : Word) : Reg64 := { r with low := v }

/-- High word written: the register takes its new value (R31). -/
def Reg64.writeHigh (r : Reg64) (v : Word) : Reg64 :=
  { r with value := BitVec.ofNat 64 (v.toNat * 2 ^ 32 + r.low.toNat) }

/-- SQ size in entries. -/
def RingPair.sqSize (p : RingPair) : Nat := 2 ^ p.sqLog2

/-- CQ size in entries. -/
def RingPair.cqSize (p : RingPair) : Nat := 2 ^ p.cqLog2

/-- Unclaimed entries (R40, R41). -/
def RingPair.unclaimed (p : RingPair) : Nat := (p.sqTail + p.sqSize - p.sqHead) % p.sqSize

/-- The CQ is full (R42). -/
def RingPair.cqFull (p : RingPair) : Bool := (p.cqTail + 1) % p.cqSize == p.cqHead

/-- Whether an enable of the pair would be granted (R38). -/
def RingPair.enableOk (w : Window) (p : RingPair) : Bool :=
  6 ≤ p.sqLog2 && p.sqLog2 ≤ 16 && 6 ≤ p.cqLog2 && p.cqLog2 ≤ 16 &&
  p.sqBase.value.toNat % 4096 == 0 && p.cqBase.value.toNat % 4096 == 0 &&
  w.holds p.sqBase.value.toNat (64 * p.sqSize) && w.holds p.cqBase.value.toNat (32 * p.cqSize) &&
  !(4 ≤ p.vec && p.vec ≤ 19)

/-- A write of RING_CTRL (R38): the fields, the VEC rule while enabled, and the enable or disable it asks for. -/
def RingPair.writeCtrl (w : Window) (v : Word) (p : RingPair) : RingPair :=
  let n := v.toNat
  let vec := bits n 12 8
  let refused := p.en && (4 ≤ vec && vec ≤ 19)
  let p := { p with
    irqEn := bit n 1
    vec := if refused then p.vec else vec
    cfgErr := refused
    coCount := bits n 23 16
    coTime := bits n 31 24 }
  if bit n 0 then
    if p.en then p
    else if p.enableOk w then
      { p with en := true, cfgErr := false, sqHead := 0, sqTail := 0, cqTail := 0, cqHead := 0, phase := true,
               inline := [], fullRaised := false }
    else { p with cfgErr := true }
  else { p with en := false }

/-- A write of a ring-pair register at its offset; base and size writes are ignored while EN is 1 (R38). -/
def RingPair.write (w : Window) (off : Nat) (v : Word) (p : RingPair) : RingPair :=
  if off = 0x14 then p.writeCtrl w v
  else if p.en then p
  else if off = 0x00 then { p with sqBase := p.sqBase.writeLow v }
  else if off = 0x04 then { p with sqBase := p.sqBase.writeHigh v }
  else if off = 0x08 then { p with cqBase := p.cqBase.writeLow v }
  else if off = 0x0C then { p with cqBase := p.cqBase.writeHigh v }
  else if off = 0x10 then { p with sqLog2 := bits v.toNat 4 0, cqLog2 := bits v.toNat 12 8 }
  else p

/-- A write of a DMA window base or limit register; a locked window keeps its values (R36). -/
def Window.write (off : Nat) (v : Word) (w : Window) : Window :=
  if w.lock then w
  else if off = 0x00 then { w with base := w.base.writeLow (v &&& 0xFFFFF000) }
  else if off = 0x04 then { w with base := w.base.writeHigh v }
  else if off = 0x08 then { w with limit := w.limit.writeLow (v ||| 0xFFF) }
  else if off = 0x0C then { w with limit := { w.limit with value := BitVec.ofNat 64 (v.toNat * 2 ^ 32 + (w.limit.low ||| 0xFFF).toNat) } }
  else w

/-- A lock request against the other functions' locked windows (R36). DESIGN CHOICE: of a request refused on both grounds only
BAD_RANGE is set (log 145). -/
def Window.request (others : List Window) (w : Window) : Window :=
  if w.lock then w
  else
    let bad := decide (w.limit.value.toNat < w.base.value.toNat)
    let meets := others.any fun o => o.lock && o.overlaps w
    { w with badRange := bad, overlap := !bad && meets, lock := !bad && !meets }

/-- A write of an MSI-X table word; unmasking a vector whose bit is pending sends its message. -/
def msixWrite (off : Nat) (v : Word) (t : List MsixEntry) : List MsixEntry :=
  t.modify (off / 16) fun e =>
    if off % 16 = 0 then { e with addr := BitVec.ofNat 64 (e.addr.toNat / 2 ^ 32 * 2 ^ 32 + v.toNat) }
    else if off % 16 = 4 then { e with addr := BitVec.ofNat 64 (v.toNat * 2 ^ 32 + e.addr.toNat % 2 ^ 32) }
    else if off % 16 = 8 then { e with data := v }
    else { e with mask := v.getLsbD 0 }

/-- Messages of pending vectors that are no longer masked. -/
def flushPba (h : Slice) : Slice :=
  let open_ := h.pba.filter fun v => match h.msix[v]? with
    | some e => !e.mask
    | none => false
  open_.foldl (fun h v => fireVector v h) { h with pba := h.pba.filter fun v => !open_.contains v }

/-- A write of CH_CTRL: EN is refused unless the DMA window is locked. -/
def writeChCtrl (v : Word) (h : Slice) : Slice :=
  { h with en := v.getLsbD 0 && h.win.lock, sleepOk := v.getLsbD 1, idle := bits v.toNat 15 8 }

/-- Queue number of a ring-pair index. -/
def pairIx (n : Nat) : Fin 4 := ⟨n % 4, Nat.mod_lt n (by decide)⟩

/-- The tail-form doorbell (R39, R41). -/
def doorbellTail (q : Fin 4) (v : Word) (c : Channel) : Channel :=
  let p := c.pairOf q
  let t := v.toNat % 65536
  if c.host.faulted then c
  else if !p.en || t ≥ p.sqSize || (t + p.sqSize - p.sqHead) % p.sqSize < p.unclaimed then setFault 3 t q.val c
  else onPairC q (fun p => { p with sqTail := t }) c

/-- The tail advanced by one, with the copy an inline doorbell leaves if it leaves one (R39 to R41). -/
def doorbellAdvance (q : Fin 4) (copy : Option Bytes) (c : Channel) : Channel :=
  let p := c.pairOf q
  let next := (p.sqTail + 1) % p.sqSize
  if c.host.faulted then c
  else if !p.en || p.unclaimed + 1 ≥ p.sqSize then setFault 3 next q.val c
  else
    let kept := p.inline.filter fun e => e.1 != p.sqTail
    let inl := match copy with
      | some b => if kept.length < 8 then kept ++ [(p.sqTail, b)] else kept
      | none => kept
    onPairC q (fun p => { p with sqTail := next, inline := inl }) c

/-- A CQ head write (R42). DESIGN CHOICE: a faulted function ignores it as it ignores a doorbell (R34 names doorbells; log 145). -/
def writeCqHead (q : Fin 4) (v : Word) (c : Channel) : Channel :=
  let p := c.pairOf q
  let hd := v.toNat % 65536
  if c.host.faulted then c
  else if !p.en || hd ≥ p.cqSize ||
      (hd + p.cqSize - p.cqHead) % p.cqSize > (p.cqTail + p.cqSize - p.cqHead) % p.cqSize then
    setFault 3 hd q.val c
  else onPairC q (fun p => { p with cqHead := hd, fullRaised := false }) c

/-- One aligned 32-bit write in a channel function's BAR0; the lock, which looks at other functions, is apart. -/
def bar0Write (off : Nat) (v : Word) (c : Channel) : Channel :=
  let h := c.host
  if off = 0x0044 then { c with host := writeChCtrl v h }
  else if off = 0x0050 then
    { c with host := { h with w1 := bits v.toNat 7 0, w2 := bits v.toNat 15 8, w3 := bits v.toNat 23 16 } }
  else if off = 0x0060 then { c with host := { h with irqEn := v &&& 0x000FFFF0 } }
  else if off = 0x0064 then { c with host := { h with irqStat := h.irqStat &&& ~~~ v } }
  else if off = 0x0080 then { c with host := { h with fault := h.fault &&& ~~~ (v &&& 0x38) } }
  else if 0x00C0 ≤ off ∧ off < 0x00D0 then { c with host := { h with win := h.win.write (off - 0x00C0) v } }
  else if 0x0100 ≤ off ∧ off ≤ 0x010C then doorbellTail (pairIx ((off - 0x0100) / 4)) v c
  else if 0x0140 ≤ off ∧ off ≤ 0x014C then writeCqHead (pairIx ((off - 0x0140) / 4)) v c
  else if 0x1000 ≤ off ∧ off < 0x1100 then
    onPairC (pairIx ((off - 0x1000) / 0x40)) (fun p => p.write h.win (off % 0x40) v) c
  else if 0x2000 ≤ off ∧ off < 0x2200 then
    { c with host := flushPba { h with msix := msixWrite (off - 0x2000) v h.msix } }
  else c

/-- The windows of every function but one, function 0's among them. -/
def otherWindows (s : State) (fn : Fin 17) : List Window :=
  (List.finRange 17).filterMap fun k =>
    if k = fn then none
    else if h : k.val = 0 then some s.fn0.win
    else some (s.chan ⟨k.val - 1, by omega⟩).host.win

/-- The window lock request of a function. -/
def lockWindow (fn : Fin 17) (s : State) : State :=
  let others := otherWindows s fn
  if h : fn.val = 0 then { s with fn0 := { s.fn0 with win := s.fn0.win.request others } }
  else onChan ⟨fn.val - 1, by omega⟩ (fun _ _ c => { c with host := { c.host with win := c.host.win.request others } }) s

/-- CH_CTRL_WRITE. -/
def execChCtrlWrite (ch : Ch) (value : Word) (s : State) : Host.Outcome State Fault Refusal :=
  .next (onChan ch (fun _ _ c => { c with host := writeChCtrl value c.host }) s)

/-- WINDOW_LOCK (R36). -/
def execWindowLock (fn : Fin 17) (s : State) : Host.Outcome State Fault Refusal := .next (lockWindow fn s)

/-- RING_ENABLE: a RING_CTRL write with EN set (R38). -/
def execRingEnable (ch : Ch) (pair : Fin 4) (value : Word) (s : State) : Host.Outcome State Fault Refusal :=
  .next (onChan ch (fun _ _ c => onPairC pair (fun p => p.writeCtrl c.host.win (value ||| 1)) c) s)

/-- RING_DISABLE: a RING_CTRL write with EN clear (R38). -/
def execRingDisable (ch : Ch) (pair : Fin 4) (value : Word) (s : State) : Host.Outcome State Fault Refusal :=
  .next (onChan ch (fun _ _ c => onPairC pair (fun p => p.writeCtrl c.host.win (value &&& ~~~ (1 : Word))) c) s)

/-- RING_VEC_WRITE: a RING_CTRL write that leaves EN as it stands (R38). -/
def execRingVecWrite (ch : Ch) (pair : Fin 4) (value : Word) (s : State) : Host.Outcome State Fault Refusal :=
  .next (onChan ch (fun _ _ c => onPairC pair (fun p =>
    p.writeCtrl c.host.win (if p.en then value ||| 1 else value &&& ~~~ (1 : Word))) c) s)

/-- SQ_DOORBELL_TAIL (R39, R41). -/
def execSqDoorbellTail (ch : Ch) (q : Fin 4) (value : Word) (s : State) : Host.Outcome State Fault Refusal :=
  .next (onChan ch (fun _ _ c => doorbellTail q value c) s)

/-- SQ_DOORBELL_INLINE: one 64-byte aligned write that carries the entry (R39, R40). -/
def execSqDoorbellInline (ch : Ch) (q : Fin 4) (entry : Bytes) (s : State) : Host.Outcome State Fault Refusal :=
  .next (onChan ch (fun _ _ c => doorbellAdvance q (some (padTo 64 entry)) c) s)

/-- SQ_DOORBELL_INLINE_PARTIAL: any other write of `len` bytes at `off` of the doorbell's 64: it advances the tail
exactly when it covers byte 0x3F, and a write R31 discards does nothing (R39). -/
def execSqDoorbellInlinePartial (ch : Ch) (q : Fin 4) (off len : Nat) (s : State) :
    Host.Outcome State Fault Refusal :=
  .next (onChan ch (fun _ _ c =>
    if off % 4 = 0 ∧ len % 4 = 0 ∧ 0 < len ∧ off ≤ 0x3F ∧ 0x3F < off + len then doorbellAdvance q none c else c) s)

/-- CQ_HEAD_WRITE (R42). -/
def execCqHeadWrite (ch : Ch) (q : Fin 4) (value : Word) (s : State) : Host.Outcome State Fault Refusal :=
  .next (onChan ch (fun _ _ c => writeCqHead q value c) s)

/-- Signals the pair's vector and starts a new coalescing count (R55). -/
def fireCq (q : Fin 4) (h : Slice) : Slice :=
  fireVector (h.pairs.get q).vec (onPair q (fun p => { p with counted := 0 }) h)

/-- CQ_COALESCE_TIMEOUT (R55). -/
def execCqCoalesceTimeout (ch : Ch) (q : Fin 4) (s : State) : Host.Outcome State Fault Refusal :=
  .next (onChan ch (fun _ _ c =>
    let p := c.pairOf q
    if p.irqEn ∧ p.coTime ≠ 0 ∧ 0 < p.counted then { c with host := fireCq q c.host } else c) s)

end Sys2Proof.Machine
end

