-- ==== Sys2Proof/Machine/Drbg.lean ====
section
/-! DEFINITION. The DRBG instances of a channel as their users draw from them (R181, R314 to R318). -/

namespace Sys2Proof.Machine

/-- A counter block plus one, modulo 2^128. -/
def incV (v : Bytes) : Bytes := beBytes 16 (beNat v + 1)

/-- CTR_DRBG update of SP 800-90A with 48 bytes of provided data. -/
def drbgUpdate (key v data : Bytes) : Bytes × Bytes :=
  let rks := aesRoundKeys key
  let v1 := incV v
  let v2 := incV v1
  let v3 := incV v2
  let t := xorBytes (aesEncryptRk rks v1 ++ aesEncryptRk rks v2 ++ aesEncryptRk rks v3) data
  (t.take 32, (t.drop 32).take 16)

/-- Key-stream blocks of a generate request. -/
def drbgBlocks (rks : List Bytes) : Nat → Bytes → Bytes × Bytes
  | 0, v => ([], v)
  | n + 1, v =>
    let v := incV v
    let r := drbgBlocks rks n v
    (aesEncryptRk rks v ++ r.1, r.2)

/-- A generate request of `n` bytes served (R315): the bytes and the instance after it. -/
def Drbg.generate (g : Drbg) (n : Nat) : Bytes × Drbg :=
  let (out, v) := drbgBlocks (aesRoundKeys g.key) (ceilDiv n 16) g.v
  let (k, v) := drbgUpdate g.key v (zeros 48)
  (out.take n, { g with key := k, v := v, count := g.count + 1 })

/-- 384 bits out of two blocks. -/
def seed48 (bs : List Bytes) : Bytes := padTo 48 bs.flatten

/-- The personalization string of an instance (R315). DESIGN CHOICE: management's number is 16 (log 151). -/
def personalization (unit : Nat) (d : Device) (i : Nat) : Bytes :=
  padTo 48 ([byte unit, byte i] ++ leBytes 8 Config.serial.toNat ++ leBytes 8 d.bootCount)

/-- Instantiation from two blocks. -/
def Drbg.instantiate (unit : Nat) (d : Device) (i : Nat) (g : Drbg) (bs : List Bytes) : Drbg :=
  let (k, v) := drbgUpdate (zeros 32) (zeros 16) (xorBytes (seed48 bs) (personalization unit d i))
  { g with state := 1, key := k, v := v, count := 0, reseeds := 0, wants := 0, blocks := [] }

/-- A reseed from two blocks. -/
def Drbg.reseed (g : Drbg) : Drbg :=
  let (k, v) := drbgUpdate g.key g.v (seed48 (g.blocks.take 2))
  { g with state := 1, key := k, v := v, count := 0, reseeds := (g.reseeds + 1) % 2 ^ 32, wants := 0, blocks := g.blocks.drop 2 }

/-- The limit at which an instance stops serving (R317). -/
def drbgLimit : Nat := 2 ^ 20 + 2 ^ 10

/-- One instance changed. -/
def onInst (i : Fin 8) (f : Drbg → Drbg) (c : Channel) : Channel :=
  { c with rng := { c.rng with inst := c.rng.inst.set i.val (f (c.rng.inst.get i)) i.isLt } }

/-- Why an instance gives no bytes. -/
inductive RngStop where
  /-- It waits for blocks. -/
  | waits
  /-- It is in ERROR, or waits on a FAILED source (R318). -/
  | withheld
  | notInstantiated
  deriving DecidableEq, Repr

/-- An engine draws `n` bytes from an instance (R181, R316). -/
def drbgDraw (i : Fin 8) (n : Nat) (c : Channel) : Except RngStop (Bytes × Channel) :=
  let g := c.rng.inst.get i
  if g.state = 3 then .error .withheld
  else if g.state = 0 then .error .notInstantiated
  else if g.count ≥ drbgLimit then .error (if c.rng.source = .failed then .withheld else .waits)
  else
    let (b, g) := g.generate n
    .ok (b, onInst i (fun _ => g) c)

/-- Sets RG_IRQ bits. -/
def rngIrq (n : Nat) (c : Channel) : Channel :=
  { c with rng := { c.rng with irq := c.rng.irq ||| BitVec.ofNat 32 (2 ^ n) } }

/-- An engine or a job draws `n` bytes by the internal port: it also waits while a register request is in progress (R316). -/
def engineDraw (i : Fin 8) (n : Nat) (c : Channel) : Except RngStop (Bytes × Channel) :=
  if (c.rng.inst.get i).current.isSome then .error .waits else drbgDraw i n c

/-- The bytes of a request that an instance serves, and the channel after it. -/
def drawFrom (i : Fin 8) (n : Nat) (c : Channel) : Bytes × Channel :=
  let r := (c.rng.inst.get i).generate n
  (r.1, onInst i (fun _ => r.2) c)

/-- A draw made only when it is needed. -/
def drawIf (needed : Bool) (i : Fin 8) (n : Nat) (c : Channel) : Except RngStop (Bytes × Channel) :=
  if needed then engineDraw i n c else .ok ([], c)

/-- ECDSA with a nonce from the signing-nonce instance, drawn again while r or s is 0 (R179, R181). After eight draws in a row
without a signature the operation is left running: no result is made up (log 146). -/
def signLoop (cv : Curve) (key : Nat) (digest : Bytes) : Nat → Channel → Except RngStop (Bytes × Channel)
  | 0, _ => .error .waits
  | fuel + 1, c =>
    match engineDraw 3 (curveLen cv + 8) c with
    | .error e => .error e
    | .ok (r, c) =>
      let s := ecdsaSign cv key (scalarOf cv r) digest
      let l := curveLen cv
      if fieldBE s 0 l = 0 ∨ fieldBE s l l = 0 then signLoop cv key digest fuel c else .ok (s, c)

/-- A signature of a job or of the engine. -/
def signFresh (cv : Curve) (key : Nat) (digest : Bytes) (c : Channel) : Except RngStop (Bytes × Channel) :=
  signLoop cv key digest 8 c

/-- A generated pair, by the instance its operation draws from: D, X, Y (R181). -/
def keyPair (i : Fin 8) (cv : Curve) (c : Channel) : Except RngStop (Nat × Bytes × Channel) :=
  match engineDraw i (curveLen cv + 8) c with
  | .error e => .error e
  | .ok (r, c) => let k := scalarOf cv r; .ok (k, eccPublic cv k, c)

end Sys2Proof.Machine
end

