-- ==== Sys2Proof/Machine/FlashStore.lean ====
section
/-! DEFINITION. What channel firmware keeps in its flash bank: the root-backup ring, the state checkpoint, the recipe and
settlement stores, and the refresh of worn pages (R128, R155 to R157, R236, R344, R347, R358, R360). -/

namespace Sys2Proof.Machine

/-- A codeword programmed by firmware (R353): its sector is no longer EMPTY. -/
def NvBank.put (off : Nat) (b : Bytes) (n : NvBank) : NvBank :=
  ({ n with words := (off, b) :: n.words }).onSector (sectorOf off) fun s => { s with empty := false }

/-- Pages programmed one after another. -/
def NvBank.putPages (off : Nat) : List Bytes → NvBank → NvBank
  | [], n => n
  | b :: bs, n => NvBank.putPages (off + 512) bs (n.put off b)

/-- A sector erased by firmware (R355). -/
def NvBank.erase (s : Nat) (n : NvBank) : NvBank :=
  let inside (o : Nat) : Bool := sectorBase s ≤ o && o < sectorBase s + sectorLen s
  ({ n with words := n.words.filter fun w => !inside w.1, badWords := n.badWords.filter fun o => !inside o }).onSector s fun x =>
    { x with erases := min (x.erases + 1) 0xFFFFFF, incomplete := false, empty := true }

/-- A sector made EMPTY; one that is EMPTY is not erased again. -/
def NvBank.wipe (s : Nat) (n : NvBank) : NvBank := if (n.sector s).empty && !(n.sector s).closed then n else n.erase s

/-- The format *Channel bank layout* gives a sector (R344). -/
def layoutFormat (s : Nat) : Nat := if s < 6 then 4 else if s < 8 then 3 else 1

/-- A sector that is EMPTY and not formatted as the layout has it is formatted (R347). -/
def NvBank.formatAs (s : Nat) (n : NvBank) : NvBank :=
  if (n.sector s).empty && !(n.sector s).closed then n.onSector s fun x => { x with format := layoutFormat s } else n

/-- The formatting of a first boot (R347). -/
def NvBank.formatBank (n : NvBank) : NvBank := (List.range 39).foldl (fun n s => n.formatAs s) n

/-- The 512 bytes a read of a page delivers. -/
def NvBank.pageBytes (n : NvBank) (page : Nat) : Bytes := (List.range 512).map fun i => n.byteAt (page + i)

/-- The bytes a read of `k` pages delivers. -/
def NvBank.pagesBytes (n : NvBank) (page k : Nat) : Bytes := ((List.range k).map fun i => n.pageBytes (page + 512 * i)).flatten

/-- A codeword that reads as it was programmed: its sector is open and it is correctable. -/
def NvBank.readable (n : NvBank) (off : Nat) : Bool := !(n.sector (sectorOf off)).closed && !n.badWords.contains off

/-- *Root backup record* without its CRC (R155). -/
def RootBackup.body (b : RootBackup) : Bytes :=
  leBytes 4 0x52544B42 ++ leBytes 2 b.shard ++ zeros 2 ++ leBytes 8 b.epoch ++ padTo 16 b.root ++ leBytes 4 b.promo ++
  leBytes 4 b.gen ++ leBytes 8 b.wrapCtr ++ leBytes 8 b.ackEpoch ++ leBytes 8 b.seq ++ leBytes 8 b.ckptEpoch ++
  padTo 32 b.ckptDigest ++ zeros 20

/-- The 128 bytes of a root backup record (R155). -/
def RootBackup.toBytes (b : RootBackup) : Bytes := b.body ++ leBytes 4 (crc32 b.body)

/-- A root backup record read back; none when its MARK or its CRC fails (R155, R156). -/
def RootBackup.ofBytes (b : Bytes) : Option RootBackup :=
  if b.length ≠ 128 ∨ fieldLE b 0 4 ≠ 0x52544B42 ∨ fieldLE b 124 4 ≠ crc32 (b.take 124) then none
  else some { shard := fieldLE b 4 2, epoch := fieldLE b 8 8, root := slice b 16 16, promo := fieldLE b 32 4, gen := fieldLE b 36 4
              wrapCtr := fieldLE b 40 8, ackEpoch := fieldLE b 48 8, seq := fieldLE b 56 8, ckptEpoch := fieldLE b 64 8
              ckptDigest := slice b 72 32 }

/-- The valid records of the root-backup ring with their offsets, newest written first (R155, R156). -/
def NvBank.backups (n : NvBank) : List (Nat × RootBackup) :=
  n.words.filterMap fun w => if w.1 < 0xC000 ∧ n.readable w.1 then (RootBackup.ofBytes w.2).map fun b => (w.1, b) else none

/-- The record with the highest BACKUP_SEQ (R156). -/
def newestBackup (l : List (Nat × RootBackup)) : Option (Nat × RootBackup) := l.find? fun b => l.all fun x => x.2.seq ≤ b.2.seq

/-- The bank with a record programmed at the ring's head: the first segment from `off` that is erased, a sector being erased and
formatted as the ring reaches it. -/
def NvBank.ringPut (b : Bytes) : Nat → Nat → NvBank → NvBank
  | 0, _, n => n
  | fuel + 1, off, n =>
    let s := sectorOf off
    if off % 0x2000 = 0 then (((n.wipe s).formatAs s)).put off b
    else if n.programmed off || (n.sector s).closed || (n.sector s).format != 4 then NvBank.ringPut b fuel ((off + 128) % 0xC000) n
    else n.put off b

/-- A record written to the root-backup ring after the newest one. -/
def NvBank.writeRing (b : RootBackup) (n : NvBank) : NvBank :=
  n.ringPut b.toBytes 384 (match newestBackup n.backups with
    | some x => (x.1 + 128) % 0xC000
    | none => 0)

/-- SHA-256 of a checkpoint's 256 KiB. -/
def checkpointDigest (nodes : List (Nat × Bytes)) : Bytes :=
  sha256 ((List.range 16384).map (treeNode nodes)).flatten

/-- The four state-checkpoint sectors (R344): first byte. -/
def ckptBase : Nat := 0x1B0000

/-- The checkpoint written to its sectors, in group order (R157). -/
def NvBank.writeCheckpoint (nodes : List (Nat × Bytes)) (n : NvBank) : NvBank :=
  let pages := (List.range 512).map fun k => ((List.range 32).map fun i => treeNode nodes (32 * k + i)).flatten
  ([34, 35, 36, 37].foldl (fun n s => n.wipe s) n).putPages ckptBase pages

/-- The 256 KiB of the state-checkpoint sectors as they read. -/
def NvBank.checkpoint (n : NvBank) : Bytes := n.pagesBytes ckptBase 512

/-- A store of images in a channel's bank: first byte, number of 64 KiB sectors, and the CODE values of its commit pages. -/
structure StoreArea where
  base : Nat
  sectors : Nat
  load : Nat
  removal : Nat
  deriving DecidableEq, Repr

/-- The recipe store (R128, R344). -/
def recipeStore : StoreArea := ⟨0x110000, 6, 0xC3A55A3C, 0x3C5AA5C3⟩

/-- The settlement store (R236, R344). -/
def settleStore : StoreArea := ⟨0x170000, 4, 0xC3A55A3D, 0x3D5AA5C3⟩

/-- *Commit page* (R128). -/
def StoreRec.commitPage (a : StoreArea) (r : StoreRec) : Bytes :=
  leBytes 4 (if r.removal then a.removal else a.load) ++ leBytes 2 r.id ++ zeros 2 ++ leBytes 4 r.version ++
  leBytes 4 r.image.length ++ leBytes 8 r.seq ++ padTo 48 r.digest ++ List.replicate 440 0xFF

/-- The pages of a store record: its image padded with 0xFF, then the commit page (R128). -/
def StoreRec.pages (a : StoreArea) (r : StoreRec) : List Bytes :=
  (if r.removal then [] else chunks 512 (r.image ++ List.replicate (roundUp r.image.length 512 - r.image.length) 0xFF)) ++
  [r.commitPage a]

/-- Bytes a store record takes: its pages of 512 bytes and the commit page. -/
def StoreRec.size (r : StoreRec) : Nat := (if r.removal then 0 else roundUp r.image.length 512) + 512

/-- The sector of the store that holds a record. -/
def StoreRec.sector (a : StoreArea) (r : StoreRec) : Nat := (r.off - a.base) / 0x10000

/-- The store record whose commit page is a codeword of the bank; none when it is no commit page of the store (R128). -/
def storeRecAt (a : StoreArea) (n : NvBank) (w : Nat × Bytes) : Option StoreRec :=
  let code := fieldLE w.2 0 4
  let len := fieldLE w.2 12 4
  let first := w.1 - roundUp len 512
  if w.1 < a.base ∨ a.base + 0x10000 * a.sectors ≤ w.1 ∨ ¬ n.readable w.1 then none
  else if code = a.removal then
    some { removal := true, id := fieldLE w.2 4 2, version := 0, seq := fieldLE w.2 16 8, digest := zeros 48, image := [], off := w.1 }
  else if code = a.load ∧ w.1 / 0x10000 = first / 0x10000 ∧ roundUp len 512 ≤ w.1 then
    some { removal := false, id := fieldLE w.2 4 2, version := fieldLE w.2 8 4, seq := fieldLE w.2 16 8, digest := slice w.2 24 48
           image := (n.pagesBytes first (roundUp len 512 / 512)).take len, off := w.1 }
  else none

/-- The records of a store, oldest programmed first, whoever programmed them (R128). -/
def storeScan (a : StoreArea) (n : NvBank) : List StoreRec := n.words.reverse.filterMap (storeRecAt a n)

/-- Bytes of a sector of a store up to the end of its last page that is programmed. -/
def sectorUsed (a : StoreArea) (n : NvBank) (s : Nat) : Nat :=
  let lo := a.base + 0x10000 * s
  (n.words.map fun w => if lo ≤ w.1 ∧ w.1 < lo + 0x10000 then w.1 - lo + 512 else 0).foldl max 0

/-- Whether a sector of a store is INCOMPLETE: it is erased before any program there (R358). -/
def sectorTorn (a : StoreArea) (n : NvBank) (s : Nat) : Bool := (n.sector (sectorOf (a.base + 0x10000 * s))).incomplete

/-- Erased bytes of a store. -/
def storeFree (a : StoreArea) (n : NvBank) : Nat :=
  ((List.range a.sectors).map fun s => if sectorTorn a n s then 0 else 0x10000 - sectorUsed a n s).sum

/-- Whether a record is live (R128): the newest of its identifier; a removal, while a load of its identifier lies outside the
sector `s` that is to be erased. -/
def storeLive (a : StoreArea) (l : List StoreRec) (s : Nat) (r : StoreRec) : Bool :=
  (l.all fun x => x.id != r.id || x.seq ≤ r.seq) &&
  (!r.removal || l.any fun x => x.id == r.id && !x.removal && x.sector a != s)

/-- A record written where there is room, but in sector `but`. -/
def storePlace (a : StoreArea) (but : Option Nat) (r : StoreRec) (n : NvBank) : Option NvBank :=
  let used (s : Nat) : Nat := if sectorTorn a n s then 0 else sectorUsed a n s
  ((List.range a.sectors).find? fun s => some s != but && used s + r.size ≤ 0x10000).map fun s =>
    let n' := if sectorTorn a n s then n.wipe (sectorOf (a.base + 0x10000 * s)) else n
    n'.putPages (a.base + 0x10000 * s + used s) (r.pages a)

/-- A sector's live records copied out, then its erase (R128); none when they find no room. -/
def storeCompact (a : StoreArea) (s : Nat) (n : NvBank) : Option NvBank :=
  let l := storeScan a n
  ((l.filter fun r => r.sector a == s && storeLive a l s r).foldl (fun n r => n.bind (storePlace a (some s) r)) (some n)).map
    (NvBank.wipe (sectorOf (a.base + 0x10000 * s)))

/-- The sectors in the order in which compaction takes them: the one with the lowest STORE_SEQ first, those without a record last. -/
def compactOrder (a : StoreArea) (l : List StoreRec) : List Nat :=
  let low (s : Nat) : Nat := ((l.filter fun r => r.sector a == s).map (·.seq)).foldl min (2 ^ 64)
  (List.range a.sectors).foldl (fun acc s => acc.takeWhile (fun t => low t ≤ low s) ++ s :: acc.dropWhile (fun t => low t ≤ low s)) []

/-- A sector whose erase frees something: it holds pages besides its live records. -/
def sectorDead (a : StoreArea) (n : NvBank) (s : Nat) : Bool :=
  let l := storeScan a n
  ((l.filter fun r => r.sector a == s && storeLive a l s r).map StoreRec.size).sum < sectorUsed a n s

/-- A record written, sectors being compacted as its size needs; none when the store has no room for it (R128, R365). -/
def storeWrite (a : StoreArea) (r : StoreRec) : Nat → NvBank → Option NvBank
  | 0, _ => none
  | fuel + 1, n => match storePlace a none r n with
    | some n' => some n'
    | none => ((compactOrder a (storeScan a n)).filter (sectorDead a n)).findSome? (fun s => storeCompact a s n) |>.bind (storeWrite a r fuel)

/-- The next STORE_SEQ. -/
def storeSeq (l : List StoreRec) : Nat := (l.map (·.seq)).foldl max 0 + 1

/-- The identifiers of a store, without repeats, with their newest records (R129). -/
def storeNewest (l : List StoreRec) : List StoreRec := l.filter fun r => l.all fun x => x.id != r.id || x.seq ≤ r.seq

/-- Every page of a sector that is not erased copied to the same place of another (R360). -/
def copySector (src dst : Nat) (n : NvBank) : NvBank :=
  (List.range 128).foldl (fun m k =>
    let page := sectorBase src + 512 * k
    if n.pageErased page then m else m.put (sectorBase dst + 512 * k) (n.pageBytes page)) n

/-- SHA-256 of a 64 KiB sector as it reads. -/
def sectorDigest (n : NvBank) (s : Nat) : Bytes := sha256 (n.pagesBytes (sectorBase s) 128)

/-- The first byte and the sectors of a firmware slot: 8 sectors of a channel's bank, 4 of management's (R344, R345). -/
def slotBase (mgmt slot : Bool) : Nat := if mgmt then (if slot then 0x390000 else 0x350000) else if slot then 0x90000 else 0x10000

def slotSectors (mgmt slot : Bool) : List Nat :=
  (List.range (if mgmt then 4 else 8)).map fun k => sectorOf (slotBase mgmt slot) + k

/-- A firmware slot erased. -/
def NvBank.eraseSlot (mgmt slot : Bool) (n : NvBank) : NvBank := (slotSectors mgmt slot).foldl (fun n s => n.erase s) n

/-- The pages of an image of `len` bytes that a piece completes, programmed: `old` bytes of `data` are there already; the rest of
the last page is left as erased. -/
def NvBank.writeSlot (mgmt slot : Bool) (len old : Nat) (data : Bytes) (n : NvBank) : NvBank :=
  let first := old / 512
  let last := if data.length = len then roundUp len 512 / 512 else data.length / 512
  let pages := (List.range (last - first)).map fun k =>
    let p := slice data (512 * (first + k)) 512
    p ++ List.replicate (512 - p.length) 0xFF
  n.putPages (slotBase mgmt slot + 512 * first) pages

/-- The first `len` bytes of a slot as they read. -/
def NvBank.readSlot (mgmt slot : Bool) (len : Nat) (n : NvBank) : Bytes :=
  (n.pagesBytes (slotBase mgmt slot) (roundUp len 512 / 512)).take len

/-- Steps 1 and 2 of the staged refresh (R360). -/
def refreshStage (spare s : Nat) (n : NvBank) : NvBank := copySector s spare (n.wipe spare)

/-- Steps 4 and 5 of the staged refresh. -/
def refreshBack (spare s : Nat) (n : NvBank) : NvBank := copySector spare s (n.wipe s)

/-- The live records a page of the ring holds, each the newest of its shard, copied to the ring's head (R360). -/
def refreshRing (page : Nat) (n : NvBank) : NvBank :=
  let l := n.backups
  (l.filter fun x => x.1 / 512 == page / 512 && l.all fun y => y.2.shard != x.2.shard || y.2.seq ≤ x.2.seq).foldl (fun n x => n.writeRing x.2) n

end Sys2Proof.Machine
end

