-- ==== Sys2Proof/Machine/ShardActs.lean ====
section
/-! DEFINITION. What a commit does to a shard, its role or its pair besides a leaf change, and the root backup that a new shard
starts with (R155, R167, R168, R370 to R392). -/

namespace Sys2Proof.Machine

/-- The code of a pair role. -/
def roleCode : PairRole → Nat
  | .none => 0
  | .active => 1
  | .standby => 2
  | .standbyEmpty => 3

/-- A fresh sender nonce from the Inner firmware instance; the message counter starts at 0 for it (R369). -/
def newNonce (c : Channel) : Channel :=
  let (n, c) := drawFrom 0 16 c
  { c with pair := { c.pair with snonce := n, pseq := 0 } }

/-- A change of pair role: a new nonce and a PAIR_ROLE crumb. -/
def setRole (ch : Ch) (d : Device) (r : PairRole) (c : Channel) : Channel :=
  if c.pair.role = r then c
  else
    let old := roleCode c.pair.role
    let c := newNonce { c with pair := { c.pair with role := r } }
    fileCrumb ch d 0x2400 old (roleCode r) c.shard.promo 0 c

/-- Shard state zeroed by DISCARD or PAIR_UNBIND: shard, commit slots and tree cache; this channel's wrap counter stays,
as R136 never lets it go back. -/
def discardShard (c : Channel) : Channel :=
  { c with
    shard := { wrapCtr := c.shard.wrapCtr, lastTxn := c.shard.lastTxn }
    tree := [], treeOk := false, held := false, cache := [] }

/-- PAIR_UNBIND's effect (R372). -/
def unbindPair (ch : Ch) (d : Device) (c : Channel) : Channel :=
  let old := c.pair.role
  let c := setRole ch d .none c
  let c := { c with pair := { c.pair with peer := none, shadow := none } }
  if old = .standby ∨ old = .standbyEmpty then discardShard c else c

/-- The root backup record of a channel's state now (R155). -/
def backupOf (c : Channel) : RootBackup :=
  { shard := c.shard.shard + if c.shard.assigned then 0x8000 else 0
    epoch := c.shard.epoch, root := c.shard.root, promo := c.shard.promo, gen := c.shard.gen
    wrapCtr := c.shard.wrapCtr, ackEpoch := c.shard.ackEpoch
    seq := ((newestBackup c.nv.backups).map (·.2.seq)).getD 0 + 1
    ckptEpoch := (c.backups.checkpoint.map (·.1)).getD 0
    ckptDigest := (c.backups.checkpoint.map (·.2.1)).getD (zeros 32) }

/-- Writes a root backup record (R155). -/
def writeBackup (d : Device) (c : Channel) : Channel :=
  { c with nv := c.nv.writeRing (backupOf c), backups := { c.backups with lastTick := d.tick, lastEpoch := c.shard.epoch } }

/-- The state of a shard just created (R167). -/
def newShard (shard base : Nat) (srk : Bytes) (old : ShardBatt) : ShardBatt :=
  { old with assigned := true, shard := shard, root := treeRoot [], epoch := 0, promo := 0, ackEpoch := 0, gen := 1, genCount := 0
             rotateTick := 0, rotated := false, srk := srk, treeBase := base, rollDue := false }

/-- A change of the shard's generation by a commit other than a wrap: GEN_COUNT counts the wraps under the new one (R154). -/
def ShardBatt.withGen (g : Nat) (s : ShardBatt) : ShardBatt := { s with gen := g, genCount := if s.gen = g then s.genCount else 0 }

/-- The epoch of an item. -/
def NoteItem.epoch (i : NoteItem) : Nat :=
  match i with
  | .leaf _ ep _ _ => ep
  | .governor ep _ _ => ep
  | .generation ep _ => ep

/-- What the commit of a job does besides its leaf change. -/
def applyAct (ch : Ch) (d : Device) (a : ShardAct) (c : Channel) : Channel :=
  match a with
  | .snapStart snap => { c with pair := { c.pair with
      snapId := snap, buffer := [], unacked := [], syncLost := false, lastNote := none } }
  | .snapChunk => { c with pair := { c.pair with lastNote := none } }
  | .promote t => setRole ch d .active { c with
      tree := t, treeOk := true, cache := []
      shard := { c.shard with promo := (c.shard.promo + 1) % 2 ^ 32, ackEpoch := c.shard.epoch, rollDue := true }
      gov := { c.gov with holdUntil := d.tick + c.gov.window * 1000, token := none }
      pair := { c.pair with peer := none, buffer := [], unacked := [], syncLost := true, overdue := false, ackTick := d.tick } }
  | .relinquish => setRole ch d .standby { c with cache := [] }
  | .note t epoch gen b w => { c with
      tree := t, cache := []
      shard := { (c.shard.withGen gen) with root := treeRoot t, epoch := epoch }
      gov := { c.gov with budget := b, window := w } }
  | .ack ep => { c with
      shard := { c.shard with ackEpoch := ep }
      pair := { c.pair with ackTick := d.tick, overdue := false, unacked := c.pair.unacked.filter fun i => ep < i.1.epoch } }
  | .adopt s base => setRole ch d .standby { c with
      shard := { (c.shard.withGen s.gen) with
        assigned := true, shard := s.shard, root := treeRoot s.nodes, epoch := s.epoch, promo := s.promo
        srk := s.srk, ackEpoch := s.epoch, treeBase := base }
      gov := { c.gov with budget := s.b, window := s.w }
      tree := s.nodes, treeOk := true, cache := []
      pair := { c.pair with shadow := none, snapId := s.snapId } }
  | .takeOver b w token log => setRole ch d .active { c with
      gov := { c.gov with budget := b, window := w, token := token, log := log }
      cache := [], shard := { c.shard with ackEpoch := c.shard.epoch }
      pair := { c.pair with buffer := [], unacked := [], overdue := false, ackTick := d.tick, shadow := none } }
  | .bindActive peer lag => setRole ch d .active { c with
      gov := { c.gov with solo := none }
      pair := { c.pair with
        peer := some peer, ackLag := lag, buffer := [], unacked := [], syncLost := true, lastNote := none, overdue := false } }
  | .bindStandby discard peer shard base =>
    let c := if discard then discardShard c else c
    setRole ch d .standbyEmpty (newNonce { c with
      cache := []
      gov := { c.gov with solo := none }
      pair := { c.pair with
        peer := some peer, ackLag := 0, shadow := none, buffer := [], unacked := [], bindShard := shard, bindTreeBase := base } })
  | .unbind => unbindPair ch d c
  | .revoke seq ms =>
    let c := { c with pair := { c.pair with listSeq := seq, revoked := ms } }
    let gone : Bool := match c.pair.peer with
      | some (m, _) => ms.contains m
      | none => false
    if gone ∧ c.pair.role = .active then unbindPair ch d c else c
  | .create n base srk => writeBackup d { c with
      shard := newShard n base srk c.shard, gov := {}, cache := [], tree := [], treeOk := true, held := false }
  | .moveTree base => { c with shard := { c.shard with treeBase := base } }

/-- The shard's epoch once a commit without a leaf change is done. -/
def actEpoch (now : Nat) : Option ShardAct → Nat
  | some (.note _ e _ _ _) => e
  | some (.adopt s _) => s.epoch
  | some (.create _ _ _) => 0
  | _ => now

/-- What of a pair's state a staged job is computed from. -/
def Pair.basis (p : Pair) : Pair :=
  { role := p.role, peer := p.peer, ackLag := p.ackLag, bindShard := p.bindShard, bindTreeBase := p.bindTreeBase, syncLost := p.syncLost
    snapId := p.snapId, shadow := p.shadow, listSeq := p.listSeq, revoked := p.revoked }

end Sys2Proof.Machine
end

