-- ==== Sys2Proof/Machine/Standing.lean ====
section
/-! DEFINITION. The two cipher contexts that channel firmware keeps: the current record-wrapping key, and a second one that is loaded in
turn (R225). -/

namespace Sys2Proof.Machine

/-- The context loaded with the current RWK: GCM, AES-256, PREFIX64, 16-byte tag, COUNTED. -/
def standingCx (ch : Ch) (d : Device) (s : ShardBatt) : Cx :=
  { st := .keyed, cfg := 3 + 2 * 16 + 2 * 256 + 1024, key := rwk s.srk s.gen, hwEmpty := true, ctr := s.wrapCtr
    fix := (wrapHeader (d.member % 4096) ch s.gen 0 1).take 4 ++ zeros 4 }

/-- The first context of a channel: HELD without a key while it has no shard. -/
def firstCx (ch : Ch) (d : Device) (s : ShardBatt) : Cx := if s.assigned then standingCx ch d s else { st := .held }

/-- Firmware enables the engine and allocates its two contexts, at boot and on waking (R223, R225). -/
def allocStanding (ch : Ch) (d : Device) (c : Channel) : Channel :=
  { c with ce := { c.ce with
    en := true, standing := true, cxs := (c.ce.cxs.set 0 (firstCx ch d c.shard) (by decide)).set 1 { st := .held } (by decide) } }

/-- The first context after a commit: loaded again when the current RWK is another, else advanced by the wraps made. -/
def followShard (ch : Ch) (d : Device) (old : ShardBatt) (c : Channel) : Channel :=
  let s := c.shard
  if !c.ce.standing then c
  else
    let x := c.ce.cxs.get 0
    let x := if s.assigned ≠ old.assigned ∨ s.gen ≠ old.gen ∨ s.srk ≠ old.srk then firstCx ch d s
      else if s.wrapCtr ≠ old.wrapCtr then { x with ctr := s.wrapCtr, used := s.wrapCtr - 1, started := true, usedEnc := true }
      else x
    { c with ce := { c.ce with cxs := c.ce.cxs.set 0 x (by decide) } }

end Sys2Proof.Machine
end

