-- ==== Sys2Proof/Machine/JobPipe.lean ====
section
/-! DEFINITION. The life of a job: claim and its checks, host reads, commit, battery transaction, staged writes,
acknowledgement and posting (R37, R44 to R52, R60 to R67, R72). -/

namespace Sys2Proof.Machine

/-- A submission entry decoded from its 64 bytes (R44). -/
def Sub.ofBytes (b : Bytes) : Sub :=
  { opcode := fieldLE b 0 2, flags := fieldLE b 2 2, seq := fieldLE b 4 2, recipe := fieldLE b 6 2
    hostTag := fieldLE b 8 4, meter := fieldLE b 12 4, recAddr := fieldLE b 16 8, proofAddr := fieldLE b 24 8
    inAddr := fieldLE b 32 8, outAddr := fieldLE b 40 8, inLen := fieldLE b 48 4, outLen := fieldLE b 52 4
    param := fieldLE b 56 8 }

/-- Byte `i` of the entry, 56 to 63, out of PARAM. -/
def Sub.pbyte (s : Sub) (i : Nat) : Nat := s.param / 256 ^ (i - 56) % 256

/-- Two PARAM bytes, little-endian. -/
def Sub.phalf (s : Sub) (i : Nat) : Nat := s.param / 256 ^ (i - 56) % 65536

/-- OPFLAGS[n]. -/
def Sub.opflag (s : Sub) (n : Nat) : Bool := bit s.flags (8 + n)

/-- The opcodes of the part (R47). -/
def opcodes : List Nat :=
  [0x0101, 0x0102, 0x0201, 0x0202, 0x0230, 0x0301, 0x0302, 0x0310, 0x0311, 0x0401, 0x0402, 0x0403, 0x0404,
   0x0501, 0x0502, 0x0503, 0x0504, 0x0601, 0x0602, 0x0603, 0x0604, 0x0701, 0x0702, 0x0703, 0x0704, 0x0705, 0x0710,
   0x0F20, 0x0F21, 0x0F22, 0x0F30, 0x0F31, 0x0F32, 0x0F40, 0x0F41, 0x0F42, 0x0F43, 0x0F50, 0x0F51, 0x0F52, 0x0F60,
   0x0F70, 0x0F71, 0x0F72, 0x0F80, 0x0F81, 0x0F82, 0x0F83]

/-- The opcodes that take a recipe (R125). -/
def takesRecipe (op : Nat) : Bool := [0x0101, 0x0102, 0x0201, 0x0202, 0x0230, 0x0401].contains op

/-- Whether a queue takes an opcode (R47, R92). -/
def queueTakes (q op : Nat) : Bool :=
  if op = 0x0230 then q == 0
  else if op / 256 = 0x0F then q == 3
  else q != 0

/-- Whether a job names a meter's record (R49, R141). -/
def Sub.namesMeter (s : Sub) : Bool :=
  [0x0101, 0x0102, 0x0201, 0x0202, 0x0230, 0x0401, 0x0402, 0x0403, 0x0501, 0x0502, 0x0504, 0x0601, 0x0602, 0x0603,
   0x0604, 0x0F21].contains s.opcode || (s.opcode == 0x0301 && s.pbyte 57 == 1)

/-- Whether the job uses REC_ADDR and PROOF_ADDR. -/
def Sub.usesRec (s : Sub) : Bool := s.namesMeter

/-- Whether the job uses IN_ADDR, OUT_ADDR. -/
def Sub.usesIn (s : Sub) : Bool :=
  [0x0101, 0x0102, 0x0201, 0x0202, 0x0230, 0x0301, 0x0302, 0x0310, 0x0311, 0x0401, 0x0501, 0x0601, 0x0602, 0x0603,
   0x0710, 0x0F30, 0x0F42, 0x0F70, 0x0F83].contains s.opcode || (s.opcode == 0x0504 && s.opflag 0)

def Sub.usesOut (s : Sub) : Bool :=
  [0x0101, 0x0102, 0x0201, 0x0202, 0x0230, 0x0310, 0x0311, 0x0401, 0x0601, 0x0602, 0x0603, 0x0604, 0x0701, 0x0702,
   0x0703, 0x0705, 0x0710, 0x0F20, 0x0F22, 0x0F31, 0x0F40, 0x0F41, 0x0F50, 0x0F51, 0x0F52, 0x0F60, 0x0F71,
   0x0F82].contains s.opcode || (s.opcode == 0x0F80 && s.pbyte 56 == 2)

/-- Whether the job names an account's address in PARAM (R229). -/
def Sub.usesAccount (s : Sub) : Bool := [0x0601, 0x0603, 0x0604].contains s.opcode

/-- The IN_LEN range of SIG_VERIFY (R197 check 1): the fixed part, and with MSGFORM 1 the digest after it. -/
def Sub.sigRange (s : Sub) : Nat × Nat :=
  if s.pbyte 56 = 1 ∨ s.pbyte 56 = 2 then
    let l := if s.pbyte 56 = 2 then 48 else 32
    let fixed := (if s.pbyte 57 = 0 then 2 * l + 16 else 0) + 2 * l
    if s.pbyte 59 = 1 then (fixed + l, fixed + l) else (fixed, 2 ^ 24)
  else (0, 2 ^ 24)

/-- The IN_LEN range of RSA_VERIFY (R198 check 1). -/
def Sub.rsaRange (s : Sub) : Nat × Nat :=
  if s.pbyte 56 = 1 ∨ s.pbyte 56 = 2 then
    let fixed := 16 + 2 * (if s.pbyte 56 = 2 then 384 else 256)
    let h := s.pbyte 58
    if s.pbyte 59 = 1 ∧ 1 ≤ h ∧ h ≤ 3 then
      let l := if h = 3 then 64 else if h = 2 then 48 else 32
      (fixed + l, fixed + l)
    else (fixed, 2 ^ 24)
  else (0, 2 ^ 24)

/-- The IN_LEN range of an opcode (R45): smallest and largest. -/
def Sub.inRange (s : Sub) : Nat × Nat :=
  match s.opcode with
  | 0x0301 => s.sigRange
  | 0x0302 => s.rsaRange
  | 0x0101 => (0, 65535)
  | 0x0102 => (0, 65535)
  | 0x0201 => (0, 65024 + if s.opflag 1 then 4096 else 0)
  | 0x0202 => (0, 65024 + if s.opflag 1 then 4096 else 0)
  | 0x0230 => (0, 65024 + if s.opflag 1 then 4096 else 0)
  | 0x0401 => (0, 65024 + if s.opflag 1 then 4096 else 0)
  | 0x0311 => (32, 32)
  | 0x0501 => (200, 200)
  | 0x0504 => (32, 32)
  | 0x0601 => (0, 16 * (48 + 65535))
  | 0x0602 => (16, 16)
  | 0x0603 => (16, 16)
  | 0x0710 => (0, 131184)
  | 0x0F30 => (0, 16544)
  | 0x0F42 => (0, 1152)
  | 0x0F70 => (0, 82948)
  | 0x0F83 => (0, 3168)
  | _ => (0, 2 ^ 24)

/-- The least OUT_LEN an opcode takes for its input (R45). -/
def Sub.outMin (s : Sub) : Nat :=
  match s.opcode with
  | 0x0101 => s.inLen + if s.opflag 2 then 48 else 0
  | 0x0102 => s.inLen
  | 0x0201 => s.inLen + 256
  | 0x0202 => s.inLen + 256
  | 0x0230 => s.inLen + 256
  | 0x0401 => s.inLen + 256
  | 0x0310 => if s.pbyte 56 = 2 then 384 else 256
  | 0x0311 => 256
  | 0x0601 => 17440
  | 0x0602 => 384
  | 0x0603 => 160
  | 0x0604 => 160
  | 0x0701 => 131184
  | 0x0702 => 96
  | 0x0703 => if s.pbyte 56 = 0 then 208 else if s.pbyte 56 = 0xFF then 96 else 65616
  | 0x0705 => 16488
  | 0x0F20 => 544
  | 0x0F22 => 65552
  | 0x0F31 => 4112
  | 0x0F40 => 32
  | 0x0F41 => 32
  | 0x0F50 => 262144
  | 0x0F51 => 262144
  | 0x0F52 => 64
  | 0x0F60 => 416
  | 0x0F71 => 528
  | 0x0F80 => 262144
  | 0x0F82 => 64
  | _ => 0

/-- The alignment check: the offset of the first misaligned address (R53, ALIGNMENT). -/
def Sub.misaligned (s : Sub) : Option Nat :=
  if s.usesRec && s.recAddr % 32 != 0 then some 16
  else if s.usesRec && s.proofAddr % 32 != 0 then some 24
  else if [0x0F50, 0x0F51].contains s.opcode && s.outAddr % 4096 != 0 then some 40
  else if s.opcode == 0x0F80 && s.pbyte 56 == 2 && s.outAddr % 4096 != 0 then some 40
  else if s.opcode == 0x0602 && s.outAddr % 32 != 0 then some 40
  else if s.usesAccount && s.param % 32 != 0 then some 56
  else none

/-- The extents of a job with the entry field each comes from (R37). -/
def Sub.extents (s : Sub) : List (Nat × Nat × Nat) :=
  (if s.usesRec then [(16, s.recAddr, 224), (24, s.proofAddr, 512)] else []) ++
  (if s.usesIn then [(32, s.inAddr, s.inLen)] else []) ++
  (if s.usesOut then [(40, s.outAddr, s.outLen)] else []) ++
  (if s.usesAccount then [(56, s.param, 224)] else [])

/-- The entry fields a job reads from host memory before it runs. -/
def Sub.readsNeeded (s : Sub) : List Nat :=
  (if s.usesRec then (if s.opcode = 0x0501 ∨ s.opcode = 0x0F21 then [24] else [16, 24]) else []) ++
  (if s.usesIn && s.inLen != 0 then [32] else []) ++ (if s.usesAccount then [56] else [])

/-- The loaded image a job claimed with this SERIAL is bound to (R125). -/
def ImageArea.find (a : ImageArea) (id serial : Nat) : Option Image :=
  (a.loaded ++ a.draining).find? fun i =>
    i.id == id && i.since < serial && (match i.till with
      | none => true
      | some t => serial ≤ t)

/-- The held slots in slot order. -/
def heldSlots (l : List (Option CommitSlot)) : List (Nat × CommitSlot) :=
  l.zipIdx.filterMap fun p => p.1.map fun s => (p.2, s)

/-- The account slot that belongs to a record slot (R230). -/
def accountSlot (l : List (Option CommitSlot)) (x : CommitSlot) : Option (Nat × CommitSlot) :=
  (heldSlots l).find? fun p => p.2.account && p.2.meter == x.meter && p.2.epoch == x.epoch && p.2.jidx == x.jidx

/-- Whether COMMIT_RECOVER names the record slot of a job that changed an account: it then uses its OUT area (R230). -/
def recoversAccount (c : Channel) (s : Sub) : Bool :=
  s.opcode == 0x0F21 && (match c.shard.slots.getD (s.pbyte 56 % 16) none with
    | some x => x.meter == s.meter && !x.account && (accountSlot c.shard.slots x).isSome
    | none => false)

/-- The extents of a job, OUT included where COMMIT_RECOVER uses it. -/
def Channel.extents (c : Channel) (s : Sub) : List (Nat × Nat × Nat) :=
  s.extents ++ if recoversAccount c s then [(40, s.outAddr, s.outLen)] else []

/-- The checks of R45 after the sequence number, in order, with the recipe look-up of R125 and the advisory look at the budget
(R103). -/
def claimCheck (c : Channel) (tick q serial : Nat) (s : Sub) : Option Fail :=
  if !opcodes.contains s.opcode then some ⟨0x0100, 0, 0⟩
  else if !queueTakes q s.opcode then some ⟨0x0101, q, 0⟩
  else if c.state = .tampered then some ⟨0x0A05, 0, 0⟩
  else if c.state = .recovery && s.opcode / 256 != 0x0F then some ⟨0x0A01, 0, 0⟩
  else if bits s.flags 7 3 ≠ 0 then some ⟨0x0102, 2, 0⟩
  else match s.misaligned.or (if recoversAccount c s && s.outAddr % 32 != 0 then some 40 else none) with
    | some off => some ⟨0x0104, off, 0⟩
    | none =>
      if s.usesIn && (s.inLen < s.inRange.1 || s.inRange.2 < s.inLen) then some ⟨0x0105, 48, 0⟩
      else if s.usesOut && (s.outLen < s.outMin || 2 ^ 24 < s.outLen) then some ⟨0x0105, 52, s.outMin⟩
      else if recoversAccount c s && (s.outLen < 224 || 2 ^ 24 < s.outLen) then some ⟨0x0105, 52, 224⟩
      else match badExtent c.host.win (c.extents s) with
        | some off => some ⟨0x0103, off, 0⟩
        | none =>
          if takesRecipe s.opcode && (c.recipes.find s.recipe serial).isNone then some ⟨0x0108, 0, 0⟩
          else if s.opcode = 0x0230 && c.gov.baseFree tick == 0 && !c.gov.tokenActive tick then some ⟨0x0400, 0, 0⟩
          else none

/-- Jobs in flight (R52). -/
def inflight (c : Channel) : Nat := c.jr.entries.length

/-- Whether a credit is free for a queue: 64 of the 4,096 are reserved for SQ0 (R52). -/
def creditFree (c : Channel) (q : Nat) : Bool :=
  inflight c < 4096 && (q == 0 || (c.jr.entries.filter fun e => e.queue != 0).length < 4032)

/-- The states in which a channel claims (R33); a sleeping channel wakes first. -/
def claimsIn (st : ChState) : Bool := st == .ready || st == .recovery || st == .tampered

/-- The entry at the head of a queue, if one is unclaimed: the inline copy while it is held, else the slot as read. -/
def headEntry (p : RingPair) (slot : Option Bytes) : Option (Bytes × Bool) :=
  if p.en && p.unclaimed != 0 then
    match p.inline.find? (fun e => e.1 == p.sqHead) with
    | some e => some (e.2, true)
    | none => slot.map fun b => (b, false)
  else none

/-- Whether the head of a queue may be claimed now: credit, and no earlier job of the queue under FENCE (R44, R52). -/
def claimable (c : Channel) (q : Fin 4) (slot : Option Bytes) : Bool :=
  match headEntry (c.pairOf q) slot with
  | none => false
  | some (b, _) =>
    creditFree c q.val &&
    (!(bit (Sub.ofBytes b).flags 1) || c.jr.entries.all fun e => e.queue != q.val)

/-- A weight of CH_ARB; 0 acts as 1 (R48). -/
def weight (w : Nat) : Nat := if w = 0 then 1 else w

/-- The queue R48 serves next, with what is then left of the round for SQ1 to SQ3. -/
def arbitrate (h : Slice) (a0 a1 a2 a3 : Bool) : Option (Fin 4 × Nat × Nat × Nat) :=
  if a0 then some (0, h.left1, h.left2, h.left3)
  else if a1 && h.left1 != 0 then some (1, h.left1 - 1, h.left2, h.left3)
  else if a2 && h.left2 != 0 then some (2, 0, h.left2 - 1, h.left3)
  else if a3 && h.left3 != 0 then some (3, 0, 0, h.left3 - 1)
  else if a1 then some (1, weight h.w1 - 1, weight h.w2, weight h.w3)
  else if a2 then some (2, 0, weight h.w2 - 1, weight h.w3)
  else if a3 then some (3, 0, 0, weight h.w3 - 1)
  else none

/-- The first FREE journal index at or after the cursor (R60). -/
def freeIndex (es : List JEntry) : Nat → Nat → Nat
  | 0, i => i % 4096
  | fuel + 1, i => if es.any (fun e => e.jidx == i % 4096) then freeIndex es fuel (i + 1) else i % 4096

/-- The journal entry of an index. -/
def Channel.entry (c : Channel) (jidx : Nat) : Option JEntry := c.jr.entries.find? fun e => e.jidx == jidx

/-- One journal entry changed. -/
def onEntry (jidx : Nat) (f : JEntry → JEntry) (c : Channel) : Channel :=
  { c with jr := { c.jr with entries := c.jr.entries.map fun e => if e.jidx = jidx then f e else e } }

/-- The completion image of a job that ends with a status and commits no root (R46). -/
def cplOf (c : Channel) (status detail result outBytes : Nat) : Cpl :=
  { status := status, detail := detail, result := result, outBytes := outBytes, epochLo := epochLoNow c }

/-- A job that ends without side effects and without output: its entry is WRITTEN. -/
def failJob (jidx : Nat) (f : Fail) (c : Channel) : Channel :=
  onEntry jidx (fun e => { e with state := .written, cpl := cplOf c f.status f.detail f.result 0, ready := none, writes := [], sentUpTo := 0, acked := 0 }) c

/-- A job that ends with output and without side effects: its writes wait to be transmitted, and the entry is WRITTEN
once they count as sent (R62, R64). -/
def finishJob (jidx status detail result outBytes : Nat) (writes : List HostWrite) (c : Channel) : Channel :=
  onEntry jidx (fun e => { e with
    state := if writes.isEmpty then .written else .claimed
    cpl := cplOf c status detail result outBytes, ready := none
    writes := writes, sentUpTo := 0, acked := 0 }) c

/-- A job whose effects are staged and wait for JOB_COMMIT. -/
def stageJob (jidx : Nat) (e : Effect) (c : Channel) : Channel :=
  onEntry jidx (fun en => { en with ready := some e }) c

/-- One output write at OUT_ADDR, when there is output. -/
def outWrite (jidx : Nat) (s : Sub) (out : Bytes) : List HostWrite :=
  if out.isEmpty then [] else [⟨.output, jidx, s.outAddr, out⟩]

/-- Claims the entry at the head of a queue (R44, R45, R50, R52, R60). -/
def claimEntry (tick : Nat) (q : Fin 4) (b : Bytes) (inl : Bool) (c : Channel) : Channel :=
  let p := c.pairOf q
  let s := Sub.ofBytes b
  let serial := (c.jr.serial + 1) % 2 ^ 64
  let d := (s.seq + 65536 - p.seqLast) % 65536
  let accepted := !p.seqValid || (1 ≤ d && d ≤ 32768)
  let c := onPairC q (fun p => { p with
    sqHead := (p.sqHead + 1) % p.sqSize
    inline := p.inline.filter fun e => e.1 != p.sqHead
    seqLast := if accepted then s.seq else p.seqLast
    seqValid := p.seqValid || accepted }) c
  let jidx := freeIndex c.jr.entries 4096 c.jr.cursor
  let e : JEntry := { jidx := jidx, sub := s, queue := q.val, inline := inl, serial := serial }
  let c := { c with jr := { c.jr with entries := c.jr.entries ++ [e], cursor := (jidx + 1) % 4096, serial := serial } }
  let c := if inflight c = 4096 then raiseSource 11 c else c
  if !accepted then failJob jidx ⟨0x0106, d, 0⟩ c
  else match claimCheck c tick q.val serial s with
    | some f => failJob jidx f c
    | none => c

/-- Entries can be claimed: the hearth is up (R18) and the function is not in D3hot (R546). -/
def canClaim (d : Device) (c : Channel) : Bool := d.hearthUp && !c.host.d3hot

/-- JOB_CLAIM: the operands are what a read of each queue's head slot returns. -/
def claimStep (h0 h1 h2 h3 : Option Bytes) (d : Device) (c : Channel) : Channel :=
  if c.host.en && claimsIn c.state && canClaim d c then
    match arbitrate c.host (claimable c 0 h0) (claimable c 1 h1) (claimable c 2 h2) (claimable c 3 h3) with
    | none => c
    | some (q, l1, l2, l3) =>
      let c := { c with host := { c.host with left1 := l1, left2 := l2, left3 := l3 } }
      let slot := if q.val = 0 then h0 else if q.val = 1 then h1 else if q.val = 2 then h2 else h3
      match headEntry (c.pairOf q) slot with
      | some (b, inl) => claimEntry d.tick q (padTo 64 b) inl (kicked d c)
      | none => c
  else c

/-- JOB_CLAIM. -/
def execJobClaim (ch : Ch) (h0 h1 h2 h3 : Option Bytes) (s : State) : Host.Outcome State Fault Refusal :=
  .next (onChan ch (fun _ d c => claimStep h0 h1 h2 h3 d c) s)

/-- The account is read only after every job of the meter claimed before has sent its writes (R229). -/
def accountWaits (c : Channel) (e : JEntry) : Bool :=
  c.jr.entries.any fun o =>
    o.serial < e.serial && o.sub.namesMeter && o.sub.meter == e.sub.meter &&
    (o.state == .claimed || o.state == .committing || o.acked < o.writes.length)

/-- After a function-level reset a job with data to move waits until a locked window contains its extents (R71). -/
def recheckHolds (c : Channel) (e : JEntry) : Bool := e.recheck && (badExtent c.host.win (c.extents e.sub)).isSome

/-- A read of a claimed job's host data returns, or fails, which logs an advisory non-fatal error (R29). -/
def dmaStep (jidx field : Nat) (data : Option Bytes) (c : Channel) : Channel :=
  match c.entry jidx with
  | none => c
  | some e =>
    if e.state = .claimed ∧ e.writes.isEmpty ∧ e.ready.isNone ∧ ¬ recheckHolds c e ∧ e.sub.readsNeeded.contains field ∧
        ¬ (field = 56 ∧ accountWaits c e) then
      match data with
      | none => failJob jidx ⟨0x0109, field, 0⟩ { c with host := { c.host with advisory := true } }
      | some b => raiseCause 2 (onEntry jidx (fun e => { e with reads := e.reads.filter (fun r => r.1 != field) ++ [(field, b)] }) c)
    else c

/-- DMA_READ_DONE. -/
def execDmaReadDone (ch : Ch) (jidx field : Nat) (data : Option Bytes) (s : State) :
    Host.Outcome State Fault Refusal :=
  .next (onChan ch (fun _ _ c => dmaStep jidx field data c) s)

/-- The bytes a job read at an entry field, at their length. -/
def JEntry.data (e : JEntry) (field len : Nat) : Bytes :=
  match e.reads.find? (fun r => r.1 == field) with
  | some r => padTo len r.2
  | none => zeros len

/-- An earlier job of the same meter that has not yet had its effect (R49); for a claim made since a reset, a job of the meter that
is still to be replayed (R72). -/
def meterBusy (c : Channel) (e : JEntry) : Bool :=
  e.sub.namesMeter && c.jr.entries.any fun o =>
    o.serial < e.serial && o.sub.namesMeter && o.sub.meter == e.sub.meter &&
    (o.state == .claimed || o.state == .committing || (o.replayed && !e.replayed && !o.posted))

/-- Whether a claimed job may run now: its opcode, its reads in, not yet run, no earlier job of its meter unfinished,
the channel up. -/
def jobReady (c : Channel) (e : JEntry) (op : Nat) : Bool :=
  e.state == .claimed && e.sub.opcode == op && e.writes.isEmpty && e.ready.isNone && !recheckHolds c e &&
  e.sub.readsNeeded.all (fun f => e.reads.any fun r => r.1 == f) && !meterBusy c e &&
  (c.state == .ready || c.state == .recovery)

/-- Runs a job's meaning when the job may run; otherwise it waits and nothing changes. -/
def runJob (op jidx : Nat) (f : JEntry → Channel → Channel) (c : Channel) : Channel :=
  match c.entry jidx with
  | some e => if jobReady c e op then f e c else c
  | none => c

/-- A traffic batch may be pushed: no logic BIST notice runs, and a batch slot is free (R191). -/
def engineOpen (c : Channel) : Bool := !c.notice && decide (c.pke.held < 4)

/-- Whether an entry's operations go into the next batch: those of SQ0 go ahead of every other, and otherwise those that have waited
longest (R191). -/
def engineTurn (c : Channel) (e : JEntry) : Bool :=
  let ahead := (c.pke.pending.takeWhile (· != e.jidx)).filterMap fun j => (c.entry j).filter (·.state == .claimed)
  let behind := (c.pke.pending.dropWhile (· != e.jidx)).filterMap fun j => (c.entry j).filter (·.state == .claimed)
  engineOpen c && if e.queue = 0 then ahead.all (·.queue != 0) else ahead.isEmpty && behind.all (·.queue != 0)

/-- Runs a job with operations for the public-key engine: as a batch of its own when its turn has come; else the job waits in
firmware's pending list. DESIGN CHOICE: its checks wait with it (log 154). -/
def onEngine (uses : Bool) (f : JEntry → Channel → Channel) (e : JEntry) (c : Channel) : Channel :=
  if !uses then f e c
  else if engineTurn c e then f e { c with pke := { c.pke with pending := c.pke.pending.filter (· != e.jidx) } }
  else { c with pke := { c.pke with pending := if c.pke.pending.contains e.jidx then c.pke.pending else c.pke.pending ++ [e.jidx] } }

/-- Whether a waiter for a cipher context stands before an entry: claim order, with SQ0 jobs at the head (R225). -/
def waitsBefore (e o : JEntry) : Bool :=
  o.state == .claimed && ((o.queue == 0 && e.queue != 0) || ((o.queue == 0) == (e.queue == 0) && decide (o.serial < e.serial)))

/-- Runs a traffic job, which holds one cipher context from its first cipher command to its last; a job that finds none free waits in
firmware's list, and CE_ALLOC has set WAITING (R204, R206, R225). -/
def onContext (f : JEntry → Channel → Channel) (e : JEntry) (c : Channel) : Channel :=
  let free := c.ce.cxs.toList.any fun x => x.st == .free
  let others := c.ce.waiters.filter (· != e.jidx)
  if free && (others.filterMap c.entry).all fun o => !waitsBefore e o then f e { c with ce := { c.ce with waiters := others } }
  else { c with ce := { c.ce with
    waiters := if c.ce.waiters.contains e.jidx then c.ce.waiters else c.ce.waiters ++ [e.jidx], waiting := c.ce.waiting || !free } }

/-- Free commit slots, lowest first (R67). -/
def freeSlots (l : List (Option CommitSlot)) : List Nat :=
  (List.range 16).filter fun i => (l.getD i none).isNone

/-- Units of 64 bytes a job's staged writes take (R64). -/
def stageUnits (ws : List HostWrite) : Nat := ceilDiv (stageBytes ws).length 64

/-- A job has written a new tree image and not yet committed its address (R168). -/
def JEntry.movesTree (e : JEntry) : Bool :=
  e.state == .claimed && (e.ready.bind (·.act)).any fun a => match a with
    | .moveTree _ => true
    | _ => false

/-- A tree image is still on its way to the host, or is written and not yet in force: no other commit passes it (R168). -/
def imagePending (c : Channel) (jidx : Nat) : Bool := c.jr.entries.any fun e =>
  (e.sentUpTo == 0 && e.writes.any fun w => w.kind == .image) || (e.jidx != jidx && e.movesTree)

/-- Whether `n` units from `off` are free in the result stage. -/
def stageFree (es : List JEntry) (off n : Nat) : Bool :=
  off + n ≤ 4096 && es.all fun e =>
    e.stageLen == 0 || off + n ≤ e.stageOff || e.stageOff + ceilDiv e.stageLen 64 ≤ off

/-- The lowest offset at which `n` units are free. -/
def stageFind (es : List JEntry) (n : Nat) : Option Nat :=
  (0 :: es.map fun e => e.stageOff + ceilDiv e.stageLen 64).filter (fun o => stageFree es o n) |>.min?

/-- Whether note items are being kept (R375). -/
def notesKept (c : Channel) : Bool := c.pair.role == .active && c.pair.peer.isSome && !c.pair.syncLost

/-- The items the commit of an effect appends: its LEAF item, then the others it names. -/
def effectItems (e : Effect) (epoch : Nat) : List NoteItem :=
  (match e.leaf with
   | some l => [NoteItem.leaf l.meter epoch (l.bndNew.take 16) l.leaf]
   | none => []) ++ e.items

/-- Inbound work waits while the oldest unacknowledged LEAF item is too old (R389). -/
def ackLagHolds (d : Device) (c : Channel) : Bool :=
  c.pair.ackLag != 0 && c.pair.role == .active && !c.gov.soloNow d.tick &&
  (c.pair.unacked ++ c.pair.buffer).any fun i => match i.1 with
    | .leaf _ _ _ _ => 10 * c.pair.ackLag < d.tick - i.2
    | _ => false

/-- A job that advances an inbound high-water (R389). -/
def advancesIn (op : Nat) : Bool := op == 0x0101 || op == 0x0102

/-- Whether an effect was computed from the battery state that stands, slots, LAST_TXN and the 90 % mark aside. -/
def sameBasis (e : Effect) (c : Channel) : Bool :=
  { e.basisShard with slots := [], lastTxn := (0, 0) } == { c.shard with slots := [], lastTxn := (0, 0) } &&
  { e.basisGov with above90 := false } == { c.gov with above90 := false } &&
  (e.ded.isNone || e.basisDed == c.ded) && e.basisPair.basis == c.pair.basis

/-- JOB_COMMIT: steps 1 and 2 of R65, when nothing makes the job wait; an effect computed from a battery state that is
no longer current is dropped, and the job runs again. -/
def commitStep (jidx : Nat) (d : Device) (c : Channel) : Channel :=
  match c.entry jidx with
  | none => c
  | some en =>
    match en.ready with
    | none => c
    | some e =>
      if en.state ≠ .claimed ∨ ¬ en.writes.isEmpty then c
      else if ¬ sameBasis e c then onEntry jidx (fun x => { x with ready := none }) c
      else
        let epoch := if e.leaf.isSome then (c.shard.epoch + 1) % 2 ^ 64 else actEpoch c.shard.epoch e.act
        let need := match e.leaf with
          | none => 0
          | some l => if l.account.isSome then 2 else 1
        let slots := (freeSlots c.shard.slots).take need
        let room := c.pair.buffer.length + (effectItems e epoch).length ≤ 2048
        let units := stageUnits e.writes
        match stageFind c.jr.entries units with
        | none => c
        | some off =>
          if c.jr.entries.any (fun x => x.state == .committing) ∨ imagePending c jidx ∨ slots.length < need ∨ (notesKept c ∧ ¬ room) ∨
              (advancesIn en.sub.opcode ∧ ackLagHolds d c) then c
          else
            let c := onEntry jidx (fun x => { x with
              state := .committing
              epoch := epoch
              slotIx := slots[0]?
              slotIx2 := slots[1]?
              stageOff := if units = 0 then 0 else off
              stageLen := (stageBytes e.writes).length
              writes := e.writes, sentUpTo := 0, acked := 0
              leafNew := (e.leaf.map (·.leaf)).getD []
              bndOld := (e.leaf.map (·.bndOld)).getD []
              bndNew := (e.leaf.map (·.bndNew)).getD []
              wrapIv := (e.leaf.map (·.wrapIv)).getD 0 }) c
            match e.leaf with
            | some l => { c with tree := treeSet c.tree (groupOf l.meter) (l.bndNew.take 16) }
            | none => c

/-- JOB_COMMIT. -/
def execJobCommit (ch : Ch) (jidx : Nat) (s : State) : Host.Outcome State Fault Refusal :=
  .next (onChan ch (fun _ d c => commitStep jidx d c) s)

/-- The slots of a commit written into the battery domain (R67, R153, R230). -/
def fillSlots (en : JEntry) (l : LeafChange) (epoch : Nat) (slots : List (Option CommitSlot)) :
    List (Option CommitSlot) :=
  let mk (rec : Bytes) (acc : Bool) : CommitSlot :=
    { meter := l.meter, epoch := epoch, queue := en.queue, seq := en.sub.seq, hostTag := en.sub.hostTag
      jidx := en.jidx, record := rec, account := acc, bnd := l.bndNew.take 16, group := groupOf l.meter }
  let slots := match en.slotIx with
    | some i => slots.set i (some (mk l.wrapped false))
    | none => slots
  match en.slotIx2, l.account with
  | some i, some a => slots.set i (some (mk a true))
  | _, _ => slots

/-- Step 3 of R65 refused for want of disconnect units (R103, R243): the tree path goes back; a settlement job is
built again without its units, any other job ends with BUDGET_EXCEEDED. -/
def refuseUnits (en : JEntry) (e : Effect) (c : Channel) : Channel :=
  let c := match e.leaf with
    | some l => { c with tree := treeSet c.tree (groupOf l.meter) (l.bndOld.take 16) }
    | none => c
  if en.sub.opcode = 0x0601 then
    onEntry en.jidx (fun x => { x with state := .claimed, ready := none, refused := true, writes := [], slotIx := none, slotIx2 := none, stageLen := 0, epoch := 0 }) c
  else
    let c := onEntry en.jidx (fun x => { x with slotIx := none, slotIx2 := none, stageLen := 0, epoch := 0 }) c
    failJob en.jidx ⟨0x0400, 0, 0⟩ c

/-- The rest of R65 once the transaction is granted: battery state, key cache, note items, crumb and sources. EPOCH_VALID is set
exactly when the root changed (R46), and the 90 % mark is looked at when the governor changed (R104). -/
def applyEffect (ch : Ch) (d : Device) (en : JEntry) (e : Effect) (gov : Governor) (c : Channel) : Channel :=
  let before := c.gov
  let sh := match e.leaf with
    | some l => { e.shard with epoch := en.epoch, root := treeRoot c.tree, slots := fillSlots en l en.epoch c.shard.slots }
    | none => { e.shard with slots := c.shard.slots }
  let kept := notesKept c
  let items := effectItems e en.epoch
  let old := c.shard.root
  let c := { c with shard := sh, gov := gov }
  let c := match e.act with
    | some a => applyAct ch d a c
    | none => c
  let c := { c with shard := { c.shard with lastTxn := (d.bootCount, en.serial) } }
  let c := match e.ded with
    | some l => { c with ded := l }
    | none => c
  let c := match e.leaf with
    | some l => match l.record with
      | some r => cachePut d r (bit en.sub.flags 2) c
      | none => cacheDrop l.meter c
    | none => c
  let moved := e.leaf.isSome || c.shard.root != old
  let c := if moved then { c with backups := { c.backups with rootTick := d.tick } } else c
  let c := if kept then { c with pair := { c.pair with buffer := c.pair.buffer ++ items.map fun i => (i, d.tick) } } else c
  let cpl := if moved then { e.cpl with epochLo := en.epoch % 2 ^ 32, epochValid := true }
    else { e.cpl with epochLo := epochLoNow c }
  let c := onEntry en.jidx (fun x => { x with
    state := if e.writes.isEmpty then .written else .committed
    staged := true, note := kept && e.leaf.isSome, cpl := cpl, ready := none }) c
  let c := match e.crumb with
    | some (code, p0, p1, p2) => fileCrumb ch d code p0 p1 p2 0 c
    | none => c
  let c := if e.rollRaised then raiseSource 12 c else c
  let c := if e.headroomLow then raiseSource 13 c else c
  if c.gov = before then c else checkNinety ch d c

/-- BATTERY_TRANSACTION_DONE: steps 3 to 5 of R65 for the entry in COMMITTING. -/
def transactionStep (ch : Ch) (d : Device) (c : Channel) : Channel :=
  match c.jr.entries.find? (fun x => x.state == .committing) with
  | none => c
  | some en =>
    match en.ready with
    | none => c
    | some e =>
      let c := raiseCause 16 c
      match e.gov.take d.tick e.units with
      | none => refuseUnits en e c
      | some g =>
        let tok := en.sub.opcode == 0x0230 && 0 < e.gov.tokenPart d.tick e.units
        let e := if tok then { e with cpl := { e.cpl with result := setBit e.cpl.result 34 true } } else e
        followShard ch d c.shard (applyEffect ch d en e g c)

/-- BATTERY_TRANSACTION_DONE: the battery domain is reached over the link (R8). -/
def execBatteryTransactionDone (ch : Ch) (s : State) : Host.Outcome State Fault Refusal :=
  .next (if s.pw.link then onChan ch (fun ch d c => transactionStep ch d c) s else s)

/-- Writes that must count as sent before the job's slots are released: all but the output (R66, R67, R230). -/
def beforeOutput (ws : List HostWrite) : List HostWrite := ws.filter fun w => w.kind != .output

/-- Writes to the tree image leave in epoch order: a commit of an earlier epoch has not sent its own yet (R151). -/
def treeBehind (c : Channel) (e : JEntry) (now : List HostWrite) : Bool :=
  (now.any fun w => w.kind == .treeNode) && c.jr.entries.any fun o =>
    o.state == .committed && o.epoch < e.epoch && (o.writes.drop o.sentUpTo).any fun w => w.kind == .treeNode

/-- Whether a posted write carries the Relaxed Ordering attribute, where Device Control enables it: data writes do, writes to the
tree image and completion entries do not (R28, R43, R151). -/
def HostWrite.relaxed (enabled : Bool) (w : HostWrite) : Bool :=
  enabled && [.record, .proof, .account, .output].contains w.kind

/-- STAGED_WRITES_SEND: a committed job's record, proof and tree-node writes, then, once they count as sent, the output
(R66); a job without side effects sends its output at once (R64). -/
def sendStep (jidx : Nat) (d : Device) (c : Channel) : Channel :=
  match c.entry jidx with
  | none => c
  | some e =>
    if ¬ (e.state = .committed ∨ e.state = .claimed) ∨ e.writes.isEmpty ∨ recheckHolds c e ∨ ¬ canTransmit d c then c
    else
      let first := (beforeOutput e.writes).length
      let upTo := if e.acked < first then first else e.writes.length
      let now := (e.writes.take upTo).drop e.sentUpTo
      if treeBehind c e now then c
      else
      let c := onEntry jidx (fun e => { e with sentUpTo := max e.sentUpTo upTo }) c
      { c with host := { c.host with sent := c.host.sent ++ now } }

/-- STAGED_WRITES_SEND. -/
def execStagedWritesSend (ch : Ch) (jidx : Nat) (s : State) : Host.Outcome State Fault Refusal :=
  .next (onChan ch (fun _ d c => sendStep jidx d c) s)

/-- The commit slots of an entry released (R67). -/
def releaseSlots (e : JEntry) (c : Channel) : Channel :=
  let drop (i : Option Nat) (l : List (Option CommitSlot)) := match i with
    | some i => l.set i none
    | none => l
  { c with shard := { c.shard with slots := drop e.slotIx2 (drop e.slotIx c.shard.slots) } }

/-- What the acknowledgement of one write of a job does (R62, R63, R67); a job whose tree image is written goes on to its commit
(R168). -/
def ackJob (w : HostWrite) (c : Channel) : Channel :=
  match c.entry w.jidx with
  | none => c
  | some e =>
    if w.kind = .completion then
      { c with jr := { c.jr with entries := c.jr.entries.filter fun x => x.jidx != w.jidx } }
    else
      let acked := e.acked + 1
      let first := (beforeOutput e.writes).length
      let free := e.state = .committed ∧ acked = first ∧ 0 < first
      let c := if free then releaseSlots e c else c
      let done := acked = e.writes.length
      let before := e.state = .claimed ∧ e.ready.isSome
      let recover := e.sub.opcode = 0x0F21 ∧ done ∧ e.cpl.result = 1
      let c := if recover then releaseSlots e c else c
      onEntry w.jidx (fun x => { x with
        acked := if before ∧ done then 0 else acked
        sentUpTo := if before ∧ done then 0 else x.sentUpTo
        writes := if before ∧ done then [] else x.writes
        slotIx := if free ∨ recover then none else x.slotIx
        slotIx2 := if free ∨ recover then none else x.slotIx2
        stageLen := if done then 0 else x.stageLen
        staged := if done then false else x.staged
        state := if done ∧ ¬ before then .written else x.state }) c

/-- The oldest unacknowledged write of a channel function is acknowledged. -/
def ackStep (c : Channel) : Channel :=
  match c.host.sent with
  | [] => c
  | w :: ws =>
    let c := { c with host := { c.host with sent := ws } }
    if w.kind = .msix then c else ackJob w c

/-- WRITE_ACKNOWLEDGED: the link partner acknowledges the oldest outstanding write of a function (R63); while the hearth's shared
logic is down no write counts as sent (R67). -/
def execWriteAcknowledged (fn : Fin 17) (s : State) : Host.Outcome State Fault Refusal :=
  if !s.dev.hearthUp then .next s
  else if h : fn.val = 0 then
    let response := s.fn0.sent.head?.any fun w => w.kind == .response
    .next { (if response then raiseMg 2 s else s) with fn0 := { s.fn0 with sent := s.fn0.sent.drop 1 } }
  else .next (onChan ⟨fn.val - 1, by omega⟩ (fun _ _ c => ackStep c) s)

/-- The 32 bytes of a completion entry (R45 table). -/
def cplBytes (e : JEntry) (sqHead : Nat) (phase : Bool) : Bytes :=
  leBytes 4 e.sub.hostTag ++ leBytes 4 e.cpl.outBytes ++ leBytes 2 e.sub.seq ++ leBytes 2 e.cpl.status ++
  leBytes 2 sqHead ++ leBytes 2 e.cpl.detail ++ leBytes 8 e.cpl.result ++ leBytes 4 e.cpl.epochLo ++
  leBytes 2 e.jidx ++ [0, byte (b2n phase + 2 * b2n e.replayed + 4 * b2n e.cpl.epochValid)]

/-- A job waits for the earlier replayed jobs of its meter, whether it is one of them or a new claim (R72). -/
def replayBehind (c : Channel) (e : JEntry) : Bool :=
  e.sub.namesMeter && c.jr.entries.any fun o =>
    o.replayed && o.serial < e.serial && o.sub.namesMeter && o.sub.meter == e.sub.meter && !o.posted

/-- The interrupt side of a posted completion (R55). -/
def countCompletion (q : Fin 4) (e : JEntry) (h : Slice) : Slice :=
  if bit e.sub.flags 0 && !e.replayed then h
  else
    let p := h.pairs.get q
    let h := onPair q (fun p => { p with counted := p.counted + 1 }) h
    if p.irqEn && (p.coCount == 0 || p.coCount ≤ p.counted + 1) then fireCq q h else h

/-- COMPLETION_POST: writes the completion of a WRITTEN entry, or waits for CQ space (R42, R43, R72). -/
def postStep (jidx : Nat) (d : Device) (c : Channel) : Channel :=
  match c.entry jidx with
  | none => c
  | some e =>
    let q := pairIx e.queue
    let p := c.pairOf q
    if e.state ≠ .written ∨ e.posted ∨ ¬ p.en ∨ ¬ canTransmit d c ∨ replayBehind c e then c
    else if p.cqFull then
      if p.fullRaised then c else raiseSource (4 + q.val) (onPairC q (fun p => { p with fullRaised := true }) c)
    else
      let b := cplBytes e p.sqHead p.phase
      let wrapped := decide (p.cqTail + 1 = p.cqSize)
      let w : HostWrite := ⟨.completion, jidx, (p.cqBase.value.toNat + 32 * p.cqTail) % 2 ^ 64, b⟩
      let c := onEntry jidx (fun e => { e with posted := true }) c
      let h := onPair q (fun p => { p with
        cqTail := (p.cqTail + 1) % p.cqSize
        phase := if wrapped then !p.phase else p.phase
        fullRaised := false }) c.host
      let h := { h with sent := h.sent ++ [w] }
      kicked d { c with host := countCompletion q e h }

/-- COMPLETION_POST. -/
def execCompletionPost (ch : Ch) (jidx : Nat) (s : State) : Host.Outcome State Fault Refusal :=
  .next (onChan ch (fun _ d c => postStep jidx d c) s)

end Sys2Proof.Machine
end

