-- ==== Sys2Proof/Machine/CipherEngine.lean ====
section
/-! DEFINITION. The cipher engine: contexts, commands, key classes, counters, outcomes (R202 to R226). -/

namespace Sys2Proof.Machine

/-- A context. -/
def Cipher.cx (e : Cipher) (n : Fin 8) : Cx := e.cxs.get n

/-- One context of a channel changed. -/
def onCx (n : Fin 8) (f : Cx → Cx) (c : Channel) : Channel :=
  { c with ce := { c.ce with cxs := c.ce.cxs.set n.val (f (c.ce.cxs.get n)) n.isLt } }

/-- Fields of CX_CFG. -/
def Cx.mode (x : Cx) : Nat := bits x.cfg 2 0

def Cx.dec (x : Cx) : Bool := bit x.cfg 3

def Cx.klen (x : Cx) : Nat := bits x.cfg 5 4

def Cx.pad (x : Cx) : Nat := bits x.cfg 7 6

def Cx.ivsrc (x : Cx) : Nat := bits x.cfg 9 8

def Cx.tagLen (x : Cx) : Nat := if bit x.cfg 10 then 16 else 12

def Cx.checkHw (x : Cx) : Bool := bit x.cfg 11

def Cx.ctrw (x : Cx) : Nat := bits x.cfg 13 12

def Cx.kclass (x : Cx) : Nat := bits x.cfg 15 14

/-- Key bytes of a KLEN. -/
def klenBytes (k : Nat) : Nat := 16 + 8 * k

/-- A context is HELD, KEYED or OPEN. -/
def Cx.heldNow (x : Cx) : Bool := x.st == .held || x.st == .keyed || x.st == .opened

/-- What R205's clear of a release zeroes; the window's settings stay. -/
def Cx.zeroed (x : Cx) : Cx :=
  { cfg := x.cfg, len := x.len, src := x.src, dst := x.dst, aux := x.aux, fix := x.fix, iv := x.iv, inCtr := x.inCtr }

/-- The key replaced or gone (R208, R212, R215): what the load held is zeroed, the commands behind it still run in order, and the
outcome and the marks of refused writes stand. -/
def Cx.unkeyed (x : Cx) : Cx :=
  { x.zeroed with st := .held, fifo := x.fifo, refused := x.refused, writeRefused := x.writeRefused, outcome := x.outcome, limit := x.limit }

/-- The outcome of a command; the first one stands until START, KEYLOAD or release (R221). -/
def Cx.outcomeOf (n : Nat) (x : Cx) : Cx := { x with outcome := if x.outcome = 0 then n else x.outcome }

/-- A message ends with an outcome; the context goes back to KEYED. -/
def Cx.ended (n : Nat) (x : Cx) : Cx := { x.outcomeOf n with msg := {}, st := if x.st = .opened then .keyed else x.st }

/-- Zeroes extents (R219). -/
def zeroExtents (l : List (Nat × Nat)) (c : Channel) : Channel :=
  l.foldl (fun c e => c.store e.1 (zeros e.2)) c

/-- A failed check: what the message wrote is zeroed first (R219). -/
def failedCheck (n : Fin 8) (outcome : Nat) (c : Channel) : Channel :=
  onCx n (Cx.ended outcome) (zeroExtents (c.ce.cx n).msg.written c)

/-- A datapath miscompare or disagreeing comparators (R220). -/
def cipherFault (ch : Ch) (d : Device) (n : Fin 8) (c : Channel) : Channel :=
  let c := zeroExtents (c.ce.cx n).msg.written c
  let c := { c with ce := { c.ce with
    halted := true
    errcnt := sat16 (c.ce.errcnt + 1)
    irq := c.ce.irq ||| 0x200
    cxs := (c.ce.cxs.map fun x => { x.zeroed with st := .clearing }).set n.val
      { (c.ce.cx n).zeroed with st := .clearing, outcome := 11 } n.isLt } }
  reportSafety ch d 0x03 n.val c

/-- Whether a message under this configuration encrypts: CTR is encryption in both directions. -/
def Cx.encrypts (x : Cx) : Bool := !x.dec || x.mode == 2

/-- Order and class rules of START (R209 to R212): the outcome of a refusal. -/
def startRule (x : Cx) : Option Nat :=
  let m := x.mode
  if 6 ≤ m ∨ (2 ≤ m ∧ x.pad ≠ 0) ∨ x.pad = 3 ∨ (m = 2 ∧ x.ctrw = 3) then some 7
  else if x.ivsrc = 3 ∨ x.kclass = 3 ∨ (x.ivsrc ≠ 0 ∧ m ≠ 3) then some 6
  else if x.kclass = 0 ∧ ¬ (m = 3 ∧ (x.dec ∨ x.ivsrc ≠ 0)) then some 6
  else if x.kclass = 1 ∧ x.encrypts ∧ x.usedEnc then some 6
  else if x.kclass = 2 ∧ (m = 2 ∨ m = 3) then some 6
  else none

/-- Counter rules of START (R213, R216). DEDUCED: a counter above 32 bits lies above every limit of TITLE32, so no value is issued
twice under a load (log 150). -/
def counterRule (x : Cx) : Option Nat :=
  if x.mode ≠ 3 then none
  else if !x.dec then
    if x.ivsrc = 1 ∧ (x.ctr = 0xFFFFFFFF ∨ x.limit < x.ctr) then some 3
    else if x.ivsrc = 2 ∧ x.ctr = 2 ^ 64 - 1 then some 3
    else none
  else if x.ivsrc = 1 ∧ x.checkHw ∧ ¬ x.hwEmpty then
    if x.hw = 0xFFFFFFFF then some 3 else if x.inCtr ≤ x.hw then some 2 else none
  else none

/-- The IV of a message (R211). -/
def Cx.startIv (x : Cx) : Bytes :=
  if x.mode = 1 ∨ x.mode = 2 then x.iv
  else if x.mode ≠ 3 then []
  else if x.ivsrc = 1 then x.fix ++ beBytes 4 (if x.dec then x.inCtr else x.ctr)
  else if x.ivsrc = 2 ∧ !x.dec then x.fix.take 4 ++ beBytes 8 x.ctr
  else x.iv.take 12

/-- START (R209 to R216). -/
def startStep (x : Cx) : Cx :=
  let x := { x with outcome := 0 }
  if x.st ≠ .keyed then x.ended 7
  else match startRule x with
    | some o => x.outcomeOf o
    | none => match counterRule x with
      | some o => x.outcomeOf o
      | none =>
        let issues := x.mode == 3 && !x.dec && x.ivsrc != 0
        let iv := x.startIv
        { x with
          st := .opened, started := true, usedEnc := x.usedEnc || x.encrypts
          used := if issues then x.ctr else x.used
          ctr := if issues then x.ctr + 1 else x.ctr
          total := 0, outlen := 0
          msg := { iv := iv, inCtr := x.inCtr, chain := if x.mode = 3 then aesInc32 (gcmJ0 iv) else iv } }

/-- START; `fault` is a miscompare in E(K, J0), which only GCM computes (R217, R222). -/
def startCommand (ch : Ch) (d : Device) (n : Fin 8) (fault : Bool) (c : Channel) : Channel :=
  let c := onCx n startStep c
  if fault ∧ (c.ce.cx n).st = .opened ∧ (c.ce.cx n).mode = 3 ∧ (c.ce.cx n).outcome = 0 then cipherFault ch d n c else c

/-- KEYLOAD (R208, R215); `fault` is a miscompare in H or the subkeys. -/
def keyloadStep (ch : Ch) (d : Device) (n : Fin 8) (q : CxCmd) (fault : Bool) (c : Channel) : Channel :=
  let x := c.ce.cx n
  let len := klenBytes x.klen
  if x.st = .opened ∨ x.klen = 3 then onCx n (fun x => { x with outcome := 0 }.ended 7) c
  else if !(inData q.src len || (0x300000 ≤ q.src && q.src + len ≤ 0x3FFFC0)) then onCx n (fun x => { x with outcome := 8 }) c
  else match engineRead ch d 3 q.src len c with
    | (none, c) => onCx n (fun x => { x with outcome := 8 }) c
    | (some k, c) =>
      let dup := (List.finRange 8).any fun i => i != n &&
        ((c.ce.cx i).st == .keyed || (c.ce.cx i).st == .opened) && (c.ce.cx i).key == k
      let c := onCx n (fun x =>
        if dup then { x.unkeyed with outcome := 9 } else { x.unkeyed with st := .keyed, key := k, hwEmpty := true, outcome := 0 }) c
      if fault ∧ !dup then cipherFault ch d n c else c

/-- AAD (R209); `fault` is a miscompare of GHASH in one of its blocks. -/
def aadStep (ch : Ch) (d : Device) (n : Fin 8) (q : CxCmd) (fault : Bool) (c : Channel) : Channel :=
  let x := c.ce.cx n
  if x.st ≠ .opened ∨ x.mode ≠ 3 ∨ 1 < x.msg.phase ∨ x.msg.aad.length % 16 ≠ 0 then onCx n (Cx.ended 7) c
  else if 0xFFFFFFFF < x.msg.aad.length + q.len then onCx n (Cx.ended 4) c
  else if !inData q.src q.len then onCx n (Cx.ended 8) c
  else match engineRead ch d 3 q.src q.len c with
    | (none, c) => onCx n (Cx.ended 8) c
    | (some b, c) =>
      if fault ∧ q.len ≠ 0 then cipherFault ch d n c
      else onCx n (fun x => { x with msg := { x.msg with phase := 1, aad := x.msg.aad ++ b } }) c

/-- The next counter block of CTR mode, unless its field would carry (R223). -/
def ctrNext (w : Nat) (blk : Bytes) : Option Bytes :=
  let n := if w = 0 then 4 else if w = 1 then 8 else 16
  let v := beNat (blk.drop (16 - n))
  if v + 1 = 256 ^ n then none else some (blk.take (16 - n) ++ beBytes n (v + 1))

/-- CTR blocks from a counter block: output, the next counter block, none once the field has wrapped. -/
def ctrRun (w : Nat) (rks : List Bytes) : List Bytes → Option Bytes → Bytes × Option Bytes × Bool
  | [], k => ([], k, true)
  | _ :: _, none => ([], none, false)
  | b :: bs, some k =>
    let r := ctrRun w rks bs (ctrNext w k)
    (xorBytes b (aesEncryptRk rks k) ++ r.1, r.2)

/-- Output written at an address and remembered for R219; false when the table refuses it. -/
def cxWrite (ch : Ch) (d : Device) (n : Fin 8) (a : Nat) (b : Bytes) (c : Channel) : Bool × Channel :=
  if b.isEmpty then (true, c)
  else if !inData a b.length then (false, c)
  else match engineWrite ch d 3 a b c with
    | (false, c) => (false, c)
    | (true, c) => (true, onCx n (fun x => { x with outlen := x.outlen + b.length, msg := { x.msg with written := x.msg.written ++ [(a, b.length)] } }) c)

/-- Blocks of ECB or CBC, one way or the other: output and chaining value. -/
def blockCipher (x : Cx) (b : Bytes) : Bytes × Bytes :=
  if x.mode = 0 then ((if x.dec then aesEcbDecrypt x.key b else aesEcbEncrypt x.key b), x.msg.chain)
  else if x.dec then aesCbcDecrypt x.key x.msg.chain b else aesCbcEncrypt x.key x.msg.chain b

/-- ECB and CBC data: the held-back block first, then what is whole; a last block is held back under padded decryption,
and a part of a block is held for FINAL. -/
def dataBlocks (ch : Ch) (d : Device) (n : Fin 8) (q : CxCmd) (b : Bytes) (c : Channel) : Bool × Channel :=
  let x := c.ce.cx n
  let held := x.msg.data
  let (h, ch1) := blockCipher x (if b.isEmpty then [] else held)
  let x1 := { x with msg := { x.msg with chain := ch1 } }
  let whole := b.length / 16 * 16
  let keep := if x.dec ∧ x.pad ≠ 0 ∧ whole = b.length ∧ whole ≠ 0 then whole - 16 else whole
  let (o, ch2) := blockCipher x1 (b.take keep)
  match cxWrite ch d n x.msg.heldDst h c with
  | (false, c) => (false, c)
  | (true, c) => match cxWrite ch d n q.dst o c with
    | (false, c) => (false, c)
    | (true, c) => (true, onCx n (fun x => { x with msg := { x.msg with
        chain := ch2
        data := if b.isEmpty then held else b.drop keep
        heldDst := if b.isEmpty ∧ ¬ held.isEmpty then x.msg.heldDst else q.dst + keep } }) c)

/-- The output of a key wrap or unwrap of a whole input, with the register A of an unwrap. -/
def wrapOutput (x : Cx) (b : Bytes) : Bytes × Bytes :=
  if x.dec then
    let rs := chunks 8 (b.drop 8)
    let r := kwUnwrapLoop (aesRoundKeys x.key) rs.length (6 * rs.length) (b.take 8) rs
    (r.2.flatten, r.1)
  else (kwWrap x.key b, List.replicate 8 0xA6)

/-- The mode's work on the bytes of one DATA command; none means the context was ended already. -/
def dataMode (ch : Ch) (d : Device) (n : Fin 8) (q : CxCmd) (b : Bytes) (c : Channel) : Channel :=
  let x := c.ce.cx n
  let addr (r : Bool × Channel) : Channel := if r.1 then r.2 else onCx n (Cx.ended 8) r.2
  if x.mode ≤ 1 then addr (dataBlocks ch d n q b c)
  else if x.mode = 2 then
    let (o, k, ok) := ctrRun x.ctrw (aesRoundKeys x.key) (chunks 16 b) (if x.msg.chain.isEmpty then none else some x.msg.chain)
    match cxWrite ch d n q.dst o c with
    | (false, c) => onCx n (Cx.ended 8) c
    | (true, c) => if ok then onCx n (fun x => { x with msg := { x.msg with chain := k.getD [] } }) c else onCx n (Cx.ended 10) c
  else if x.mode = 3 then
    let (o, k) := aesCtrFrom x.key x.msg.chain b
    match cxWrite ch d n q.dst o c with
    | (false, c) => onCx n (Cx.ended 8) c
    | (true, c) => onCx n (fun x => { x with msg := { x.msg with chain := k, data := x.msg.data ++ if x.dec then b else o } }) c
  else if x.mode = 4 then onCx n (fun x => { x with msg := { x.msg with data := x.msg.data ++ b } }) c
  else
    let (lo, hi) := if x.dec then (24, 4104) else (16, 4096)
    if b.length % 8 ≠ 0 ∨ b.length < lo ∨ hi < b.length then onCx n (Cx.ended 4) c
    else
      let (o, a) := wrapOutput x b
      match cxWrite ch d n q.dst o c with
      | (false, c) => onCx n (Cx.ended 8) c
      | (true, c) => onCx n (fun x => { x with msg := { x.msg with chain := a } }) c

/-- The bytes a DATA command writes at DST, for the overlap rule of R209. -/
def dataOutLen (x : Cx) (n : Nat) : Nat := if x.mode = 4 then 0 else if x.mode = 5 then (if x.dec then n - 8 else n + 8) else n

/-- The blocks of a DATA command up to one whose datapaths, or whose inverse check, disagree: they are written, the failing block is not
(R217, R218, R220). A key wrap, whose steps all precede its output, and CMAC write nothing. -/
def dataFault (ch : Ch) (d : Device) (n : Fin 8) (q : CxCmd) (b : Bytes) (k : Nat) (c : Channel) : Channel :=
  let c := if (c.ce.cx n).mode ≤ 3 then dataMode ch d n q (b.take (16 * k)) c else c
  if (c.ce.cx n).st = .opened then cipherFault ch d n c else c

/-- DATA (R209, R217); `fault` is the number of a block that fails its check. -/
def dataStep (ch : Ch) (d : Device) (n : Fin 8) (q : CxCmd) (fault : Option Nat) (c : Channel) : Channel :=
  let x := c.ce.cx n
  let outLen := dataOutLen x q.len
  if x.st ≠ .opened ∨ x.total % 16 ≠ 0 ∨ (x.mode = 5 ∧ x.msg.dataCmds ≠ 0) then onCx n (Cx.ended 7) c
  else if 0xFFFFFFFF < x.total + q.len then onCx n (Cx.ended 4) c
  else if !inData q.src q.len || (outLen != 0 && !inData q.dst outLen) ||
      (outLen != 0 && q.len != 0 && q.src != q.dst && q.src < q.dst + outLen && q.dst < q.src + q.len) then onCx n (Cx.ended 8) c
  else match engineRead ch d 3 q.src q.len c with
    | (none, c) => onCx n (Cx.ended 8) c
    | (some b, c) =>
      let c := onCx n (fun x => { x with total := x.total + q.len, msg := { x.msg with phase := 2, dataCmds := x.msg.dataCmds + 1 } }) c
      match fault with
      | some k => if 16 * k < b.length then dataFault ch d n q b k c else dataMode ch d n q b c
      | none => dataMode ch d n q b c

/-- A padded last block's bytes without their padding (R210). -/
def unpad (method : Nat) (b : Bytes) : Option Bytes :=
  let last := (b.getLastD 0).toNat
  if method = 1 then
    if 1 ≤ last ∧ last ≤ 16 ∧ b.drop (16 - last) = List.replicate last (byte last) then some (b.take (16 - last)) else none
  else
    let body := (b.reverse.dropWhile (· == 0)).reverse
    if body.getLastD 0 = 0x80 then some body.dropLast else none

/-- A message ends well. -/
def Cx.done (x : Cx) : Cx := { x with st := .keyed, msg := {} }

/-- FINAL of ECB and CBC. -/
def finalBlocks (ch : Ch) (d : Device) (n : Fin 8) (q : CxCmd) (c : Channel) : Channel :=
  let x := c.ce.cx n
  let dst := if x.msg.dataCmds = 0 then q.dst else x.msg.heldDst
  let write (b : Bytes) (c : Channel) : Channel := match cxWrite ch d n dst b c with
    | (false, c) => onCx n (Cx.ended 8) c
    | (true, c) => onCx n Cx.done c
  if x.pad = 0 then (if x.total % 16 ≠ 0 then onCx n (Cx.ended 4) c else onCx n Cx.done c)
  else if x.dec then
    if x.total % 16 ≠ 0 ∨ x.total = 0 then onCx n (Cx.ended 4) c
    else match unpad x.pad (blockCipher x x.msg.data).1 with
      | none => failedCheck n 5 c
      | some p => write p c
  else
    let r := x.msg.data.length
    let p := if x.pad = 1 then List.replicate (16 - r) (byte (16 - r)) else [0x80] ++ zeros (15 - r)
    write (blockCipher x (x.msg.data ++ p)).1 c

/-- Writes a tag, or checks it against the value at AUX (R219). -/
def finalTag (ch : Ch) (d : Device) (n : Fin 8) (q : CxCmd) (tag : Bytes) (c : Channel) : Channel :=
  let x := c.ce.cx n
  if !inData q.aux x.tagLen then onCx n (Cx.ended 8) c
  else if !x.dec then match engineWrite ch d 3 q.aux tag c with
    | (false, c) => onCx n (Cx.ended 8) c
    | (true, c) => onCx n Cx.done c
  else match engineRead ch d 3 q.aux x.tagLen c with
    | (none, c) => onCx n (Cx.ended 8) c
    | (some t, c) =>
      if t ≠ tag then failedCheck n 1 c
      else onCx n (fun x =>
        let x := if x.mode = 3 ∧ x.ivsrc = 1 ∧ x.checkHw then { x with hw := x.msg.inCtr, hwEmpty := false } else x
        x.done) c

/-- FINAL (R209, R219); `fault` is comparators that disagree. -/
def finalStep (ch : Ch) (d : Device) (n : Fin 8) (q : CxCmd) (fault : Bool) (c : Channel) : Channel :=
  let x := c.ce.cx n
  if x.st ≠ .opened ∨ (x.mode = 5 ∧ x.msg.dataCmds ≠ 1) then onCx n (Cx.ended 7) c
  else if fault then cipherFault ch d n c
  else if x.mode ≤ 1 then finalBlocks ch d n q c
  else if x.mode = 2 then onCx n Cx.done c
  else if x.mode = 3 then finalTag ch d n q ((gcmTag x.key x.msg.iv x.msg.aad x.msg.data).take x.tagLen) c
  else if x.mode = 4 then finalTag ch d n q ((cmac x.key x.msg.data).take x.tagLen) c
  else if x.dec ∧ x.msg.chain ≠ List.replicate 8 0xA6 then failedCheck n 1 c
  else onCx n Cx.done c

/-- Outcomes that show that firmware broke a rule of the engine (*Outcomes*). -/
def firmwareOutcome (o : Nat) : Bool := o == 4 || (6 ≤ o && o ≤ 10)

/-- A job whose message ended so completes with SAFETY_HOLD, and the channel enters FAULT (R221). -/
def firmwareBroke (ch : Ch) (d : Device) (n : Fin 8) (c : Channel) : Channel :=
  match c.jr.entries.find? fun e => e.state == .claimed && e.engaged.ctx == some n.val with
  | some e => if firmwareOutcome (c.ce.cx n).outcome then reportSafety ch d 0x0B 0 (failJob e.jidx ⟨0x0A00, 0x0B, 0⟩ c) else c
  | none => c

/-- One queued command runs; `fault` strikes it, in a DATA command at that block. -/
def cxRun (ch : Ch) (d : Device) (n : Fin 8) (q : CxCmd) (fault : Option Nat) (c : Channel) : Channel :=
  let c := if q.cmd = 1 then keyloadStep ch d n q fault.isSome c
    else if q.cmd = 2 then startCommand ch d n fault.isSome c
    else if q.cmd = 3 then aadStep ch d n q fault.isSome c
    else if q.cmd = 4 then dataStep ch d n q fault c
    else finalStep ch d n q fault.isSome c
  let c := if q.irq then { c with ce := { c.ce with irq := c.ce.irq ||| BitVec.ofNat 32 (2 ^ n.val) } } else c
  firmwareBroke ch d n c

/-- The context served next: those with their CE_PRIO bit set first, in ascending number, then the others in turn after the one served
last (R207). DESIGN CHOICE: the slots of a command run together (log 150). -/
def cxNext (e : Cipher) : Option (Fin 8) :=
  let ready (n : Fin 8) : Bool := !(e.cx n).fifo.isEmpty
  match (List.finRange 8).find? fun n => bit e.prio n.val && ready n with
  | some n => some n
  | none => ((List.finRange 8).map fun n => n + e.turn + 1).find? ready

/-- Runs the queued commands while the engine is enabled; the fault strikes the last command of its context. -/
def cxDrain (ch : Ch) (d : Device) (fault : Option (Fin 8 × Nat)) : Nat → Channel → Channel
  | 0, c => c
  | fuel + 1, c =>
    if !c.ce.en || c.ce.halted then c
    else match cxNext c.ce with
      | none => c
      | some n => match (c.ce.cx n).fifo with
        | [] => c
        | q :: rest =>
          let hit := if rest.isEmpty then (fault.filter (·.1 == n)).map (·.2) else none
          let c := { c with ce := { c.ce with turn := if bit c.ce.prio n.val then c.ce.turn else n } }
          cxDrain ch d fault fuel (cxRun ch d n q hit (onCx n (fun x => { x with fifo := rest }) c))

/-- A command written to CX_CMD (R208): refused, or queued with what it captures, and run in order. -/
def cxCommand (ch : Ch) (n : Fin 8) (cmd : Nat) (irq : Bool) (fault : Option Nat) (d : Device) (c : Channel) : Channel :=
  let x := c.ce.cx n
  if !x.heldNow || 8 ≤ x.fifo.length then onCx n (fun x => { x with refused := true }) c
  else
    let q : CxCmd := ⟨cmd, irq, x.len, x.src, x.dst, x.aux⟩
    cxDrain ch d (fault.map fun k => (n, k)) 64 (onCx n (fun x => { x with refused := false, fifo := x.fifo ++ [q] }) c)

/-- ABORT (R208): the message ends and the FIFO empties. -/
def cxAbort (n : Fin 8) (irq : Bool) (c : Channel) : Channel :=
  let x := c.ce.cx n
  if !x.heldNow then onCx n (fun x => { x with refused := true }) c
  else
    let c := onCx n (fun x => { (if x.st = .opened then { x with outcome := 0 }.ended 12 else x) with fifo := [], refused := false }) c
    if irq then { c with ce := { c.ce with irq := c.ce.irq ||| BitVec.ofNat 32 (2 ^ n.val) } } else c

/-- CE_ALLOC read (R204). -/
def ceAlloc (c : Channel) : Channel :=
  let free := (List.finRange 8).find? fun n => (c.ce.cx n).st == .free
  match free with
  | none => { c with ce := { c.ce with waiting := true, lastAlloc := 0 } }
  | some n =>
    if !c.ce.en || c.ce.halted then { c with ce := { c.ce with lastAlloc := 0 } }
    else onCx n (fun x => { x with st := .held, outcome := 0 }) { c with ce := { c.ce with lastAlloc := n.val + 256 } }

/-- A context became free: CE_IRQ.FREE while WAITING (R205). -/
def freeWaiting (c : Channel) : Channel :=
  if c.ce.waiting then { c with ce := { c.ce with waiting := false, irq := c.ce.irq ||| 0x100 } } else c

/-- CE_FREE (R205): a message in progress ends as ABORT ends it. -/
def ceFree (n : Fin 8) (c : Channel) : Channel :=
  let c := { c with ce := { c.ce with freeSel := n.val } }
  if (c.ce.cx n).heldNow then
    let end_ (x : Cx) : Cx := { x with st := .clearing, fifo := [], msg := {}, outcome := if x.st = .opened then 12 else x.outcome }
    onCx n end_ { c with ce := { c.ce with freeBusy := true, standing := c.ce.standing && decide (2 ≤ n.val) } }
  else c

/-- CE_CLEAR_DONE (R205): GO reads 1 while any context is still clearing. -/
def ceClearDone (n : Fin 8) (c : Channel) : Channel :=
  if (c.ce.cx n).st = .clearing ∧ ¬ c.ce.halted then
    let c := onCx n Cx.zeroed c
    freeWaiting { c with ce := { c.ce with freeBusy := c.ce.cxs.toList.any fun x => x.st == .clearing } }
  else c

/-- Every context cleared and freed: CE_ZERO, and every reset of the channel (R220). -/
def Cipher.zero (e : Cipher) : Cipher :=
  { e with halted := false, freeBusy := false, standing := false, cxs := e.cxs.map Cx.zeroed }

/-- CX_CFG written (R212). -/
def cfgWrite (v : Word) (x : Cx) : Cx :=
  let n := v.toNat % 65536
  if x.st = .opened then x
  else
    let y := { x with cfg := n }
    if x.st = .keyed ∧ (y.klen ≠ x.klen ∨ y.kclass ≠ x.kclass) then y.unkeyed else y

/-- CX_CTR_LO, CX_CTR_HI or CX_HW written (R214); a 64-bit counter takes its value with the high word, which TITLE32 holds. -/
def counterWrite (reg : Fin 3) (v : Word) (x : Cx) : Cx :=
  if reg.val = 0 then { x with ctrLow := v.toNat }
  else
    let new := if reg.val = 1 then (if x.ivsrc = 1 then x.ctr / 2 ^ 32 else v.toNat) * 2 ^ 32 + x.ctrLow else v.toNat
    let old := if reg.val = 1 then x.ctr else x.hw
    if x.started ∧ new < old then { x with writeRefused := true }
    else if reg.val = 1 then { x with ctr := new, writeRefused := false } else { x with hw := new, writeRefused := false }

/-- CX_LIMIT written (R213). -/
def limitWrite (v : Word) (x : Cx) : Cx := { x with limit := min v.toNat 0xFFFFFFFE }

/-- CE_ALLOC. -/
def execCeAlloc (ch : Ch) (s : State) : Host.Outcome State Fault Refusal := .next (onChan ch (fun _ _ c => ceAlloc c) s)

/-- CE_FREE. -/
def execCeFree (ch : Ch) (cx : Fin 8) (s : State) : Host.Outcome State Fault Refusal :=
  .next (onChan ch (fun _ _ c => ceFree cx c) s)

/-- CE_CLEAR_DONE. -/
def execCeClearDone (ch : Ch) (cx : Fin 8) (s : State) : Host.Outcome State Fault Refusal :=
  .next (onChan ch (fun _ _ c => ceClearDone cx c) s)

/-- CE_ZERO. -/
def execCeZero (ch : Ch) (s : State) : Host.Outcome State Fault Refusal :=
  .next (onChan ch (fun _ _ c => freeWaiting { c with ce := c.ce.zero }) s)

/-- CX_CFG_WRITE. -/
def execCxCfgWrite (ch : Ch) (cx : Fin 8) (value : Word) (s : State) : Host.Outcome State Fault Refusal :=
  .next (onChan ch (fun _ _ c => onCx cx (cfgWrite value) c) s)

/-- CX_COUNTER_WRITE: register 0 CX_CTR_LO, 1 CX_CTR_HI, 2 CX_HW. -/
def execCxCounterWrite (ch : Ch) (cx : Fin 8) (reg : Fin 3) (value : Word) (s : State) : Host.Outcome State Fault Refusal :=
  .next (onChan ch (fun _ _ c => onCx cx (counterWrite reg value) c) s)

/-- CX_LIMIT_WRITE. -/
def execCxLimitWrite (ch : Ch) (cx : Fin 8) (value : Word) (s : State) : Host.Outcome State Fault Refusal :=
  .next (onChan ch (fun _ _ c => onCx cx (limitWrite value) c) s)

/-- KEYLOAD. -/
def execKeyload (ch : Ch) (cx : Fin 8) (mark : CxMark) (s : State) : Host.Outcome State Fault Refusal :=
  .next (onChanS ch (fun ch d c => cxCommand ch cx 1 mark.irq (if mark.fault then some 0 else none) d c) s)

/-- START. -/
def execStart (ch : Ch) (cx : Fin 8) (mark : CxMark) (s : State) : Host.Outcome State Fault Refusal :=
  .next (onChanS ch (fun ch d c => cxCommand ch cx 2 mark.irq (if mark.fault then some 0 else none) d c) s)

/-- AAD. -/
def execAad (ch : Ch) (cx : Fin 8) (mark : CxMark) (s : State) : Host.Outcome State Fault Refusal :=
  .next (onChanS ch (fun ch d c => cxCommand ch cx 3 mark.irq (if mark.fault then some 0 else none) d c) s)

/-- DATA. -/
def execData (ch : Ch) (cx : Fin 8) (irq : Bool) (fault : Option Nat) (s : State) : Host.Outcome State Fault Refusal :=
  .next (onChanS ch (fun ch d c => cxCommand ch cx 4 irq fault d c) s)

/-- FINAL. -/
def execFinal (ch : Ch) (cx : Fin 8) (irq fault : Bool) (s : State) : Host.Outcome State Fault Refusal :=
  .next (onChanS ch (fun ch d c => cxCommand ch cx 5 irq (if fault then some 0 else none) d c) s)

/-- ABORT. -/
def execAbort (ch : Ch) (cx : Fin 8) (irq : Bool) (s : State) : Host.Outcome State Fault Refusal :=
  .next (onChan ch (fun _ _ c => cxAbort cx irq c) s)

end Sys2Proof.Machine
end

