-- ==== Sys2Proof/Machine/Flash.lean ====
section
/-! DEFINITION. The flash banks and their controllers: formats, commands, suspended erases, windows, scrub (R343 to R367). -/

namespace Sys2Proof.Machine

/-- Sets NV_IRQ bits. -/
def NvBank.irqs (n : Nat) (b : NvBank) : NvBank := { b with irq := b.irq ||| BitVec.ofNat 32 n }

/-- A bank of a unit changed. -/
def onNv (f : NvBank → NvBank) (c : Channel) : Channel := { c with nv := f c.nv }

/-- A command ends with its RESULT. -/
def NvBank.ended (irq : Bool) (result : Nat) (b : NvBank) : NvBank :=
  let b := { b with result := result, busy := none }
  if irq then b.irqs 1 else b

/-- The running erase suspended (R355, R356). -/
def NvBank.suspend (self : Bool) (b : NvBank) : NvBank :=
  match b.busy with
  | some k => if k.cmd = 3 then
      ({ b with busy := none, susp := some { k with selfSusp := self } }).onSector (sectorOf k.addr) fun s => { s with suspended := true }
    else b
  | none => b

/-- The suspended erase goes on. -/
def NvBank.resume (b : NvBank) : NvBank :=
  match b.susp with
  | some k => ({ b with busy := some k, susp := none }).onSector (sectorOf k.addr) fun s => { s with suspended := false }
  | none => b

/-- The address a command requires: alignment and the bank's size (R353, R367). -/
def nvAddressOk (mgmt : Bool) (cmd addr len : Nat) : Bool :=
  addr < bankBytes mgmt &&
  (if cmd = 2 then addr % 128 == 0 else if cmd = 1 then addr % 512 == 0
   else if cmd = 5 then addr % 512 == 0 && 1 ≤ len && len ≤ 128 && addr + 512 * len ≤ bankBytes mgmt
   else sectorBase (sectorOf addr) == addr)

/-- Why a command is refused as it starts (R347, R354, R358). -/
def nvRefusal (b : NvBank) (cmd : Nat) : Option Nat :=
  let s := b.sector (sectorOf b.addr)
  if cmd = 1 then
    if s.closed then some 3 else if s.format = 4 then some 6 else if b.programmed b.addr then some 2 else none
  else if cmd = 2 then
    if s.closed then some 3 else if s.format ≠ 4 then some 6 else if b.programmed b.addr then some 2 else none
  else if cmd = 4 then
    if s.closed then some 3 else if !s.empty then some 2 else if 4 < b.len % 8 then some 6 else none
  else none

/-- What a command does as it starts: data enter the array, an erase counts and flags its sector. -/
def nvApply (cmd : Nat) (b : NvBank) : NvBank :=
  let s := sectorOf b.addr
  if cmd = 1 ∨ cmd = 2 then
    ({ b with words := (b.addr, b.buf.take (if cmd = 1 then 512 else 128)) :: b.words }).onSector s fun x => { x with empty := false }
  else if cmd = 3 then
    let lo := sectorBase s
    let inside (o : Nat) : Bool := lo ≤ o && o < lo + sectorLen s
    let b : NvBank := { b with words := b.words.filter fun w => !inside w.1, badWords := b.badWords.filter fun o => !inside o }
    b.onSector s fun x =>
      { x with erases := min (x.erases + 1) 0xFFFFFF, incomplete := true, empty := false }
  else if cmd = 4 then b.onSector s fun x => { x with format := b.len % 8 }
  else b

/-- A command written (R353 to R356): refused BUSY, refused with its reason, or started. In the sector of a suspended erase a
command but ERASE meets R358. -/
def nvCommand (cmd : Nat) (autosusp irq : Bool) (c : Channel) : Channel :=
  let b := c.nv
  let other (k : NvCmd) : Bool := sectorOf k.addr != sectorOf b.addr
  let passes := cmd = 1 ∨ cmd = 2 ∨ cmd = 5
  if !b.en then c
  else
    let b := match b.busy with
      | some k => if k.cmd = 3 && k.autosusp && passes && other k then b.suspend true else b
      | none => b
    let blocked := b.busy.isSome || (b.susp.any fun k => decide (cmd = 3) || (other k && !passes))
    if blocked then onNv (fun b => { b with result := 7 }) c
    else if !nvAddressOk c.table.mgmt cmd b.addr b.len then onNv (fun _ => b.ended irq 1) c
    else match nvRefusal b cmd with
      | some r => onNv (fun _ => b.ended irq r) c
      | none => onNv (fun _ => { (nvApply cmd b) with busy := some ⟨cmd, autosusp, irq, b.addr, b.len, b.buf, false⟩ }) c

/-- One sensed page: its correction count and the segment of an uncorrectable codeword (R348, R349). -/
structure Sense where
  corr : Nat
  uncorr : Option (Fin 4) := none
  deriving DecidableEq, Repr

/-- A sense: corrected bits enter the bucket, an uncorrectable codeword is captured and from then on reads as zeros. -/
def senseStep (u : Core) (d : Device) (page : Nat) (scrub : Bool) (x : Sense) (c : Channel) : Channel :=
  if c.nv.pageErased page then c
  else
    let f := (c.nv.sector (sectorOf page)).format
    let c := nvCorrections u d x.corr c
    match x.uncorr with
    | none => onNv (fun b => { b with badWords := b.badWords.filter fun o => !(codewords f page).contains o }) c
    | some k =>
      let cw := if f = 4 then page + 128 * k.val else page
      onNv (fun b =>
        let b := if b.badWords.contains cw then b else { b with badWords := cw :: b.badWords }
        let b := if b.uvalid then b
          else { b with uvalid := true, uaddr := page + 2 ^ 22 * (if f = 4 then k.val else 0) + 2 ^ 24 * b2n scrub }
        b.irqs 2) c

/-- The unit files a crumb at its event port; management's own enter its recorder. -/
def unitCrumb (u : Core) (d : Device) (code p0 p1 : Nat) (c : Channel) : Channel :=
  if h : u.val < 16 then fileCrumb ⟨u.val, h⟩ d code p0 p1 0 0 c else mgUnitCrumb d code p0 p1 0 c

/-- The senses of CHECK over `n` pages. -/
def checkPages (u : Core) (d : Device) (page : Nat) (xs : List Sense) : Nat → Channel → Channel
  | 0, c => c
  | n + 1, c =>
    let c := checkPages u d page xs n c
    let p := page + 512 * n
    let x := xs.getD n ⟨0, none⟩
    if (c.nv.sector (sectorOf p)).closed then onNv (fun b => { b with uncorrPages := b.uncorrPages + 1 }) c
    else if c.nv.pageErased p then onNv (fun b => { b with erasedPages := b.erasedPages + 1 }) c
    else
      let c := senseStep u d p false x c
      onNv (fun b => { b with maxcorr := max b.maxcorr x.corr, uncorrPages := b.uncorrPages + b2n x.uncorr.isSome }) c

/-- NV_COMMAND_DONE (R353 to R355): `senses` are what the verify or CHECK senses found, `fail` an erase past four times
its time. -/
def nvDone (u : Core) (senses : List Sense) (fail : Bool) (d : Device) (c : Channel) : Channel :=
  match c.nv.busy with
  | none => c
  | some k =>
    let s := sectorOf k.addr
    if k.cmd = 1 ∨ k.cmd = 2 then
      let page := k.addr / 512 * 512
      let x := senses.getD 0 ⟨0, none⟩
      let bad := decide (formatT (c.nv.sector s).format / 2 < x.corr) || x.uncorr.isSome
      let c := senseStep u d page false x c
      let c := onNv (fun b => ({ b with maxcorr := x.corr }).ended k.irq (if bad then 4 else 0)) c
      if bad then unitCrumb u d 0x1C02 k.addr (c.nv.sector s).erases c else c
    else if k.cmd = 3 then
      if fail then unitCrumb u d 0x1C03 k.addr (c.nv.sector s).erases (onNv (NvBank.ended k.irq 5) c)
      else onNv (fun b => (b.onSector s fun x => { x with incomplete := false, empty := true }).ended k.irq 0) c
    else if k.cmd = 5 then
      let c := onNv (fun b => { b with maxcorr := 0, erasedPages := 0, uncorrPages := 0 }) c
      onNv (NvBank.ended k.irq 0) (checkPages u d k.addr senses k.len c)
    else onNv (NvBank.ended k.irq 0) c

/-- NV_CTRL.SUSPEND and RESUME (R355). -/
def nvSuspend (c : Channel) : Channel :=
  if c.nv.busy.any (fun k => k.cmd == 3) then onNv (NvBank.suspend false) c else onNv (fun b => { b with result := 7 }) c

def nvResume (c : Channel) : Channel :=
  if c.nv.susp.isSome ∧ c.nv.busy.isNone then onNv NvBank.resume c else onNv (fun b => { b with result := 7 }) c

/-- An erase that runs with AUTOSUSP suspends itself (R356). -/
def nvAutosuspend (c : Channel) : Channel :=
  if c.nv.busy.any (fun k => k.cmd == 3 && k.autosusp) then onNv (NvBank.suspend true) c else c

/-- The bank programs or erases, so that no window read is served (R352). -/
def NvBank.writes (b : NvBank) : Bool := b.busy.any fun k => k.cmd != 5

/-- A window read of a page (R351, R352, R356): it stalls, and changes nothing, while the bank writes. -/
def windowRead (u : Core) (page : Nat) (x : Sense) (d : Device) (c : Channel) : Channel :=
  let page := page / 512 * 512
  let c := nvAutosuspend c
  if c.nv.writes || (c.nv.sector (sectorOf page)).closed || bankBytes c.table.mgmt ≤ page then c
  else senseStep u d page false x c

/-- An entry of the refresh FIFO (R359). -/
def pushRefresh (page count tick : Nat) (b : NvBank) : NvBank :=
  if b.refresh.any (fun p => p.1 == page) then b
  else if 16 ≤ b.refresh.length then { b with dropped := true }
  else
    let b' := { b with refresh := b.refresh ++ [(page, count, tick)] }
    if b.refresh.isEmpty then b'.irqs 4 else b'

/-- FLASH_SCRUB_SENSE (R359): the next page, unless the bank writes. -/
def scrubSense (u : Core) (x : Sense) (d : Device) (c : Channel) : Channel :=
  if !c.nv.scrubEn || c.nv.busy.isSome then c
  else
    let page := c.nv.scrubPage
    let s := c.nv.sector (sectorOf page)
    let t := formatT s.format
    let skip := s.closed || c.nv.pageErased page
    let c := if skip then c
      else
        let c := senseStep u d page true x c
        let c := if x.uncorr.isSome then onNv (pushRefresh page 0xFF d.tick) c
          else if t / 2 ≤ x.corr then onNv (pushRefresh page x.corr d.tick) c else c
        if t - 2 ≤ x.corr then
          unitCrumb u d 0x1C01 page x.corr (onNv (fun b => ({ b with margin := min (b.margin + 1) 0xFFFFFFFF }).irqs 8) c)
        else c
    let last := decide (page + 512 ≥ bankBytes c.table.mgmt)
    onNv (fun b => { b with scrubPage := if last then 0 else page + 512, scrubTick := if last then some d.tick else b.scrubTick }) c

/-- What a reset of the channel does to its bank (R357, R358): a running or suspended erase is abandoned. -/
def NvBank.reset (b : NvBank) : NvBank :=
  { b with
    en := false, irqEn := false, scrubEn := true, addr := 0, len := 0, busy := none, susp := none, result := 0, irq := 0
    maxcorr := 0, erasedPages := 0, uncorrPages := 0, dropped := false, port := false
    refresh := [], sectors := b.sectors.map fun s => { s with suspended := false } }

/-- The logic die reaches a bank only through the link (R8). -/
def onKeep (bank : Core) (f : Device → Channel → Channel) (s : State) : State := if s.pw.link then onUnit bank f s else s

/-- PROGRAM. -/
def execProgram (bank : Core) (irq : Bool) (s : State) : Host.Outcome State Fault Refusal :=
  .next (onKeep bank (fun _ c => nvCommand 1 false irq c) s)

/-- PROGRAM_SEG. -/
def execProgramSeg (bank : Core) (irq : Bool) (s : State) : Host.Outcome State Fault Refusal :=
  .next (onKeep bank (fun _ c => nvCommand 2 false irq c) s)

/-- ERASE. -/
def execErase (bank : Core) (autosusp irq : Bool) (s : State) : Host.Outcome State Fault Refusal :=
  .next (onKeep bank (fun _ c => nvCommand 3 autosusp irq c) s)

/-- FORMAT. -/
def execFormat (bank : Core) (irq : Bool) (s : State) : Host.Outcome State Fault Refusal :=
  .next (onKeep bank (fun _ c => nvCommand 4 false irq c) s)

/-- CHECK. -/
def execCheck (bank : Core) (irq : Bool) (s : State) : Host.Outcome State Fault Refusal :=
  .next (onKeep bank (fun _ c => nvCommand 5 false irq c) s)

/-- NV_COMMAND_DONE: each sense's correction count with its uncorrectable segment if any, and whether an erase failed. -/
def execNvCommandDone (bank : Core) (senses : List (Nat × Option (Fin 4))) (fail : Bool) (s : State) :
    Host.Outcome State Fault Refusal :=
  .next (onUnit bank (nvDone bank (senses.map fun p => ⟨p.1, p.2⟩) fail) s)

/-- SUSPEND. -/
def execSuspend (bank : Core) (s : State) : Host.Outcome State Fault Refusal := .next (onKeep bank (fun _ c => nvSuspend c) s)

/-- RESUME. -/
def execResume (bank : Core) (s : State) : Host.Outcome State Fault Refusal := .next (onKeep bank (fun _ c => nvResume c) s)

/-- ERASE_AUTOSUSPEND (R356). -/
def execEraseAutosuspend (bank : Core) (s : State) : Host.Outcome State Fault Refusal :=
  .next (onUnit bank (fun _ c => nvAutosuspend c) s)

/-- ERASE_AUTORESUME (R356). -/
def execEraseAutoresume (bank : Core) (s : State) : Host.Outcome State Fault Refusal :=
  .next (onUnit bank (fun _ c =>
    if c.nv.susp.any (fun k => k.selfSusp) && c.nv.busy.isNone then onNv NvBank.resume c else c) s)

/-- FLASH_WINDOW_READ: the byte offset read and what the sense of its page finds. -/
def execFlashWindowRead (bank : Core) (off corr : Nat) (uncorr : Option (Fin 4)) (s : State) : Host.Outcome State Fault Refusal :=
  .next (onKeep bank (windowRead bank off ⟨corr, uncorr⟩) s)

/-- FLASH_SCRUB_SENSE. -/
def execFlashScrubSense (bank : Core) (corr : Nat) (uncorr : Option (Fin 4)) (s : State) : Host.Outcome State Fault Refusal :=
  .next (onUnit bank (inTurn .flashScrub (scrubSense bank ⟨corr, uncorr⟩)) s)

/-- The spare sector of a channel's bank, and the sensor-history sector that serves management's as one (R344, R345, R360). -/
def spareSector : Nat := 38

def historySpare : Nat := 69

/-- Steps 4 to 6 of a staged refresh: the target is programmed from the spare when the spare matches the refresh record (R360). -/
def finishRefresh (spare : Nat) (c : Channel) : Channel :=
  match c.refreshing with
  | none => c
  | some (s, dg) => { c with refreshing := none, nv := if sectorDigest c.nv spare = dg then refreshBack spare s c.nv else c.nv }

/-- Steps 1 to 3 of a staged refresh: the spare erased, the sector copied into it, the refresh record written. -/
def startRefresh (spare s : Nat) (c : Channel) : Channel :=
  let n := refreshStage spare s c.nv
  { c with nv := n, refreshing := some (s, sectorDigest n spare) }

/-- How channel firmware refreshes a page, by area (R360). -/
def refreshPage (page : Nat) (c : Channel) : Channel :=
  let s := sectorOf page
  let compact (a : StoreArea) : Channel := { c with nv := (storeCompact a ((page - a.base) / 0x10000) c.nv).getD c.nv }
  if page < 0xC000 then { c with nv := refreshRing page c.nv }
  else if s < 8 then c
  else if s < 24 ∨ (34 ≤ s ∧ s < 38) then startRefresh spareSector s c
  else if s < 30 then compact recipeStore
  else if s < 34 then compact settleStore
  else c

/-- How management firmware does: its firmware slots and its configuration are staged through a sensor-history sector. -/
def mgRefreshPage (page : Nat) (c : Channel) : Channel :=
  let s := sectorOf page
  if (60 ≤ s ∧ s < 68) ∨ s = 70 then startRefresh historySpare s c else c

/-- The refresh that firmware does (R360): the rest of a staged refresh under way, else the oldest page of the FIFO is taken. -/
def refreshStep (c : Channel) : Channel :=
  let spare := if c.table.mgmt then historySpare else spareSector
  if c.nv.busy.isSome then c
  else if c.refreshing.isSome then finishRefresh spare c
  else match c.nv.refresh with
    | [] => c
    | p :: l =>
      let c := onNv (fun b => { b with refresh := l }) c
      if c.table.mgmt then mgRefreshPage p.1 c else refreshPage p.1 c

/-- The older sensor history goes when management's refresh stages through its sector (R360, R400): 128 records fill a sector. -/
def historyGives (s t : State) : State :=
  if s.mgu.refreshing.isSome ∨ t.mgu.refreshing.isNone ∨ t.mg.history.length ≤ 128 then t
  else { t with mg := { t.mg with history := t.mg.history.take (t.mg.history.length - 128) } }

/-- REFRESH_POP. -/
def execRefreshPop (bank : Core) (s : State) : Host.Outcome State Fault Refusal :=
  .next (historyGives s (onKeep bank (inTurn .refresh fun _ c => refreshStep c) s))

end Sys2Proof.Machine
end

