-- ==== Sys2Proof/Machine/Dlms.lean ====
section
/-! DEFINITION. DLMS/COSEM framing as the channel uses it: the security control byte (R86), the GCM inputs (R85), the
outbound forms (R83, R96), agreed keys, certificates (R193) and the release check (R100). -/

namespace Sys2Proof.Machine

/-- An A-XDR length (IEC 62056-5-3). -/
def berLen (n : Nat) : Bytes :=
  if n < 128 then [byte n] else if n < 256 then [0x81, byte n] else [0x82] ++ beBytes 2 n

/-- An octet string with its length. -/
def octets (b : Bytes) : Bytes := berLen b.length ++ b

/-- Reads a length: the number and the rest. -/
def readLen : Bytes → Option (Nat × Bytes)
  | [] => none
  | b :: rest =>
    let n := b.toNat
    if n < 128 then some (n, rest)
    else
      let k := n - 128
      if 1 ≤ k ∧ k ≤ 4 ∧ k ≤ rest.length then some (beNat (rest.take k), rest.drop k) else none

/-- Reads an octet string. -/
def readOctets (b : Bytes) : Option (Bytes × Bytes) :=
  match readLen b with
  | none => none
  | some (n, rest) => if n ≤ rest.length then some (rest.take n, rest.drop n) else none

/-- The SC checks of R86 in order. -/
def scCheck (sc suite : Nat) (keySet : Bool) : Option Fail :=
  if bit sc 7 then some ⟨0x0304, 0, 0⟩
  else if sc % 16 > 2 then some ⟨0x0308, sc, 0⟩
  else if bits sc 5 4 ≠ 3 ∧ bits sc 5 4 ≠ 1 then some ⟨0x0308, sc, 0⟩
  else if bit sc 6 != keySet then some ⟨0x0308, sc, 0⟩
  else if sc % 16 ≠ suite then some ⟨0x0305, 0, 0⟩
  else none

/-- The IV of meter traffic (R85). -/
def trafficIv (title : Bytes) (ic : Nat) : Bytes := padTo 8 title ++ beBytes 4 ic

/-- Protects a plaintext: the bytes after SC and IC (R85). -/
def protectBody (key gak title : Bytes) (ic sc : Nat) (plain : Bytes) : Bytes :=
  let iv := trafficIv title ic
  if bit sc 5 then
    let r := gcmEncrypt key iv ([byte sc] ++ gak) plain
    r.1 ++ r.2.take 12
  else plain ++ (gcmTag key iv ([byte sc] ++ gak ++ plain) []).take 12

/-- Verifies and decrypts a protected body; none when the tag fails (R93 step 6). -/
def unprotectBody (key gak title : Bytes) (ic sc : Nat) (body tag : Bytes) : Option Bytes :=
  let iv := trafficIv title ic
  if bit sc 5 then gcmDecrypt key iv ([byte sc] ++ gak) body tag
  else (gcmDecrypt key iv ([byte sc] ++ gak ++ body) [] tag).map fun _ => body

/-- Transaction-id of the outbound layers: four zero bytes and the counter (R96). -/
def transactionId (ic : Nat) : Bytes := zeros 4 ++ beBytes 4 ic

/-- SC, IC and body. -/
def securedContent (sc ic : Nat) (body : Bytes) : Bytes := [byte sc] ++ beBytes 4 ic ++ body

/-- The AlgorithmID of AES-GCM in the key derivation (IEC 62056-5-3). -/
def algorithmId (suite : Nat) : Bytes :=
  [0x60, 0x85, 0x74, 0x05, 0x08, 0x03, if suite = 2 then 0x01 else 0x00]

/-- The content key of an agreed-key APDU: the concatenation KDF of NIST SP 800-56A over Z with the AlgorithmID, the
originator (with the transaction-id for static-unified) and the recipient. -/
def agreedKey (suite : Nat) (z originator txid recipient : Bytes) (unified : Bool) : Bytes :=
  let u := originator ++ if unified then octets txid else []
  (hash (curveHash (suiteCurve suite)) (beBytes 4 1 ++ z ++ algorithmId suite ++ u ++ recipient)).take (suiteKeyLen suite)

/-- The key-info of a general-ciphering APDU (IEC 62056-5-3). -/
inductive KeyInfo where
  | identified (id : Nat)
  | wrapped
  | agreed (params data : Bytes)
  deriving DecidableEq, Repr

/-- Encodes a key-info. -/
def keyInfoBytes : KeyInfo → Bytes
  | .identified id => [0x01, 0x00, byte id]
  | .wrapped => [0x01, 0x01]
  | .agreed p d => [0x01, 0x02] ++ octets p ++ octets d

/-- A general-ciphering APDU. -/
def generalCiphering (txid orig recip : Bytes) (ki : KeyInfo) (content : Bytes) : Bytes :=
  [0xDD] ++ octets txid ++ octets orig ++ octets recip ++ [0x00, 0x00] ++ keyInfoBytes ki ++ octets content

/-- The bytes a general-signing signature covers. -/
def signingPrefix (txid orig recip content : Bytes) : Bytes :=
  [0xDF] ++ octets txid ++ octets orig ++ octets recip ++ [0x00, 0x00] ++ octets content

/-- Reads five octet strings. -/
def readFive (b : Bytes) : Option (List Bytes × Bytes) :=
  (List.range 5).foldl (fun acc _ => match acc with
    | none => none
    | some (l, r) => (readOctets r).map fun q => (l ++ [q.1], q.2)) (some ([], b))

/-- The APDU inside a general-signing layer, or the APDU itself. -/
def innerApdu (b : Bytes) : Option Bytes :=
  if fieldBE b 0 1 = 0xDF then
    match readFive (b.drop 1) with
    | none => none
    | some (_, rest) => (readOctets rest).map (·.1)
  else some b

/-- Transaction-id and key-info of a general-ciphering APDU. -/
def readGeneralCiphering (b : Bytes) : Option (Bytes × KeyInfo) :=
  if fieldBE b 0 1 = 0xDD then
    match readFive (b.drop 1) with
    | some (fs, p :: t :: rest) =>
      let txid := fs.headD []
      if p ≠ 0x01 then none
      else if t = 0x00 then some (txid, .identified (fieldBE rest 0 1))
      else if t = 0x01 then some (txid, .wrapped)
      else if t = 0x02 then
        match readOctets rest with
        | none => none
        | some (params, r) => (readOctets r).map fun q => (txid, .agreed params q.1)
      else none
    | _ => none
  else none

/-- Bytes a Data value of fixed length takes after its tag (IEC 62056-6-2). -/
def fixedData (t : Nat) : Option Nat :=
  if t = 0 ∨ t = 255 then some 0
  else if t = 3 ∨ t = 13 ∨ t = 15 ∨ t = 17 ∨ t = 22 then some 1
  else if t = 16 ∨ t = 18 then some 2
  else if t = 5 ∨ t = 6 ∨ t = 23 ∨ t = 27 then some 4
  else if t = 26 then some 5
  else if t = 20 ∨ t = 21 ∨ t = 24 then some 8
  else if t = 25 then some 12
  else none

/-- What is still to be skipped: a Data value, or a type description of a compact-array, or its contents. -/
inductive Skip where
  | data
  | type
  | octets
  deriving DecidableEq, Repr

/-- Skips a list of pending items from the front of a string; none when they cannot all be located. -/
def skipAll : Nat → List Skip → Bytes → Option Bytes
  | _, [], b => some b
  | 0, _ :: _, _ => none
  | fuel + 1, k :: ks, b =>
    match k with
    | .octets => match readOctets b with
      | some (_, r) => skipAll fuel ks r
      | none => none
    | .type => match b with
      | [] => none
      | t :: r =>
        if t = 1 then (if 2 ≤ r.length then skipAll fuel (.type :: ks) (r.drop 2) else none)
        else if t = 2 then match readLen r with
          | some (n, r) => if n ≤ r.length then skipAll fuel (List.replicate n .type ++ ks) r else none
          | none => none
        else if (fixedData t.toNat).isSome ∨ t = 4 ∨ t = 9 ∨ t = 10 ∨ t = 12 then skipAll fuel ks r
        else none
    | .data => match b with
      | [] => none
      | t :: r => match fixedData t.toNat with
        | some n => if n ≤ r.length then skipAll fuel ks (r.drop n) else none
        | none =>
          if t = 1 ∨ t = 2 then match readLen r with
            | some (n, r) => if n ≤ r.length then skipAll fuel (List.replicate n .data ++ ks) r else none
            | none => none
          else if t = 4 then match readLen r with
            | some (n, r) => if (n + 7) / 8 ≤ r.length then skipAll fuel ks (r.drop ((n + 7) / 8)) else none
            | none => none
          else if t = 9 ∨ t = 10 ∨ t = 12 then match readOctets r with
            | some (_, r) => skipAll fuel ks r
            | none => none
          else if t = 19 then skipAll fuel (.type :: .octets :: ks) r
          else none

/-- Skips `n` Data values. -/
def skipData (n : Nat) (b : Bytes) : Option Bytes :=
  if n ≤ b.length then skipAll (2 * b.length + n + 2) (List.replicate n .data) b else none

/-- A class_id the governor looks after: 70 Disconnect control, 71 Limiter (R100). -/
def guardedClass (b : Bytes) : Bool := fieldBE b 0 2 == 70 || fieldBE b 0 2 == 71

/-- Attribute or method descriptors read so far: whether one names a guarded class, the class ids named, and the rest. -/
structure Named where
  guarded : Bool
  classes : List Nat
  rest : Bytes
  deriving DecidableEq, Repr

/-- Reads `n` method descriptors of 9 bytes. -/
def readMethods : Nat → Named → Option Named
  | 0, a => some a
  | n + 1, a =>
    if 9 ≤ a.rest.length then
      readMethods n ⟨a.guarded || guardedClass a.rest, a.classes ++ [fieldBE a.rest 0 2], a.rest.drop 9⟩
    else none

/-- Reads `n` attribute descriptors, each with its optional access selection. -/
def readAttributes : Nat → Named → Option Named
  | 0, a => some a
  | n + 1, a =>
    if 10 ≤ a.rest.length then
      let g := a.guarded || guardedClass a.rest
      let cs := a.classes ++ [fieldBE a.rest 0 2]
      let sel := byteAt a.rest 9
      let r := a.rest.drop 10
      if sel = 0 then readAttributes n ⟨g, cs, r⟩
      else if sel = 1 ∧ 1 ≤ r.length then
        match skipData 1 (r.drop 1) with
        | some r => readAttributes n ⟨g, cs, r⟩
        | none => none
      else none
    else none

/-- Reads `n` access-request specifications; only set and action requests name a guarded class (R100). -/
def readAccess : Nat → Named → Option Named
  | 0, a => some a
  | n + 1, a =>
    match a.rest with
    | [] => none
    | k :: r =>
      if 9 ≤ r.length ∧ 1 ≤ k.toNat ∧ k.toNat ≤ 5 then
        let acts := k = 2 ∨ k = 3 ∨ k = 5
        let g := a.guarded || (decide acts && guardedClass r)
        let cs := a.classes ++ [fieldBE r 0 2]
        let r := r.drop 9
        if k = 4 ∨ k = 5 then
          if 1 ≤ r.length then
            match skipData 1 (r.drop 1) with
            | some r => readAccess n ⟨g, cs, r⟩
            | none => none
          else none
        else readAccess n ⟨g, cs, r⟩
      else none

/-- The descriptors of an ACTION-, SET- or access-request read whole; none when it cannot be. -/
def readRequest (p : Bytes) : Option Named :=
  let tag := fieldBE p 0 1
  let kind := fieldBE p 1 1
  let body := p.drop 3
  let whole (a : Named) (r : Option Bytes) : Option Named := if r = some [] then some { a with rest := [] } else none
  if p.length < 3 then none
  else if tag = 0xC3 ∧ kind = 1 then
    match readMethods 1 ⟨false, [], body⟩ with
    | none => none
    | some a => match a.rest with
      | [] => none
      | o :: r => if o = 0 then whole a (some r) else if o = 1 then whole a (skipData 1 r) else none
  else if tag = 0xC3 ∧ kind = 3 then
    match readLen body with
    | none => none
    | some (n, r) => if n ≤ r.length then
        match readMethods n ⟨false, [], r⟩ with
        | none => none
        | some a => match readLen a.rest with
          | none => none
          | some (m, r) => whole a (skipData m r)
      else none
  else if tag = 0xC1 ∧ kind = 1 then
    match readAttributes 1 ⟨false, [], body⟩ with
    | none => none
    | some a => whole a (skipData 1 a.rest)
  else if tag = 0xC1 ∧ kind = 4 then
    match readLen body with
    | none => none
    | some (n, r) => if n ≤ r.length then
        match readAttributes n ⟨false, [], r⟩ with
        | none => none
        | some a => match readLen a.rest with
          | none => none
          | some (m, r) => whole a (skipData m r)
      else none
  else if tag = 0xD9 then
    match readOctets (p.drop 5) with
    | none => none
    | some (_, r) => match readLen r with
      | none => none
      | some (n, r) => if n ≤ r.length then
          match readAccess n ⟨false, [], r⟩ with
          | none => none
          | some a => match readLen a.rest with
            | none => none
            | some (m, r) => whole a (skipData m r)
        else none
  else none

/-- The release check: whether an unprotected APDU is disconnect-class (R100). -/
def disconnectClass (p : Bytes) : Bool :=
  let tag := fieldBE p 0 1
  let kind := fieldBE p 1 1
  if p.isEmpty || !(tag == 0xC1 || tag == 0xC3 || tag == 0xD9) then false
  else if 2 ≤ p.length && tag == 0xC3 && (kind == 4 || kind == 5 || kind == 6) then true
  else if 2 ≤ p.length && tag == 0xC1 && (kind == 2 || kind == 3 || kind == 5) then true
  else match readRequest p with
    | some a => a.guarded
    | none => true

/-- A request read whole that names class_id 70 alone (R235 check 8). -/
def namesClass70Alone (p : Bytes) : Bool :=
  match readRequest p with
  | some a => !a.classes.isEmpty && a.classes.all (· == 70)
  | none => false

/-- The point of a key slot that holds an EC key: selector 16 to 24 hold X then Y, private slots D, X, Y. -/
def slotPublic (cv : Curve) (k : KeySlot) : Bytes := (k.material.drop (k.material.length - 2 * curveLen cv)).take (2 * curveLen cv)

/-- A key slot that is filled and not faulty. -/
def ChannelKeys.slot (k : ChannelKeys) (sel : Nat) : Option KeySlot :=
  match k.slots.find? (fun p => p.1 == sel) with
  | some p => if p.2.faulty then none else some p.2
  | none => none

/-- The private scalar of an EC private slot. -/
def ChannelKeys.scalar (k : ChannelKeys) (cv : Curve) (sel : Nat) : Option Nat :=
  (k.slot sel).map fun s => fieldBE s.material 0 (curveLen cv)

/-- Selector of the head-end signing, agreement key of a suite. -/
def heSign (suite : Nat) : Nat := if suite = 2 then 1 else 0

def heAgree (suite : Nat) : Nat := if suite = 2 then 3 else 2

/-- The trust anchors of a curve, in slot order: X then Y (R192 table). -/
def anchors (cv : Curve) (k : ChannelKeys) : List Bytes :=
  (List.range 8).filterMap fun i => match k.slot (16 + i) with
    | some s => if s.material.length = 2 * curveLen cv then some s.material else none
    | none => none

/-- The extents of a certificate's fields within it (R119 CERTFIELD): signed portion, key, subject, signature. -/
structure CertFields where
  signed : Bytes
  key : Bytes
  subject : Bytes
  sig : Bytes
  deriving DecidableEq, Repr

/-- The meter's static agreement key out of its certificate: R193, R93 step 4. -/
def certKey (suite : Nat) (keys : ChannelKeys) (title : Bytes) (f : CertFields) : Except Fail Bytes :=
  let cv := suiteCurve suite
  match sec1Point cv f.key, derSig cv f.sig with
  | some pub, some sig =>
    if f.subject ≠ padTo 8 title then .error ⟨0x0306, 0, 0⟩
    else
      let dg := hash (curveHash cv) f.signed
      if (anchors cv keys).any (fun a => ecdsaVerify cv a dg sig) then .ok pub else .error ⟨0x0306, 0, 0⟩
  | _, _ => .error ⟨0x0306, 0, 0⟩

end Sys2Proof.Machine
end

