-- ==== Sys2Proof/Machine/Effects.lean ====
section
/-! DEFINITION. What the meanings of the jobs share: the record checks with the key cache (R141, R142), the success
status of a job that changes no record (R139), and the effect a record change stages (R64, R65, R150). -/

namespace Sys2Proof.Machine

/-- Ends a job with a failure. -/
def failE (e : JEntry) (f : Fail) (c : Channel) : Channel := failJob e.jidx f c

/-- A job whose draw gives no bytes: it waits with nothing changed, or, when the request is withheld, ends with SAFETY_HOLD that
names the noise-source mechanism (R181, R318). Firmware 3.2 asks no instance that is not instantiated: it waits for it. -/
def drawStop (e : JEntry) (x : RngStop) (c : Channel) : Channel :=
  if x = .withheld then failE e ⟨0x0A00, 0x06, 0⟩ (rngIrq 4 c) else c

/-- Ends a job with INVALID_FIELD at an entry offset. -/
def invalidField (e : JEntry) (off : Nat) (c : Channel) : Channel := failJob e.jidx ⟨0x0102, off, 0⟩ c

/-- The wrapped record and the proof of a job, as read. -/
def JEntry.wrapped (e : JEntry) : Bytes := e.data 16 224

def JEntry.proof (e : JEntry) : Bytes := e.data 24 256

/-- Steps 1 to 4 of R141 leave the record in the key cache: a hit is a use, a miss whose tag verifies enters it (R142). -/
def touchCache (d : Device) (e : JEntry) (c : Channel) : Channel :=
  let keep := bit e.sub.flags 2
  if (shardCheck c e.sub.meter).isSome || (headerCheck c.shard e.wrapped 0x01).isSome then c
  else match cacheFind c e.sub.meter with
    | some x => cachePut d x.record keep c
    | none => match unwrapBlock c.shard e.wrapped with
      | some b => cachePut d (MRec.ofBytes b) keep c
      | none => c

/-- Runs the record checks of R141, and the rest of a job when they pass. -/
def withRecord (d : Device) (e : JEntry) (f : RecCheck → Channel → Channel) (c : Channel) : Channel :=
  let r := recordCheck c e.sub e.wrapped e.proof
  let c := touchCache d e c
  match r with
  | .error x => failE e x c
  | .ok k => f k c

/-- Status and DETAIL of a job that read a record of a generation and did not change it (R139). -/
def readStatus (c : Channel) (gen : Nat) : Nat × Nat :=
  if gen + 4 ≤ c.shard.gen then (0x0001, gen % 65536) else (0, 0)

/-- Ends a job that changes nothing with output, under R139 when it read a record. -/
def finishRead (e : JEntry) (k : RecCheck) (result : Nat) (out : Bytes) (c : Channel) : Channel :=
  let s := readStatus c k.gen
  finishJob e.jidx s.1 s.2 result out.length (outWrite e.jidx e.sub out) c

/-- Ends a job that names no record with SUCCESS. -/
def finishPlain (e : JEntry) (result : Nat) (out : Bytes) (c : Channel) : Channel :=
  finishJob e.jidx 0 0 result out.length (outWrite e.jidx e.sub out) c

/-- An effect that changes nothing yet: SUCCESS with RESULT and output. -/
def plainEffect (e : JEntry) (status detail result : Nat) (out : Bytes) (c : Channel) : Effect :=
  { basisShard := c.shard, basisGov := c.gov, basisDed := c.ded, basisPair := c.pair, shard := c.shard, gov := c.gov
    cpl := { status := status, detail := detail, result := result, outBytes := out.length }
    writes := outWrite e.jidx e.sub out }

/-- Stages a commit that changes the shard, its role or its pair, with SUCCESS (R65). -/
def stageAct (e : JEntry) (result outBytes : Nat) (a : ShardAct) (writes : List HostWrite) (c : Channel) : Channel :=
  let x := plainEffect e 0 0 result [] c
  stageJob e.jidx { x with act := some a, cpl := { x.cpl with outBytes := outBytes }, writes := writes } c

/-- The proof write-back and the tree-image write of a leaf change (R150). -/
def pathWrites (c : Channel) (jidx proofAddr meter : Nat) (path : List Bytes) : List HostWrite :=
  [⟨.proof, jidx, proofAddr + 256, (path.take 8).flatten⟩,
   ⟨.treeNode, jidx, (c.shard.treeBase + 16 * groupOf meter) % 2 ^ 64, (path.getLastD []).take 16⟩]

/-- Adds to an effect the commit of a record changed to `new`, R158 done: wrap, leaf, path, writes, sources. -/
def recordEffect (ch : Ch) (d : Device) (e : JEntry) (oldLeaf : Bytes) (new : MRec) (x : Effect) (c : Channel) : Effect :=
  let new := { new with lastEpoch := (c.shard.epoch + 1) % 2 ^ 32 }
  let w := wrapBlock d.member ch x.shard 0x01 new.toBytes
  let iv := x.shard.wrapCtr
  let (sh, rolled) := countWrap x.shard
  let leaf := leafOf new w
  let path := proofPath e.sub.meter leaf e.proof
  { x with
    shard := sh
    leaf := some { meter := e.sub.meter, record := some new, wrapped := w, leaf := leaf
                   bndOld := boundaryOf e.sub.meter oldLeaf e.proof, bndNew := path.getLastD [], wrapIv := iv
                   account := x.leaf.bind (·.account) }
    items := x.items ++ if rolled then [NoteItem.generation ((c.shard.epoch + 1) % 2 ^ 64) sh.gen] else []
    rollRaised := x.rollRaised || rolled
    headroomLow := x.headroomLow || reserveLimit sh new - new.icOut ≤ 8192
    writes := [⟨.record, e.jidx, e.sub.recAddr, w⟩] ++ pathWrites c e.jidx e.sub.proofAddr e.sub.meter path ++ x.writes }

/-- The leaf of a record as checked. -/
def RecCheck.leaf (k : RecCheck) : Bytes := leafOf k.record k.wrapped

/-- A pending key moved into its slot (R111, R160). -/
def activatePending (r : MRec) : MRec :=
  let r' := { r with keyGen := (r.keyGen + 1) % 65536, pendingId := 0xFF, pendingKey := zeros 32 }
  if r.pendingId = 0 then
    { r' with guek := r.pendingKey, icOut := 0, ackOut := 0, ackGen := r.skipGen
              flags := setBit (setBit r.flags 2 true) 3 true }
  else { r' with gak := r.pendingKey }

/-- A current entry of the dedicated-key table by handle, for a meter (R88). -/
def dedFind (c : Channel) (handle meter : Nat) : Option Dedicated :=
  c.ded.find? fun x => x.live && x.entry == handle % 1024 && x.generation == handle / 1024 % 64 && x.meter == meter

/-- The table with an entry replaced. -/
def dedSet (l : List Dedicated) (x : Dedicated) : List Dedicated :=
  x :: l.filter fun y => y.entry != x.entry

/-- The handle of an entry. -/
def Dedicated.handle (x : Dedicated) : Nat := x.entry + 1024 * x.generation

/-- The entry a new dedicated key takes and its generation: the lowest entry not in use, or the least recently used
one; the generation advances at each reuse (R88). -/
def dedPlace (l : List Dedicated) : Nat × Nat :=
  match (List.range 1024).find? (fun i => !l.any fun x => x.live && x.entry == i) with
  | some i => match l.find? (fun x => x.entry == i) with
    | some x => (i, (x.generation + 1) % 64)
    | none => (i, 0)
  | none =>
    match l.find? (fun x => l.all fun y => x.used ≤ y.used) with
    | some x => (x.entry, (x.generation + 1) % 64)
    | none => (0, 0)

/-- Runs a job without a record against check 1 of R141. -/
def withShard (e : JEntry) (f : Channel → Channel) (c : Channel) : Channel :=
  if servesShard c then f c else failE e ⟨0x0205, 0, 0⟩ c

end Sys2Proof.Machine
end

