-- ==== Sys2Proof/Machine/RecipeOps.lean ====
section
/-! DEFINITION. Recipes: header and steps, how a phase runs, what the locating steps find, admission, and the durable
store of images (R113 to R129; the store and its rules serve settlement programs too, R206 to R212). -/

namespace Sys2Proof.Machine

/-- A recipe step (R118). -/
structure RStep where
  kind : Nat
  flags : Nat
  offset : Nat
  length : Nat
  aux : Nat
  lo : Nat
  hi : Nat
  deriving DecidableEq, Repr

/-- A recipe read from its image (R117). -/
structure Recipe where
  id : Nat
  version : Nat
  stepCount : Nat
  clearStart : Nat
  certStart : Nat
  jobs : Nat
  suites : Nat
  form : Nat
  minLen : Nat
  maxLen : Nat
  certLen : Nat
  kinds : Nat
  steps : List RStep
  deriving DecidableEq, Repr

/-- A step from its 16 bytes. -/
def RStep.ofBytes (b : Bytes) : RStep :=
  { kind := fieldLE b 0 1, flags := fieldLE b 1 1, offset := fieldLE b 2 2, length := fieldLE b 4 2
    aux := fieldLE b 6 2, lo := fieldLE b 8 4, hi := fieldLE b 12 4 }

/-- A recipe from its image. -/
def Recipe.ofBytes (b : Bytes) : Recipe :=
  { id := fieldLE b 6 2, version := fieldLE b 8 4, stepCount := fieldLE b 12 2, clearStart := fieldLE b 14 2
    certStart := fieldLE b 16 2, jobs := fieldLE b 18 1, suites := fieldLE b 19 1, form := fieldLE b 20 1
    minLen := fieldLE b 22 2, maxLen := fieldLE b 24 2, certLen := fieldLE b 26 2, kinds := fieldLE b 28 4
    steps := (List.range (fieldLE b 12 2)).map fun i => RStep.ofBytes (slice b (64 + 16 * i) 16) }

/-- FROM_END. -/
def RStep.fromEnd (s : RStep) : Bool := bit s.flags 0

/-- Where a step's extent starts in a region of `n` bytes. -/
def RStep.start (s : RStep) (n : Nat) : Nat := if s.fromEnd then n - s.offset else s.offset

/-- The bytes a step examines. -/
def RStep.extent (s : RStep) (region : Bytes) : Bytes := slice region (s.start region.length) s.length

/-- The encoding a LENFIELD step expects for `e`. -/
def lenField (len e : Nat) : Bytes :=
  if len = 1 then [byte e] else if len = 2 then [0x81, byte e] else [0x82] ++ beBytes 2 e

/-- Whether a step fails (R119). `place` is what the job says of its placeholder: PARAM bytes 62 to 63, and the length
it must have when the job fills one. -/
def RStep.fails (s : RStep) (region : Bytes) (place : Nat × Option Nat) : Bool :=
  let x := s.extent region
  match s.kind with
  | 0x01 => beNat x &&& s.hi != s.lo &&& s.hi
  | 0x02 => beNat x < s.lo || s.hi < beNat x
  | 0x03 => x != lenField s.length (region.length - s.aux)
  | 0x04 => x.any (· != 0)
  | 0x07 => region.length ≤ s.offset + s.aux
  | 0x0C => s.offset != place.1 || x.any (· != 0) || (match place.2 with
      | some n => s.length != n
      | none => false)
  | _ => false

/-- Runs a phase: every step, in order; the index of the first that fails, counted from `base` (R113, R114). -/
def runPhase (steps : List RStep) (base : Nat) (region : Bytes) (place : Nat × Option Nat) : Option Nat :=
  ((steps.map fun s => s.fails region place).findIdx? id).map (base + ·)

/-- The steps of the three phases. -/
def Recipe.frameSteps (r : Recipe) : List RStep := r.steps.take r.clearStart

def Recipe.clearSteps (r : Recipe) : List RStep := (r.steps.take r.certStart).drop r.clearStart

def Recipe.certSteps (r : Recipe) : List RStep := r.steps.drop r.certStart

/-- Cycles of a phase (R116). -/
def phaseCycles (steps : List RStep) : Nat :=
  16 + 4 * steps.length + (steps.map fun s => if s.kind = 0x04 then ceilDiv s.length 16 else 0).sum

/-- The first step of a kind with an AUX value in a list. -/
def findStep (steps : List RStep) (kind aux : Nat) : Option RStep := steps.find? fun s => s.kind == kind && s.aux == aux

/-- The bytes located by the first step of a kind (and AUX value where several exist). -/
def located (steps : List RStep) (kind : Nat) (aux : Option Nat) (region : Bytes) : Option Bytes :=
  (steps.find? fun s => s.kind == kind && (match aux with
    | some a => s.aux == a
    | none => true)).map fun s => s.extent region

/-- The CIPHERTEXT region. -/
def cipherRegion (steps : List RStep) (region : Bytes) : Bytes :=
  match steps.find? (fun s => s.kind == 0x07) with
  | some s => (region.drop s.offset).take (region.length - s.aux - s.offset)
  | none => []

/-- Whether a job fits a recipe's header (R115): the JOBS bit of its opcode, the suite, the region length, CERT, and for
an outbound job the form. -/
def Recipe.fits (r : Recipe) (jobBit suite len : Nat) (cert : Bool) (form : Option Nat) : Bool :=
  bit r.jobs jobBit && bit r.suites suite && r.minLen ≤ len && len ≤ r.maxLen && (cert == (r.certLen != 0)) &&
  (match form with
   | some f => f == r.form
   | none => true)

/-- The steps each phase allows, inbound or outbound (R119). -/
def kindAllowed (kind : Nat) (phase : Nat) (inbound : Bool) : Bool :=
  if 1 ≤ kind ∧ kind ≤ 4 then true
  else if 5 ≤ kind ∧ kind ≤ 0x0A then phase == 0 && inbound
  else if kind = 0x0B then phase == 2
  else if kind = 0x0C then phase == 0 && !inbound
  else false

/-- Whether a LENFIELD value lies in the band of its encoding. -/
def lenBand (len e : Nat) : Bool :=
  if len = 1 then e ≤ 127 else if len = 2 then 128 ≤ e && e ≤ 255 else 256 ≤ e && e ≤ 65535

/-- The field ranges of a step (R119, check 4). -/
def RStep.fieldsOk (s : RStep) (suites : Nat) : Bool :=
  s.flags ≤ 1 &&
  (match s.kind with
   | 0x01 => 1 ≤ s.length && s.length ≤ 4 && s.aux == 0
   | 0x02 => 1 ≤ s.length && s.length ≤ 4 && s.aux == 0
   | 0x03 => 1 ≤ s.length && s.length ≤ 3 && s.lo == 0 && s.hi == 0
   | 0x04 => 1 ≤ s.length && s.length ≤ 64 && s.aux == 0 && s.lo == 0 && s.hi == 0
   | 0x05 => s.length == 1 && s.aux == 0 && s.lo == 0 && s.hi == 0
   | 0x06 => s.length == 4 && s.aux == 0 && s.lo == 0 && s.hi == 0
   | 0x07 => s.length == 0 && !s.fromEnd && s.lo == 0 && s.hi == 0
   | 0x08 => s.length == 12 && s.fromEnd && s.offset == 12 && s.aux == 0 && s.lo == 0 && s.hi == 0
   | 0x09 => s.length == 0 && s.offset == 0 && s.aux == 0 && s.lo ≤ 4 && s.hi == 0
   | 0x0A => 1 ≤ s.length && s.aux ≤ 1 && s.lo == 0 && s.hi == 0 &&
      (suites == 2 || suites == 4) && (s.aux == 0 || s.length == (if suites = 2 then 64 else 96))
   | 0x0B => 1 ≤ s.length && s.length ≤ 4096 && s.aux ≤ 3 && s.lo == 0 && s.hi == 0
   | 0x0C => [16, 24, 32, 40].contains s.length && s.aux == 0 && s.lo == 0 && s.hi == 0
   | _ => false)

/-- Whether a step's extent lies inside a region of `n` bytes. -/
def RStep.inside (s : RStep) (n : Nat) : Bool :=
  if s.kind = 0x07 then s.offset + s.aux ≤ n
  else if s.kind = 0x09 then true
  else if s.fromEnd then s.offset ≤ n && s.length ≤ s.offset else s.offset + s.length ≤ n

/-- The phase of a step index. -/
def Recipe.phaseOf (r : Recipe) (i : Nat) : Nat := if i < r.clearStart then 0 else if i < r.certStart then 1 else 2

/-- The smallest and the largest region of a phase. -/
def Recipe.regionRange (r : Recipe) (phase : Nat) : Nat × Nat :=
  let cut := match r.frameSteps.find? (fun s => s.kind == 0x07) with
    | some s => s.offset + s.aux
    | none => 0
  if phase = 0 then (r.minLen, r.maxLen) else if phase = 1 then (r.minLen - cut, r.maxLen - cut) else (r.certLen, r.certLen)

/-- Check 4 on one step. -/
def Recipe.stepOk (r : Recipe) (i : Nat) (s : RStep) : Bool :=
  let rg := r.regionRange (r.phaseOf i)
  s.fieldsOk r.suites && kindAllowed s.kind (r.phaseOf i) (r.jobs == 1) && s.inside rg.1 &&
  (s.kind != 0x03 || (s.aux ≤ rg.1 && lenBand s.length (rg.1 - s.aux) && lenBand s.length (rg.2 - s.aux)))

/-- Check 1: shape. -/
def recipeShape (b : Bytes) : Bool :=
  let r := Recipe.ofBytes b
  b.length == 160 + 16 * r.stepCount && slice b 0 4 == [0x54, 0x52, 0x43, 0x50] && fieldLE b 4 2 == 1 &&
  r.id != 0xFFFF && 1 ≤ r.version && 1 ≤ r.stepCount && r.stepCount ≤ 1024 && r.clearStart ≤ r.certStart &&
  r.certStart ≤ r.stepCount && r.jobs < 32 && r.suites < 8 && r.form ≤ 6 && fieldLE b 21 1 == 0 && 1 ≤ r.minLen &&
  r.minLen ≤ r.maxLen && (r.certLen == 0 || (64 ≤ r.certLen && r.certLen ≤ 4096)) && slice b 48 16 == zeros 16

/-- How many steps of a list have a kind (and an AUX value). -/
def countKind (l : List RStep) (k : Nat) : Nat := (l.filter fun s => s.kind == k).length

def countAux (l : List RStep) (k a : Nat) : Nat := (l.filter fun s => s.kind == k && s.aux == a).length

/-- Whether two extents of the FRAME region at a length share a byte. -/
def overlap (a la b lb : Nat) : Bool := a < b + lb && b < a + la

/-- The place of the `n`-th step of a kind in a list, counted from 0. -/
def nthKind (l : List RStep) (k n : Nat) : Option Nat := ((l.zipIdx.filter fun p => p.1.kind == k)[n]?).map (·.2)

/-- The content key a form calls for (R121). -/
def formKey (form : Nat) : Nat := if form = 1 ∨ form = 3 then 1 else if form = 5 then 3 else if form = 6 then 4 else 0

/-- Whether the CIPHERTEXT region overlaps the extent of a step at a FRAME length. -/
def cipherOverlaps (ct s : RStep) (n : Nat) : Bool := overlap ct.offset (n - 12 - ct.offset) (s.start n) s.length

/-- The step at which an inbound recipe breaks R121, 0xFFFF for no one step; none when it does not. -/
def Recipe.inboundBad (r : Recipe) : Option Nat :=
  let f := r.frameSteps
  match [5, 6, 7, 8, 9].find? (fun k => countKind f k != 1) with
  | some k => some ((nthKind f k 1).getD 0xFFFF)
  | none =>
    match f.find? (fun s => s.kind == 7), f.find? (fun s => s.kind == 5), f.find? (fun s => s.kind == 6),
        f.find? (fun s => s.kind == 9) with
    | some ct, some sc, some ic, some ks =>
      if ct.aux ≠ 12 ∨ [r.minLen, r.maxLen].any (fun n => cipherOverlaps ct sc n || cipherOverlaps ct ic n) then nthKind f 7 0
      else if ks.lo ≠ formKey r.form then nthKind f 9 0
      else if countKind f 0x0A ≠ 0 ∧ ¬ (countKind f 0x0A = 2 ∧ countAux f 0x0A 0 = 1 ∧ countAux f 0x0A 1 = 1) then nthKind f 0x0A 0
      else none
    | _, _, _, _ => some 0xFFFF

/-- The step at which an outbound recipe breaks R121. -/
def Recipe.outboundBad (r : Recipe) : Option Nat :=
  if r.clearStart ≠ r.certStart then some r.clearStart
  else if 1 < countKind r.steps 0x0C then nthKind r.steps 0x0C 1
  else if bit r.jobs 4 ∧ countKind r.steps 0x0C = 0 then some 0xFFFF
  else none

/-- The set of kinds present, as KINDS holds it. -/
def kindsOf (l : List RStep) : Nat := (List.range 32).foldl (fun a k => if countKind l k = 0 then a else a + 2 ^ k) 0

/-- The CERT phase against R121. -/
def Recipe.certBad (r : Recipe) : Option Nat :=
  if (r.certLen ≠ 0) ≠ (r.certStart ≠ r.stepCount) then some 0xFFFF
  else if r.certLen = 0 then none
  else if ¬ ((List.range 4).all (fun a => countAux r.certSteps 0x0B a == 1) && countKind r.certSteps 0x0B == 4) then
    some (((nthKind r.certSteps 0x0B 4).map (· + r.certStart)).getD 0xFFFF)
  else if bit r.suites 0 then some 0xFFFF
  else none

/-- Check 5, the structure rules of R121: the step concerned, 0xFFFF for no one step; none when they hold. Kinds outside
the phases of R119 have met check 4. -/
def Recipe.structureBad (r : Recipe) : Option Nat :=
  if r.jobs = 0 ∨ (bit r.jobs 0 ∧ r.jobs ≠ 1) then some 0xFFFF
  else match (if r.jobs = 1 then r.inboundBad else r.outboundBad) with
    | some i => some i
    | none => match r.certBad with
      | some i => some i
      | none => if r.kinds ≠ kindsOf r.steps then some 0xFFFF else none

/-- A failed admission check: its number and how the job completes. -/
structure Check where
  number : Nat
  fail : Fail
  deriving DecidableEq, Repr

/-- INVALID_FIELD of an admission check. -/
def checkField (n step : Nat) : Check := ⟨n, ⟨0x0102, 32, n + 65536 * step⟩⟩

/-- The ECDSA P-384 check of an image: signature over everything before its last 96 bytes. -/
def imageSigned (keys : ChannelKeys) (b : Bytes) : Bool :=
  match keys.slot 24 with
  | some k => ecdsaVerify .p384 (k.material.take 96) (sha384 (b.take (b.length - 96))) (b.drop (b.length - 96))
  | none => false

/-- Admission checks 1 to 5 (R120). -/
def recipeAdmit (keys : ChannelKeys) (b : Bytes) : Option Check :=
  let r := Recipe.ofBytes b
  if !recipeShape b then some (checkField 1 0xFFFF)
  else if !imageSigned keys b then some ⟨2, ⟨0x0306, 0, 0⟩⟩
  else match (List.range 32).find? (fun k => bit r.kinds k && !(1 ≤ k && k ≤ 0x0C)) with
    | some k => some ⟨3, ⟨0x0107, 0x0500 + k, 0⟩⟩
    | none =>
      match r.steps.zipIdx.find? (fun p => !r.stepOk p.2 p.1) with
      | some p => some (checkField 4 p.2)
      | none => r.structureBad.map (checkField 5)

/-- Whether an entry still binds an image that drains. -/
def boundTo (es : List JEntry) (takes : Sub → Option Nat) (i : Image) : Bool :=
  es.any fun e => e.state == .claimed && takes e.sub == some i.id && i.since < e.serial && (match i.till with
    | some t => e.serial ≤ t
    | none => true)

/-- The recipe a submission names, if its opcode takes one. -/
def recipeOf (s : Sub) : Option Nat := if takesRecipe s.opcode then some s.recipe else none

/-- A program image that a claimed settlement job may be bound to; which program it names stands in its wrapped account
(R236, R245). -/
def settleBound (es : List JEntry) (i : Image) : Bool :=
  es.any fun e => e.state == .claimed && 0x0601 ≤ e.sub.opcode && e.sub.opcode ≤ 0x0604 && i.since < e.serial && (match i.till with
    | some t => e.serial ≤ t
    | none => true)

/-- An image is replaced or withdrawn: it drains while a claimed job is bound to it (R125). -/
def withdraw (bound : Image → Bool) (a : ImageArea) (id serial : Nat) : ImageArea :=
  let old := (a.loaded.filter fun i => i.id == id).map fun i => { i with till := some serial }
  { a with loaded := a.loaded.filter fun i => i.id != id, draining := a.draining ++ old.filter bound }

/-- A load admitted: the store record written in full, then the image in force for later claims; none when the store has no room
(R128, R365). -/
def admitImage (st : StoreArea) (bound : Image → Bool) (a : ImageArea) (n : NvBank) (id version serial : Nat) (b : Bytes) :
    Option (ImageArea × NvBank) :=
  let r : StoreRec := { removal := false, id := id, version := version, seq := storeSeq (storeScan st n), digest := sha384 b, image := b }
  (storeWrite st r (st.sectors + 1) n).map fun n =>
    let a := withdraw bound a id serial
    ({ a with loaded := a.loaded ++ [{ id := id, version := version, bytes := b, digest := sha384 b, since := serial }] }, n)

/-- A removal: its record written to the store, then the image withdrawn (R126). -/
def removeImage (st : StoreArea) (bound : Image → Bool) (a : ImageArea) (n : NvBank) (id serial : Nat) : Option (ImageArea × NvBank) :=
  let r : StoreRec := { removal := true, id := id, version := 0, seq := storeSeq (storeScan st n), digest := zeros 48, image := [] }
  (storeWrite st r (st.sectors + 1) n).map fun n => (withdraw bound a id serial, n)

/-- Bytes of the loaded images of an area. -/
def loadedBytes (a : ImageArea) : Nat := (a.loaded.map fun i => i.bytes.length).sum

/-- How a load or a removal ends for which the store has no room: LENGTH, as for lack of space (R365). -/
def storeFull : Fail := ⟨0x0105, 48, 0⟩

/-- The recipe a job is bound to. -/
def jobRecipe (c : Channel) (e : JEntry) : Option Recipe :=
  (c.recipes.find e.sub.recipe e.serial).map fun i => Recipe.ofBytes i.bytes

end Sys2Proof.Machine
end

