-- ==== Sys2Proof/Machine/FrameRows.lean ====
section
/-! DEFINITION. The frame unit driven through its registers (R113, R116, R119, R131). -/

namespace Sys2Proof.Machine

/-- FRAME_UNIT_GO: a phase starts; with no steps it completes at once. -/
def frameGo (f : FrameUnit) : FrameUnit :=
  if f.busy then f
  else if f.count = 0 then { f with fail := false, cycles := 16 }
  else { f with busy := true }

/-- Whether a step fails in the unit, which knows the frame but not the job's PARAM. -/
def RStep.unitFails (s : RStep) (region : Bytes) : Bool := s.fails region (s.offset, none)

/-- The word of the location block a step sets, and its value. -/
def RStep.location (s : RStep) (n : Nat) : Option (Nat × Nat) :=
  let at' := s.start n % 65536 + 65536 * s.length
  match s.kind with
  | 0x05 => some (0, at')
  | 0x06 => some (1, at')
  | 0x07 => some (2, s.offset + 65536 * ((n - s.aux - s.offset) % 65536))
  | 0x08 => some (3, at')
  | 0x0A => some (4 + s.aux % 2, at')
  | 0x0B => some (6 + s.aux % 4, at')
  | 0x0C => some (10, at')
  | 0x09 => some (11, s.lo % 256)
  | _ => none

/-- The 64 bytes of the location block. -/
def locationBlock (steps : List RStep) (n : Nat) : Bytes :=
  let found := steps.filterMap fun s => s.location n
  ((List.range 16).map fun i => match found.find? (fun p => p.1 == i) with
    | some p => leBytes 4 p.2
    | none => ones 4).flatten

/-- The unit's result registers after a phase. -/
def frameResult (first : Option Nat) (cycles : Nat) (c : Channel) : Channel :=
  raiseCause 4 { c with fu := { c.fu with busy := false, first := first.getD c.fu.first, fail := first.isSome, cycles := cycles % 65536 } }

/-- FRAME_UNIT_PHASE_DONE: reads steps, descriptor and region, runs every step, writes the location block. DESIGN CHOICE: with PHASE 0 the
pair is CERT when some step is a CERTFIELD, else FRAME; a refused or uncorrectable access sets FAIL with FIRST 0, and CYCLES 16 when it
meets the step list (log 145). -/
def framePhase (ch : Ch) (d : Device) (c : Channel) : Channel :=
  if !c.fu.busy then c
  else match engineRead ch d 2 c.fu.steps (16 * c.fu.count) c with
    | (none, c) => frameResult (some 0) 16 c
    | (some sb, c) =>
      let steps := (chunks 16 sb).map RStep.ofBytes
      let cycles := phaseCycles steps
      let pair := if c.fu.phase then 1 else if steps.any (fun s => s.kind == 0x0B) then 2 else 0
      match engineRead ch d 2 (c.fu.regions + 8 * pair) 8 c with
      | (none, c) => frameResult (some 0) cycles c
      | (some db, c) =>
        match engineRead ch d 2 (fieldLE db 0 4) (fieldLE db 4 4) c with
        | (none, c) => frameResult (some 0) cycles c
        | (some region, c) =>
          match engineWrite ch d 2 c.fu.locs (locationBlock steps region.length) c with
          | (false, c) => frameResult (some 0) cycles c
          | (true, c) => frameResult ((steps.map fun s => s.unitFails region).findIdx? id) cycles c

/-- FRAME_UNIT_GO. -/
def execFrameUnitGo (ch : Ch) (s : State) : Host.Outcome State Fault Refusal :=
  .next (onChan ch (fun _ _ c => { c with fu := frameGo c.fu }) s)

/-- FRAME_UNIT_PHASE_DONE. -/
def execFrameUnitPhaseDone (ch : Ch) (s : State) : Host.Outcome State Fault Refusal :=
  .next (onChanS ch (fun ch d c => framePhase ch d c) s)

end Sys2Proof.Machine
end

