-- ==== Sys2Proof/Machine/HashEngine.lean ====
section
/-! DEFINITION. The hash engine's registers, datapaths and contexts (R194). -/

namespace Sys2Proof.Machine

/-- The hash an ALG field names. -/
def algOf (n : Nat) : HashAlg := if n = 1 then .sha256 else if n = 2 then .sha384 else .sha512

/-- A write of HS_CTRL's fields, its W1S bits apart. -/
def hashCtrl (v : Word) (h : HashEngine) : HashEngine := { h with alg := bits v.toNat 1 0, hmac := v.getLsbD 2 }

/-- One hash context changed. -/
def onHashCtx (i : Nat) (f : HashCtx → HashCtx) (h : HashEngine) : HashEngine :=
  let k : Fin 4 := ⟨i % 4, Nat.mod_lt i (by decide)⟩
  { h with ctxs := h.ctxs.set k.val (f (h.ctxs.get k)) k.isLt }

/-- A hash context. -/
def HashEngine.ctx (h : HashEngine) (i : Nat) : HashCtx := h.ctxs.get ⟨i % 4, Nat.mod_lt i (by decide)⟩

/-- HASH_INIT: a new message in the selected context; the reserved ALG 0 starts none. -/
def hashInitStep (v : Word) (h : HashEngine) : HashEngine :=
  let h := hashCtrl v h
  if h.alg = 0 then h
  else
    let key := if h.hmac then h.key.take (hashBlock (algOf h.alg)) else []
    onHashCtx h.sel (fun _ => { alg := h.alg, hmac := h.hmac, key := key, opened := true }) h

/-- An operation joins its datapath: the tree lane for context 0 under SHA-256, else the main one. -/
def hashQueue (o : HashOp) (h : HashEngine) : HashEngine :=
  if o.ctx = 0 ∧ (h.ctx 0).alg = 1 then { h with lane := h.lane ++ [o] } else { h with main := h.main ++ [o] }

/-- The digest of a context's message. -/
def HashCtx.finish (x : HashCtx) : Bytes := if x.hmac then Sys2Proof.Machine.hmac (algOf x.alg) x.key x.message else hash (algOf x.alg) x.message

/-- Whether a FEED may read its extent: data SRAM or code SRAM (HS_SRC). -/
def hashSource (a n : Nat) : Bool := inData a n || a + n ≤ 0x80000

/-- One operation runs in its context (R194). -/
def hashRun (ch : Ch) (d : Device) (o : HashOp) (c : Channel) : Channel :=
  let fail (c : Channel) : Channel := { c with hash := { c.hash with error := true } }
  if !(c.hash.ctx o.ctx).opened then fail c
  else if o.final then
    { c with hash := { (onHashCtx o.ctx (fun x => { x with digest := x.finish, opened := false, message := [] }) c.hash) with done := true } }
  else if !hashSource o.src o.len then fail c
  else match engineRead ch d 5 o.src o.len c with
    | (none, c) => fail c
    | (some b, c) => { c with hash := { (onHashCtx o.ctx (fun x => { x with message := x.message ++ b }) c.hash) with done := true } }

/-- HASH_OP_DONE: the oldest operation of a datapath finishes. -/
def hashOpDone (ch : Ch) (lane : Bool) (d : Device) (c : Channel) : Channel :=
  match if lane then c.hash.lane else c.hash.main with
  | [] => c
  | o :: rest =>
    hashRun ch d o { c with hash := if lane then { c.hash with lane := rest } else { c.hash with main := rest } }

/-- HASH_INIT. -/
def execHashInit (ch : Ch) (value : Word) (s : State) : Host.Outcome State Fault Refusal :=
  .next (onChan ch (fun _ _ c => { c with hash := hashInitStep value c.hash }) s)

/-- HASH_FEED. -/
def execHashFeed (ch : Ch) (value : Word) (s : State) : Host.Outcome State Fault Refusal :=
  .next (onChan ch (fun _ _ c =>
    let h := hashCtrl value c.hash
    { c with hash := hashQueue { ctx := h.sel, final := false, src := h.src, len := h.len } h }) s)

/-- HASH_FINAL. -/
def execHashFinal (ch : Ch) (value : Word) (s : State) : Host.Outcome State Fault Refusal :=
  .next (onChan ch (fun _ _ c =>
    let h := hashCtrl value c.hash
    { c with hash := hashQueue { ctx := h.sel, final := true } h }) s)

/-- HASH_CLEAR: every context and HS_KEY zeroed. -/
def execHashClear (ch : Ch) (s : State) : Host.Outcome State Fault Refusal :=
  .next (onChan ch (fun _ _ c =>
    { c with hash := { c.hash with key := zeros 128, ctxs := Vector.replicate 4 {}, lane := [], main := [] } }) s)

/-- HASH_OP_DONE. -/
def execHashOpDone (ch : Ch) (lane : Bool) (s : State) : Host.Outcome State Fault Refusal :=
  .next (onChanS ch (fun ch d c => hashOpDone ch lane d c) s)

end Sys2Proof.Machine
end

