-- ==== Sys2Proof/Machine/Rng.lean ====
section
/-! DEFINITION. The noise source, its health tests and calibration, and the DRBG instances of a channel (R307 to R324). -/

namespace Sys2Proof.Machine

/-- DEV_LIFECYCLE is FACTORY (R321). -/
def Device.factory (d : Device) : Bool := d.lifecycle == 1

/-- The source enters FAILED (R311). -/
def sourceFailed (ch : Ch) (d : Device) (c : Channel) : Channel :=
  reportSafety ch d 0x06 0xFF (rngIrq 1 { c with rng := { c.rng with source := .failed } })

/-- One raw block: the digest of 128 sampled bytes (R308). -/
def conditionedBlock (ch : Ch) (c : Channel) : Bytes × Channel :=
  let (b, c) := drawBytes ch 128 c
  (sha256 b, c)

/-- An instance for which calibration yields: at the limit of R317, or under a RESEED or INSTANTIATE (R319). -/
def Drbg.urgent (g : Drbg) : Bool :=
  g.wants != 0 && (drbgLimit ≤ g.count || g.current.any fun r => r.cmd == 1 || r.cmd == 3)

/-- Whether the source delivers blocks now. -/
def Rng.delivers (r : Rng) : Bool :=
  r.source == .running || (r.source == .calibrating && r.inst.toList.any (·.urgent))

/-- CONDITIONING_BLOCK (R308): a block goes to the lowest instance that asked for one; none goes to two. The source stands still while
the channel is ASLEEP (R313). -/
def conditioningStep (ch : Ch) (c : Channel) : Channel :=
  if !c.rng.delivers || c.state == .asleep then c
  else
    let (b, c) := conditionedBlock ch c
    let c := { c with rng := { c.rng with run := 0 } }
    match (List.finRange 8).find? (fun i => 0 < (c.rng.inst.get i).wants) with
    | none => c
    | some i => onInst i (fun g => { g with wants := g.wants - 1, blocks := g.blocks ++ [b] }) c

/-- What every alarm leaves: RG_HT_COUNT, RG_HT_LAST, SOFT and a crumb (R310). -/
def alarmMarks (ch : Ch) (rct apt : Bool) (value : Nat) (d : Device) (c : Channel) : Channel :=
  let c := rngIrq 0 { c with rng := { c.rng with
    alarms := sat16 (c.rng.alarms + 1), last := b2n rct + 2 * b2n apt + 256 * (value % 16) } }
  fileCrumb ch d 0x1800 (if rct then 1 else 2) (value % 16) c.rng.alarms 0 c

/-- HEALTH_ALARM (R310, R311): which tests reached their cutoff, and the sample value. -/
def alarmStep (ch : Ch) (rct apt : Bool) (value : Nat) (d : Device) (c : Channel) : Channel :=
  if (!rct && !apt) || c.rng.source = .off || c.rng.source = .failed || c.state = .asleep then c
  else
    let run := min (c.rng.run + 1) 4
    let c := alarmMarks ch rct apt value d { c with rng := { c.rng with run := run } }
    if run = 4 ∧ c.rng.source ≠ .proofing then sourceFailed ch d c else c

/-- A request ends with its RESULT; the next queued one starts. -/
def endRequest (i : Fin 8) (r : RngReq) (result : Nat) (c : Channel) : Channel :=
  let c := onInst i (fun g => { g with result := result, current := g.queue.head?, queue := g.queue.drop 1 }) c
  let c := onInst i (fun g => { g with
    wants := if g.current.any (fun r => r.cmd == 1 || r.cmd == 3) then 2 - g.blocks.length else g.wants }) c
  let c := if r.irq then rngIrq 2 c else c
  if result = 1 then rngIrq 4 c else c

/-- A command written to RG_I_CMD (R316): it starts, queues behind others, or is refused. -/
def rngCommand (i : Fin 8) (r : RngReq) (c : Channel) : Channel :=
  let g := c.rng.inst.get i
  if r.cmd = 0 ∨ 4 < r.cmd ∨ (g.current.isSome ∧ 4 ≤ g.queue.length) then onInst i (fun g => { g with result := 5 }) c
  else if g.current.isSome then onInst i (fun g => { g with queue := g.queue ++ [r] }) c
  else if r.cmd = 4 then
    endRequest i r 0 (onInst i (fun g => { g with state := 0, key := [], v := [], count := 0, reseeds := 0, wants := 0, blocks := [] }) c)
  else onInst i (fun g => { g with
    current := some r
    wants := if r.cmd = 1 ∨ r.cmd = 3 then 2 - g.blocks.length else g.wants }) c

/-- The request a write by the Inner supervisor, or by the Outer supervisor to instance 4, makes (R322). -/
def rngWrite (i : Fin 8) (cmd : Nat) (irq outer : Bool) (c : Channel) : Channel :=
  if outer ∧ i.val ≠ 4 then c
  else
    let g := c.rng.inst.get i
    rngCommand i { cmd := cmd, irq := irq, dst := g.dst, len := g.len, inner := !outer, sup := true } c

/-- The first address of an extent that a context may not write. -/
def rngBad (t : AccessTable) (r : RngReq) : Option Nat :=
  (List.range (r.len / 64 + 2)).findSome? fun k =>
    let x := if k = 0 then r.dst else (r.dst / 64 + k) * 64
    if x < r.dst + r.len && !atAllows t (contextOf r.inner r.sup) .write x then some x else none

/-- A GENERATE at the front of an instance is served. -/
def generateStep (i : Fin 8) (r : RngReq) (c : Channel) : Channel :=
  if r.len = 0 ∨ 65536 < r.len then endRequest i r 3 c
  else if !inData r.dst r.len then endRequest i r 4 c
  else match rngBad c.table r with
    | some x => endRequest i r 4 { c with table := atRefuse c.table 6 r.inner r.sup .write (min 64 (r.dst + r.len - x)) x }
    | none => match drbgDraw i r.len c with
      | .ok (b, c) => endRequest i r 0 (c.store r.dst b)
      | .error .waits => c
      | .error _ => endRequest i r 1 c

/-- DRBG_REQUEST_DONE (R316 to R318): the request in progress ends, or goes on waiting for blocks. -/
def requestDone (ch : Ch) (i : Fin 8) (d : Device) (c : Channel) : Channel :=
  let g := c.rng.inst.get i
  match g.current with
  | none => c
  | some r =>
    if g.state = 3 ∧ r.cmd ≠ 4 then endRequest i r 1 c
    else if r.cmd = 4 then
      endRequest i r 0 (onInst i (fun g => { g with state := 0, key := [], v := [], count := 0, reseeds := 0, wants := 0, blocks := [] }) c)
    else if r.cmd = 1 then
      if g.blocks.length < 2 then (if c.rng.source = .failed then endRequest i r 1 c else c)
      else endRequest i r 0 (onInst i (fun g => g.instantiate ch.val d i.val g.blocks) c)
    else if g.state = 0 then reportSafety ch d 0x0B 0 (endRequest i r 2 c)
    else if r.cmd = 3 then
      if g.blocks.length < 2 then (if c.rng.source = .failed then endRequest i r 1 c else c)
      else endRequest i r 0 (onInst i Drbg.reseed c)
    else generateStep i r c

/-- The health tests of R309 on one sample of the test path; alarms restart block and window. -/
def testSample (ch : Ch) (d : Device) (v : Nat) (c : Channel) : Channel :=
  let r := c.rng
  let run := if r.rctRun ≠ 0 ∧ r.rctVal = v then r.rctRun + 1 else 1
  let ref := if r.aptPos = 0 then v else r.aptRef
  let cnt := if r.aptPos = 0 then 1 else if v = r.aptRef then r.aptCnt + 1 else r.aptCnt
  let rct := decide (21 ≤ run)
  let apt := decide (201 ≤ cnt)
  let c := { c with rng := { r with rctVal := v, rctRun := run, aptRef := ref, aptCnt := cnt, aptPos := (r.aptPos + 1) % 512 } }
  if rct || apt then
    alarmStep ch rct apt v d { c with rng := { c.rng with rctRun := 0, aptPos := 0, aptCnt := 0, samples := [] } }
  else
    let s := c.rng.samples ++ [v]
    if s.length < 256 then { c with rng := { c.rng with samples := s } }
    else
      let block := (List.range 128).map fun k => byte (s.getD (2 * k) 0 + 16 * s.getD (2 * k + 1) 0)
      { c with rng := { c.rng with samples := [], run := 0, tpDigest := sha256 block } }

/-- RG_TP_DATA_WRITE (R321): eight samples, the earliest in bits [3:0]. -/
def tpData (ch : Ch) (d : Device) (w : Word) (c : Channel) : Channel :=
  if d.factory && c.rng.tpEn then
    (List.range 8).foldl (fun c k => testSample ch d (bits w.toNat (4 * k + 3) (4 * k)) c) c
  else c

/-- RG_TEST_WRITE (R321). -/
def rngTest (d : Device) (w : Word) (c : Channel) : Channel :=
  if !d.factory then c
  else
    let on := w.getLsbD 0
    let r : Rng := { c.rng with tpEn := on, rawRd := w.getLsbD 1 }
    let r := if r.source = .failed then r
      else if on then (if c.rng.tpEn then r else { r with source := .test, samples := [], rctRun := 0, aptPos := 0, aptCnt := 0 })
      else if c.rng.tpEn then { r with source := .proofing } else r
    { c with rng := r }

/-- A read of RG_RAW (R321): eight raw samples in FACTORY with RAW_RD set and TP_EN clear; otherwise 0. -/
def rawRead (ch : Ch) (d : Device) (c : Channel) : Channel :=
  if d.factory && c.rng.rawRd && !c.rng.tpEn then
    let (b, c) := drawBytes ch 4 c
    { c with rng := { c.rng with raw := BitVec.ofNat 32 (leNat b) } }
  else { c with rng := { c.rng with raw := 0 } }

/-- Two blocks for each of instances 0 to 4, in order (R312, R315). -/
def instantiateFive (ch : Ch) (d : Device) (c : Channel) : Channel :=
  (List.finRange 5).foldl (fun c k =>
    let i : Fin 8 := ⟨k.val, by omega⟩
    let (a, c) := conditionedBlock ch c
    let (b, c) := conditionedBlock ch c
    onInst i (fun g => g.instantiate ch.val d i.val [a, b]) c) c

/-- Proofing on a channel whose source is to be proved (R312, R313): the boot step, or its repeat on waking and after the test path. An
alarm brings its sample value and the test that met it. The repeat keeps the instances that still stand, and makes anew those that the
engines' power-down took. -/
def proofingStep (ch : Ch) (alarm : Option (Fin 16)) (rct : Bool) (d : Device) (c : Channel) : Channel :=
  let booting := decide (c.state = .booting ∧ c.bootStep = 3)
  if !booting && c.rng.source != .proofing then c
  else match alarm with
    | some v =>
      let n := (if booting then c.rng.tries else c.rng.again) + 1
      let c := alarmMarks ch rct (!rct) v.val d { c with rng := { c.rng with
        source := .proofing, tries := if booting then n else c.rng.tries, again := if booting then c.rng.again else n, proofOk := false } }
      let c := fileCrumb ch d 0x1801 n (if rct then 1 else 2) 0 0 c
      if 3 ≤ n then sourceFailed ch d c else c
    | none =>
      let c := { c with rng := { c.rng with
        source := .running, proofOk := true, tries := if booting then c.rng.tries + 1 else c.rng.tries, again := 0 } }
      let c := if booting || (c.rng.inst.get 0).state == 0 then instantiateFive ch d c else c
      if booting then { c with bootStep := 4 } else c

/-- CONDITIONING_BLOCK. -/
def execConditioningBlock (ch : Ch) (s : State) : Host.Outcome State Fault Refusal :=
  .next (onChan ch (fun ch _ c => conditioningStep ch c) s)

/-- HEALTH_ALARM. -/
def execHealthAlarm (ch : Ch) (rct apt : Bool) (value : Nat) (s : State) : Host.Outcome State Fault Refusal :=
  .next (onChanS ch (fun ch d c => alarmStep ch rct apt value d c) s)

/-- INSTANTIATE. -/
def execInstantiate (ch : Ch) (inst : Fin 8) (irq outer : Bool) (s : State) : Host.Outcome State Fault Refusal :=
  .next (onChan ch (fun _ _ c => rngWrite inst 1 irq outer c) s)

/-- GENERATE: destination and length are RG_I_DST and RG_I_LEN at the write. -/
def execGenerate (ch : Ch) (inst : Fin 8) (irq outer : Bool) (s : State) : Host.Outcome State Fault Refusal :=
  .next (onChan ch (fun _ _ c => rngWrite inst 2 irq outer c) s)

/-- RESEED. -/
def execReseed (ch : Ch) (inst : Fin 8) (irq outer : Bool) (s : State) : Host.Outcome State Fault Refusal :=
  .next (onChan ch (fun _ _ c => rngWrite inst 3 irq outer c) s)

/-- UNINSTANTIATE. -/
def execUninstantiate (ch : Ch) (inst : Fin 8) (irq outer : Bool) (s : State) : Host.Outcome State Fault Refusal :=
  .next (onChan ch (fun _ _ c => rngWrite inst 4 irq outer c) s)

/-- DRBG_REQUEST_DONE. -/
def execDrbgRequestDone (ch : Ch) (inst : Fin 8) (s : State) : Host.Outcome State Fault Refusal :=
  .next (onChanS ch (fun ch d c => requestDone ch inst d c) s)

/-- DRBG_RESEED_DUE (R317): two blocks are asked for at a count of 2^20. -/
def execDrbgReseedDue (ch : Ch) (inst : Fin 8) (s : State) : Host.Outcome State Fault Refusal :=
  .next (onChan ch (fun _ _ c => onInst inst (fun g =>
    if g.state = 1 ∧ 2 ^ 20 ≤ g.count then { g with state := 2, wants := 2 - g.blocks.length } else g) c) s)

/-- DRBG_RESEED_APPLY (R317): at a request boundary, once both blocks have arrived. -/
def execDrbgReseedApply (ch : Ch) (inst : Fin 8) (s : State) : Host.Outcome State Fault Refusal :=
  .next (onChan ch (fun _ _ c => onInst inst (fun g =>
    if g.state = 2 ∧ 2 ≤ g.blocks.length ∧ (g.current.isNone ∨ drbgLimit ≤ g.count) then g.reseed else g) c) s)

/-- DRBG_INSTANCE_ERROR (R318). -/
def execDrbgInstanceError (ch : Ch) (inst : Fin 8) (s : State) : Host.Outcome State Fault Refusal :=
  .next (onChanS ch (fun ch d c => reportSafety ch d 0x06 inst.val (onInst inst (fun g => { g with state := 3 }) c)) s)

/-- CALIBRATION_START (R319): every 600 s while the channel is awake. -/
def execCalibrationStart (ch : Ch) (s : State) : Host.Outcome State Fault Refusal :=
  .next (onChan ch (fun _ => inTurn .calibration fun d c =>
    let due := match c.rng.calTick with
      | none => true
      | some t => decide (t + 600000 ≤ d.tick)
    if due && c.rng.source == .running && c.state != .asleep then { c with rng := { c.rng with source := .calibrating } } else c) s)

/-- CALIBRATION_DONE: the oscillators in range, or a fault found (R319). -/
def execCalibrationDone (ch : Ch) (fault : Bool) (s : State) : Host.Outcome State Fault Refusal :=
  .next (onChanS ch (fun ch d c =>
    if c.rng.source ≠ .calibrating ∨ c.state = .asleep then c
    else if fault then sourceFailed ch d c
    else rngIrq 3 { c with rng := { c.rng with source := .running, calTick := some d.tick } }) s)

/-- RG_TEST_WRITE. -/
def execRgTestWrite (ch : Ch) (value : Word) (s : State) : Host.Outcome State Fault Refusal :=
  .next (onChan ch (fun _ d c => rngTest d value c) s)

/-- RG_TP_DATA_WRITE. -/
def execRgTpDataWrite (ch : Ch) (value : Word) (s : State) : Host.Outcome State Fault Refusal :=
  .next (onChanS ch (fun ch d c => tpData ch d value c) s)

/-- RG_RAW_READ. -/
def execRgRawRead (ch : Ch) (s : State) : Host.Outcome State Fault Refusal := .next (onChan ch rawRead s)

/-- PROOFING: the sample value of an alarm within the 1,024 samples, and whether it was the repetition count test's. -/
def execProofing (ch : Ch) (alarm : Option (Fin 16)) (rct : Bool) (s : State) : Host.Outcome State Fault Refusal :=
  .next (onChanS ch (fun ch d c => proofingStep ch alarm rct d c) s)

end Sys2Proof.Machine
end

