-- ==== Sys2Proof/Machine/Signatures.lean ====
section
/-! DEFINITION. The sign and verify jobs of spec 07: SIG_VERIFY, RSA_VERIFY, RSA_SIGN, ATTEST, PUBKEY_EXPORT (R196 to
R201), and the RSA arithmetic they share with the public-key engine. -/

namespace Sys2Proof.Machine

/-- Least and greatest public exponent (R170). -/
def rsaExponentOk (e : Nat) : Bool := e % 2 == 1 && 3 ≤ e && e < 2 ^ 17

/-- RANGE of an RSA modulus and exponent (R178). -/
def rsaKeyRange (n e k : Nat) : Bool := n % 2 == 1 && 2 ^ (8 * (k - 1)) ≤ n && rsaExponentOk e

/-- A field of an RSA private key block by its offset and length. -/
def rsaField (b : Bytes) (off len : Nat) : Nat := fieldBE b off len

/-- Whether an RSA private key block passes the load check of R173. -/
def rsaBlockOk (k : Nat) (b : Bytes) : Bool :=
  let n := rsaField b 16 k
  rsaKeyRange n (rsaField b 12 4) k && n == rsaField b (16 + k) (k / 2) * rsaField b (16 + k + k / 2) (k / 2)

/-- Whether an EC private key block, or a slot's material, passes the check of R173: d in range, and d·G the stored point. -/
def ecBlockOk (cv : Curve) (b : Bytes) : Bool :=
  let l := curveLen cv
  let d := fieldBE b 0 l
  1 ≤ d && d < curveN cv && eccPublic cv d == slice b l (2 * l)

/-- The private operation in CRT form, unchecked. -/
def rsaCrt (k : Nat) (b : Bytes) (m : Nat) : Nat :=
  let h := k / 2
  let p := rsaField b (16 + k) h
  let q := rsaField b (16 + k + h) h
  let s1 := powMod (8 * h) m (rsaField b (16 + k + 2 * h) h) p
  let s2 := powMod (8 * h) m (rsaField b (16 + k + 3 * h) h) q
  s2 + q * (rsaField b (16 + k + 4 * h) h * subMod p s1 s2 % p)

/-- The private operation with its result check: none when S^e differs from M (R183). -/
def rsaPrivateChecked (k : Nat) (b : Bytes) (m : Nat) : Option Bytes :=
  let s := rsaCrt k b m
  let n := rsaField b 16 k
  if powMod 17 s (rsaField b 12 4) n = m % n then some (beBytes k s) else none

/-- The RSA byte length of a slot's key block, by the block's length. -/
def rsaSlotLen (b : Bytes) : Nat := if b.length = 1360 then 384 else 256

/-- Whether a private key slot's material passes the check of R173, by selector: HE_SIGN_256 and HE_AGREE_256 on P-256, the other EC
slots on P-384, RSA0 to RSA3. -/
def slotSound (sel : Nat) (b : Bytes) : Bool :=
  if 8 ≤ sel ∧ sel ≤ 11 then rsaBlockOk (rsaSlotLen b) b
  else if sel = 0 ∨ sel = 2 then b.length == 96 && ecBlockOk .p256 b
  else b.length == 144 && ecBlockOk .p384 b

/-- The curve a CURVE field names. -/
def curveOf (n : Nat) : Curve := if n = 2 then .p384 else .p256

/-- The hash a HASH field names. -/
def hashOf (n : Nat) : HashAlg := if n = 3 then .sha512 else if n = 2 then .sha384 else .sha256

/-- Checks 1 and 2 of R197: the fixed part needs CURVE and KEYSRC alone, so a length below it comes before the other fields. -/
def sigVerifyParam (s : Sub) : Option Fail :=
  let l := curveLen (curveOf (s.pbyte 56))
  let sized := s.pbyte 56 == 1 || s.pbyte 56 == 2
  let shape := sized && s.pbyte 57 ≤ 2 && s.pbyte 59 ≤ 1
  let fixed := (if s.pbyte 57 = 0 then 2 * l + 16 else 0) + 2 * l
  if sized && (s.inLen < fixed || (s.pbyte 59 == 1 && s.inLen != fixed + l)) then some ⟨0x0105, 48, 0⟩
  else if !shape || (if s.pbyte 57 = 2 then 7 < s.pbyte 58 else s.pbyte 58 != 0) || s.param / 2 ^ 32 != 0 then
    some ⟨0x0102, 56, 0⟩
  else none

/-- Check 5 of R197 for a key in SEC1 or PUBKEY form already decoded. -/
def sigVerdict (cv : Curve) (pub : Option Bytes) (digest sig : Bytes) : Option Fail :=
  match pub with
  | none => some ⟨0x0307, 0, 0⟩
  | some q => if ecdsaVerify cv q digest sig then none else some ⟨0x0306, 0, 0⟩

/-- SIG_VERIFY (R197). -/
def sigVerifyJob (d : Device) (e : JEntry) (c : Channel) : Channel :=
  let s := e.sub
  match sigVerifyParam s with
  | some f => failE e f c
  | none =>
    let cv := curveOf (s.pbyte 56)
    let l := curveLen cv
    let b := e.data 32 s.inLen
    let keyLen := if s.pbyte 57 = 0 then 2 * l + 16 else 0
    let sig := slice b keyLen (2 * l)
    let rest := b.drop (keyLen + 2 * l)
    let digest := if s.pbyte 59 = 1 then rest else hash (curveHash cv) rest
    if s.pbyte 57 = 1 then
      withRecord d e (fun k c =>
        if k.record.suite ≠ s.pbyte 56 then failE e ⟨0x0305, 0, 0⟩ c
        else match sigVerdict cv (sec1Point cv (k.record.sigkey.take k.record.sigkeyLen)) digest sig with
          | some f => failE e f c
          | none => finishRead e k 0 [] c) c
    else if s.pbyte 57 = 2 then
      match c.keys.slot (16 + s.pbyte 58) with
      | none => invalidField e 58 c
      | some k =>
        if k.material.length ≠ 2 * l then invalidField e 58 c
        else match sigVerdict cv (some k.material) digest sig with
          | some f => failE e f c
          | none => finishPlain e 0 [] c
    else match sigVerdict cv (pubkeyPoint cv (b.take keyLen)) digest sig with
      | some f => failE e f c
      | none => finishPlain e 0 [] c

/-- The RSA PARAM values of the table. -/
def rsaParamOk (s : Sub) (signs : Bool) : Bool :=
  (s.pbyte 56 == 1 || s.pbyte 56 == 2) && (s.pbyte 57 == 1 || s.pbyte 57 == 2) && 1 ≤ s.pbyte 58 && s.pbyte 58 ≤ 3 &&
  s.pbyte 59 ≤ 1 && (if signs then s.pbyte 60 ≤ 3 else s.pbyte 60 == 0) &&
  (if s.pbyte 57 = 2 then s.pbyte 61 ≤ 64 else s.pbyte 61 == 0) && s.phalf 62 == 0

/-- The modulus length SIZE names. -/
def rsaLen (s : Sub) : Nat := if s.pbyte 56 = 2 then 384 else 256

/-- RSA_VERIFY (R198). -/
def rsaVerifyJob (e : JEntry) (c : Channel) : Channel :=
  let s := e.sub
  let k := rsaLen s
  let alg := hashOf (s.pbyte 58)
  let fixed := 16 + 2 * k
  let sized := s.pbyte 56 = 1 ∨ s.pbyte 56 = 2
  let hashed := 1 ≤ s.pbyte 58 ∧ s.pbyte 58 ≤ 3
  if sized ∧ (s.inLen < fixed ∨ (hashed ∧ s.pbyte 59 = 1 ∧ s.inLen ≠ fixed + hashLen alg)) then failE e ⟨0x0105, 48, 0⟩ c
  else if !rsaParamOk s false then invalidField e 56 c
  else
    let b := e.data 32 s.inLen
    let n := fieldBE b 16 k
    let ex := fieldBE b 12 4
    let sig := slice b (16 + k) k
    let rest := b.drop fixed
    let digest := if s.pbyte 59 = 1 then rest else hash alg rest
    if !rsaKeyRange n ex k then invalidField e 32 c
    else match rsaPublic n ex k sig, engineDraw 0 4 c with
      | none, _ => failE e ⟨0x0306, 0, 0⟩ c
      | some _, .error x => drawStop e x c
      | some em, .ok (_, c) =>
        let good := if s.pbyte 57 = 1 then em == emsaPkcs1 alg digest k else emsaPssVerify alg digest (Nat.log2 n) em (s.pbyte 61)
        if good then finishPlain e 0 [] c else failE e ⟨0x0306, 0, 0⟩ c

/-- A result or key check of a job's own operation failed: SAFETY_HOLD, and the channel enters FAULT (R186). -/
def pkeCheckFailed (ch : Ch) (d : Device) (e : JEntry) (c : Channel) : Channel :=
  let p : Pke := { c.pke.wiped with errcnt := sat16 (c.pke.errcnt + 1) }
  reportSafety ch d 0x04 (e.engaged.pke.getD 0 + 256 * e.engaged.pkeOp.getD 0)
    { failE e ⟨0x0A00, 0x04, 0⟩ c with pke := p.abortQueued }

/-- What RSA_SIGN draws from the signing-nonce instance: the PSS salt, then two blinding values of 8 bytes (R181, R199). -/
def signDraws (salt : Nat) (c : Channel) : Except RngStop (Bytes × Channel) :=
  match drawIf (salt != 0) 3 salt c with
  | .error x => .error x
  | .ok (b, c) => match engineDraw 3 8 c with
    | .error x => .error x
    | .ok (_, c) => match engineDraw 3 8 c with
      | .error x => .error x
      | .ok (_, c) => .ok (b, c)

/-- RSA_SIGN (R199): the salt and the two blinding values are drawn, and the signature is checked before release. -/
def rsaSignJob (ch : Ch) (d : Device) (e : JEntry) (c : Channel) : Channel :=
  let s := e.sub
  let k := rsaLen s
  let alg := hashOf (s.pbyte 58)
  if !rsaParamOk s true then invalidField e 56 c
  else if s.pbyte 59 = 1 ∧ s.inLen ≠ hashLen alg then failE e ⟨0x0105, 48, hashLen alg⟩ c
  else if s.outLen < k then failE e ⟨0x0105, 52, k⟩ c
  else match c.keys.slot (8 + s.pbyte 60) with
    | none => invalidField e 60 c
    | some key =>
      if rsaSlotLen key.material ≠ k then invalidField e 56 c
      else
        let b := e.data 32 s.inLen
        let digest := if s.pbyte 59 = 1 then b else hash alg b
        match signDraws (if s.pbyte 57 = 2 then s.pbyte 61 else 0) c with
        | .error x => drawStop e x c
        | .ok (salt, c) =>
          let em := if s.pbyte 57 = 1 then emsaPkcs1 alg digest k else emsaPss alg digest salt (Nat.log2 (rsaField key.material 16 k)) k
          match rsaPrivateChecked k key.material (beNat em) with
          | some sig => finishPlain e 0 sig c
          | none => pkeCheckFailed ch d e c

/-- Bytes 0 to 159 of the attestation statement (R200). -/
def attestBody (ch : Ch) (d : Device) (nonce : Bytes) (c : Channel) : Bytes :=
  let s := c.shard
  let shard := leBytes 2 (s.shard + 0x8000) ++ leBytes 8 s.epoch ++ padTo 16 s.root ++ leBytes 4 s.promo ++ leBytes 4 s.gen
  ascii "CXATTEST" ++ leBytes 8 Config.serial.toNat ++ [byte ch.val, byte d.lifecycle] ++
  leBytes 2 (d.member % 4096 + 4096 * b2n d.memberValid) ++ leBytes 4 (fwWord c.image) ++
  leBytes 2 c.ifEpoch ++ (if s.assigned then shard else zeros 34) ++ zeros 4 ++ padTo 32 nonce ++ leBytes 8 d.tick ++ zeros 56

/-- ATTEST (R200). -/
def attestJob (ch : Ch) (d : Device) (e : JEntry) (c : Channel) : Channel :=
  match c.keys.scalar .p384 5 with
  | none => invalidField e 0 c
  | some key =>
    let body := attestBody ch d (e.data 32 32) c
    match signFresh .p384 key (sha384 body) c with
    | .error x => drawStop e x c
    | .ok (sig, c) => finishPlain e 0 (body ++ sig) c

/-- TYPE of a key slot and the public bytes PUBKEY_EXPORT writes. -/
def keyDescriptor (sel : Nat) (k : KeySlot) : Nat × Bytes :=
  if 8 ≤ sel ∧ sel ≤ 11 then
    let n := rsaSlotLen k.material
    (if n = 384 then 4 else 3, slice k.material 12 (4 + n))
  else
    let big := if 16 ≤ sel then k.material.length = 96 else k.material.length = 144
    if big then (2, slotPublic .p384 k) else (1, slotPublic .p256 k)

/-- Whether *Key selectors* lists a value. -/
def selectorOk (n : Nat) : Bool := n ≤ 5 || (8 ≤ n && n ≤ 11) || (16 ≤ n && n ≤ 24)

/-- PUBKEY_EXPORT (R201). -/
def pubkeyExportJob (e : JEntry) (c : Channel) : Channel :=
  let sel := e.sub.pbyte 56
  if !selectorOk sel then invalidField e 56 c
  else match c.keys.slots.find? (fun p => p.1 == sel) with
    | none => finishPlain e 0 (zeros 16) c
    | some p =>
      let (t, b) := keyDescriptor sel p.2
      finishPlain e b.length ([byte t, byte (if p.2.faulty then 2 else 1)] ++ zeros 6 ++ (sha256 b).take 8 ++ b) c

/-- SIG_VERIFY. -/
def execSigVerify (ch : Ch) (jidx : Nat) (s : State) : Host.Outcome State Fault Refusal :=
  .next (onChan ch (fun _ d c => runJob 0x0301 jidx (onEngine true (sigVerifyJob d)) c) s)

/-- RSA_VERIFY. -/
def execRsaVerify (ch : Ch) (jidx : Nat) (s : State) : Host.Outcome State Fault Refusal :=
  .next (onChan ch (fun _ _ c => runJob 0x0302 jidx (onEngine true rsaVerifyJob) c) s)

/-- RSA_SIGN. -/
def execRsaSign (ch : Ch) (jidx : Nat) (s : State) : Host.Outcome State Fault Refusal :=
  .next (onChanS ch (fun ch d c => runJob 0x0310 jidx (onEngine true (rsaSignJob ch d)) c) s)

/-- ATTEST. -/
def execAttest (ch : Ch) (jidx : Nat) (s : State) : Host.Outcome State Fault Refusal :=
  .next (onChan ch (fun ch d c => runJob 0x0311 jidx (onEngine true (attestJob ch d)) c) s)

/-- PUBKEY_EXPORT. -/
def execPubkeyExport (ch : Ch) (jidx : Nat) (s : State) : Host.Outcome State Fault Refusal :=
  .next (onChan ch (fun _ _ c => runJob 0x0F60 jidx pubkeyExportJob c) s)

end Sys2Proof.Machine
end

