-- ==== Sys2Proof/Machine/PkeEngine.lean ====
section
/-! DEFINITION. The public-key engine: batches, operations, identifiers, clearing (R176 to R192). -/

namespace Sys2Proof.Machine

/-- The families of operation. -/
inductive PkeKind where
  | sign
  | verify
  | ecdhStatic
  | ecdhEphemeral
  | keygen
  | decompress
  | rsaPublic
  | rsaPrivate
  deriving DecidableEq, Repr

/-- A row of *PKE operations*: entry, result and key block bytes, curve, RSA length. -/
structure PkeOp where
  kind : PkeKind
  entry : Nat
  result : Nat
  key : Nat
  curve : Curve := .p256
  k : Nat := 0
  deriving DecidableEq, Repr

/-- *PKE operations*. -/
def pkeOp (op : Nat) : Option PkeOp :=
  match op with
  | 0x01 => some ⟨.sign, 32, 64, 96, .p256, 0⟩
  | 0x02 => some ⟨.verify, 176, 0, 0, .p256, 0⟩
  | 0x03 => some ⟨.ecdhStatic, 80, 32, 96, .p256, 0⟩
  | 0x04 => some ⟨.ecdhEphemeral, 80, 96, 0, .p256, 0⟩
  | 0x05 => some ⟨.keygen, 16, 96, 0, .p256, 0⟩
  | 0x06 => some ⟨.decompress, 80, 64, 0, .p256, 0⟩
  | 0x11 => some ⟨.sign, 48, 96, 144, .p384, 0⟩
  | 0x12 => some ⟨.verify, 256, 0, 0, .p384, 0⟩
  | 0x13 => some ⟨.ecdhStatic, 112, 48, 144, .p384, 0⟩
  | 0x14 => some ⟨.ecdhEphemeral, 112, 144, 0, .p384, 0⟩
  | 0x15 => some ⟨.keygen, 16, 144, 0, .p384, 0⟩
  | 0x16 => some ⟨.decompress, 112, 96, 0, .p384, 0⟩
  | 0x21 => some ⟨.rsaPublic, 528, 256, 0, .p256, 256⟩
  | 0x22 => some ⟨.rsaPublic, 784, 384, 0, .p256, 384⟩
  | 0x23 => some ⟨.rsaPrivate, 256, 256, 912, .p256, 256⟩
  | 0x24 => some ⟨.rsaPrivate, 384, 384, 1360, .p256, 384⟩
  | _ => none

/-- The kind of key block an operation takes: EC P-256, EC P-384, RSA-2048, RSA-3072. -/
def PkeOp.keyKind (o : PkeOp) : Nat :=
  if o.k = 256 then 2 else if o.k = 384 then 3 else if o.curve = .p384 then 1 else 0

/-- The check of R173 on a key block (R180). -/
def keyBlockOk (o : PkeOp) (b : Bytes) : Bool :=
  if o.kind = .rsaPrivate then rsaBlockOk o.k b else ecBlockOk o.curve b

/-- What follows a batch's end: a recorded PK_CLEAR starts once the queue is empty (R189). -/
def Pke.afterEnd (p : Pke) : Pke :=
  if p.clearPending ∧ p.queue.isEmpty then { p with clearPending := false, clearing := true, dirty := false } else p

/-- PK_PUSH (R184). -/
def pkPush (c : Channel) : Channel :=
  let p := c.pke
  if !p.en || 4 ≤ p.held then { c with pke := { p with refused := true } }
  else { c with pke := { p with
    refused := false, lastId := p.nextId, queue := p.queue ++ [(p.nextId, p.qaddr)], nextId := (p.nextId + 1) % 256 } }

/-- A batch ends with an outcome that is not a failed check (R185, R186). -/
def endBatch (id outcome count : Nat) (c : Channel) : Channel :=
  let p := c.pke
  let p := if outcome = 0 ∨ outcome = 3 then p else p.wiped
  let p := if outcome = 0 then { p with dirty := true } else p
  { c with pke := (p.finish id outcome count).afterEnd }

/-- A batch ends FAULT or KEY_FAULT: the queue ends ABORTED, the failure is counted and reported (R186). -/
def endBatchFault (ch : Ch) (d : Device) (id outcome count op : Nat) (c : Channel) : Channel :=
  let p : Pke := { c.pke.wiped with errcnt := sat16 (c.pke.errcnt + 1) }
  reportSafety ch d 0x04 (id + 256 * op) { c with pke := (p.finish id outcome count).abortQueued.afterEnd }

/-- A batch header (R177). -/
structure PkeHeader where
  op : Nat
  flags : Nat
  count : Nat
  entry : Nat
  result : Nat
  status : Nat
  key : Nat
  reserved : Bool
  deriving DecidableEq, Repr

/-- Reads a batch header. -/
def PkeHeader.ofBytes (b : Bytes) : PkeHeader :=
  ⟨fieldLE b 0 1, fieldLE b 1 1, fieldLE b 2 2, fieldLE b 4 4, fieldLE b 8 4, fieldLE b 12 4, fieldLE b 16 4, b.drop 20 != zeros 12⟩

/-- The extents of a batch: address, length, whether written. -/
def PkeHeader.extents (h : PkeHeader) (o : PkeOp) : List (Nat × Nat × Bool) :=
  [(h.entry, h.count * o.entry, false)] ++ (if o.result = 0 then [] else [(h.result, h.count * o.result, true)]) ++
  [(h.status, h.count, true)] ++ if o.key = 0 then [] else [(h.key, o.key, false)]

/-- Whether any two extents overlap. -/
def anyOverlap : List (Nat × Nat × Bool) → Bool
  | [] => false
  | x :: xs => xs.any (fun y => x.1 < y.1 + y.2.1 && y.1 < x.1 + x.2.1) || anyOverlap xs

/-- Whether a header breaks R177. -/
def PkeHeader.bad (h : PkeHeader) (o : PkeOp) : Bool :=
  2 ≤ h.flags || h.count == 0 || 256 < h.count || h.reserved || h.entry % 16 != 0 || (o.result != 0 && h.result % 16 != 0) ||
  h.key % 16 != 0 || (if o.key = 0 then h.key != 0 else h.key == 0) || anyOverlap (h.extents o)

/-- The first extent outside data SRAM or refused by the table; the refusal is captured. -/
def extentsRefused : List (Nat × Nat × Bool) → Channel → Bool × Channel
  | [], c => (false, c)
  | x :: xs, c =>
    if !inData x.1 x.2.1 then (true, c)
    else
      let k : Access := if x.2.2 then .write else .read
      match dmaBad c.table k x.1 x.2.1 with
      | some a => (true, { c with table := atRefuse c.table 4 true true k (min 64 (x.1 + x.2.1 - a)) a })
      | none => extentsRefused xs c

/-- The key load of R180: skipped under KEEP_KEY, else read and checked; none ends the batch. An operation without a key block keeps
none of an earlier one (R188). -/
def loadKey (ch : Ch) (d : Device) (id : Nat) (h : PkeHeader) (o : PkeOp) (c : Channel) : Option Bytes × Channel :=
  if o.key = 0 then (some [], { c with pke := { c.pke with key := none } })
  else
    let kept := match c.pke.key with
      | some (a, k, b) => if h.flags = 1 ∧ a = h.key ∧ k = o.keyKind then some b else none
      | none => none
    match kept with
    | some b => (some b, c)
    | none =>
      match engineRead ch d 4 h.key o.key c with
      | (none, c) => (none, endBatch id 2 0 c)
      | (some b, c) =>
        if keyBlockOk o b then (some b, { c with pke := { c.pke with key := some (h.key, o.keyKind, b) } })
        else (none, endBatchFault ch d id 6 0 0xFFFF c)

/-- PKE_BATCH_START (R177, R180): the oldest queued batch, when none runs and no clear does. -/
def batchStart (ch : Ch) (d : Device) (c : Channel) : Channel :=
  match c.pke.queue with
  | [] => c
  | (id, addr) :: rest =>
    if c.pke.running.isSome ∨ c.pke.clearing then c
    else
      let c := { c with pke := { c.pke with queue := rest } }
      if !inData addr 32 then endBatch id 2 0 c
      else match engineRead ch d 4 addr 32 c with
        | (none, c) => endBatch id 2 0 c
        | (some b, c) =>
          let h := PkeHeader.ofBytes b
          match pkeOp h.op with
          | none => endBatch id 3 0 c
          | some o =>
            if h.bad o then endBatch id 3 0 c
            else match extentsRefused (h.extents o) c with
              | (true, c) => endBatch id 2 0 c
              | (false, c) => match loadKey ch d id h o c with
                | (none, c) => c
                | (some key, c) => { c with pke := { c.pke with
                    running := some ⟨id, h.op, h.count, h.entry, h.result, h.status, key⟩ } }

/-- Status of an ECDSA verification: POINT before RANGE before INVALID (R178). -/
def verifyStatus (cv : Curve) (e : Bytes) : Nat :=
  let l := curveLen cv
  match pubkeyPoint cv (e.drop (3 * l)) with
  | none => 3
  | some q =>
    let r := fieldBE e l l
    let s := fieldBE e (2 * l) l
    if r = 0 ∨ s = 0 ∨ curveN cv ≤ r ∨ curveN cv ≤ s then 2
    else if ecdsaVerify cv q (e.take l) (slice e l (2 * l)) then 0 else 1

/-- What the operation under way leaves of its secrets. -/
def retains (x : PkeSecret) (c : Channel) : Channel := { c with pke := { c.pke with retained := some x } }

/-- What a signature leaves: its nonce follows from k·s = e + r·d (R188). -/
def signSecret (cv : Curve) (d : Nat) (digest sig : Bytes) : PkeSecret :=
  let n := curveN cv
  let l := curveLen cv
  let rd := fieldBE sig 0 l * d % n
  let er := (ecdsaHashInt cv digest + rd) % n
  .signing (er * invMod n (fieldBE sig l l) % n) (fieldBE sig l l * invMod n er % n) rd

/-- What RSA_PRIVATE leaves: DP + r1·(P − 1), DQ + r2·(Q − 1), and the result modulo P and Q (R182, R188). -/
def rsaSecret (k : Nat) (key r1 r2 sig : Bytes) : PkeSecret :=
  let f (i : Nat) : Nat := rsaField key (16 + k + i * (k / 2)) (k / 2)
  .exponentiation (f 2 + beNat r1 * (f 0 - 1)) (f 3 + beNat r2 * (f 1 - 1)) (beNat sig % f 0) (beNat sig % f 1)

/-- One operation on its entry: status, result record, channel (R178, R183). -/
def runOp (o : PkeOp) (key e : Bytes) (c : Channel) : Except RngStop (Nat × Bytes × Channel) :=
  let cv := o.curve
  let l := curveLen cv
  let c := { c with pke := { c.pke with retained := none } }
  match o.kind with
  | .sign => match signFresh cv (fieldBE key 0 l) e c with
    | .error x => .error x
    | .ok (s, c) => .ok (0, s, retains (signSecret cv (fieldBE key 0 l) e s) c)
  | .verify => .ok (verifyStatus cv e, [], c)
  | .ecdhStatic => match (pubkeyPoint cv e).bind (ecdh cv (fieldBE key 0 l)) with
    | some z => .ok (0, z, retains (.agreement none z (Config.ladderPoints e c.core.cycles)) c)
    | none => .ok (3, zeros o.result, c)
  | .ecdhEphemeral => match keyPair 2 cv c with
    | .error x => .error x
    | .ok (k, pub, c) => match (pubkeyPoint cv e).bind (ecdh cv k) with
      | some z => .ok (0, z ++ pub, retains (.agreement (some k) z (Config.ladderPoints e c.core.cycles)) c)
      | none => .ok (3, zeros o.result, c)
  | .keygen => match keyPair 1 cv c with
    | .error x => .error x
    | .ok (k, pub, c) => .ok (0, beBytes l k ++ pub, retains (.generated k) c)
  | .decompress => match pubkeyPoint cv e with
    | some q => .ok (0, q, c)
    | none => .ok (3, zeros o.result, c)
  | .rsaPublic =>
    let n := fieldBE e 16 o.k
    let ex := fieldBE e 12 4
    if !rsaKeyRange n ex o.k then .ok (2, zeros o.result, c)
    else match rsaPublic n ex o.k (e.drop (16 + o.k)) with
      | some m => .ok (0, m, c)
      | none => .ok (2, zeros o.result, c)
  | .rsaPrivate => match engineDraw 3 8 c with
    | .error x => .error x
    | .ok (r1, c) => match engineDraw 3 8 c with
      | .error x => .error x
      | .ok (r2, c) =>
        if rsaField key 16 o.k ≤ beNat e then .ok (2, zeros o.result, c)
        else match rsaPrivateChecked o.k key (beNat e) with
          | some s => .ok (0, s, retains (rsaSecret o.k key r1 r2 s) c)
          | none => .ok (4, zeros o.result, c)

/-- How a run of operations ended. -/
inductive RunEnd where
  | complete
  | address
  | fault
  | rng (notInstantiated : Bool)
  | waits
  deriving DecidableEq, Repr

/-- The operations of a batch from index `i` on; `fault` is an operation whose result check a physical fault fails. -/
def runOps (ch : Ch) (d : Device) (b : PkeRun) (o : PkeOp) (fault : Option Nat) : Nat → Nat → Channel → RunEnd × Nat × Channel
  | 0, i, c => (.complete, i, c)
  | fuel + 1, i, c =>
    match engineRead ch d 4 (b.entry + i * o.entry) o.entry c with
    | (none, c) => (.address, i, c)
    | (some e, c) =>
      match runOp o b.key e c with
      | .error .waits => (.waits, i, c)
      | .error .withheld => (.rng false, i, c)
      | .error .notInstantiated => (.rng true, i, c)
      | .ok (st, r, c) =>
        let st := if fault = some i then 4 else st
        let r := if st = 0 then r else zeros o.result
        match engineWrite ch d 4 (b.result + i * o.result) r c with
        | (false, c) => (.address, i, c)
        | (true, c) => match engineWrite ch d 4 (b.status + i) [byte st] c with
          | (false, c) => (.address, i, c)
          | (true, c) => if st = 4 then (.fault, i + 1, c) else runOps ch d b o fault fuel (i + 1) c

/-- The check prime of an RSA_PUBLIC batch is drawn once from the Inner firmware instance (R183). -/
def drawPrime (o : PkeOp) (c : Channel) : Except RngStop Channel :=
  if o.kind = .rsaPublic then match engineDraw 0 4 c with
    | .error e => .error e
    | .ok (_, c) => .ok c
  else .ok c

/-- PKE_BATCH_END (R185, R186): the running batch's operations, and its end; one that waits for random bytes waits. -/
def batchEnd (ch : Ch) (fault : Option Nat) (d : Device) (c : Channel) : Channel :=
  match c.pke.running with
  | none => c
  | some b =>
    match pkeOp b.op with
    | none => c
    | some o =>
      match drawPrime o c with
      | .error .waits => c
      | .error _ => endBatch b.id 5 0 c
      | .ok c' =>
        match runOps ch d b o fault b.count 0 c' with
        | (.complete, n, c) => endBatch b.id 0 n c
        | (.address, n, c) => endBatch b.id 2 n c
        | (.fault, n, c) => endBatchFault ch d b.id 4 n (n - 1) c
        | (.rng false, n, c) => endBatch b.id 5 n c
        | (.rng true, n, c) => reportSafety ch d 0x0B 0 (endBatch b.id 5 n c)
        | (.waits, _, _) => c

/-- PK_DONE_POP (R184). -/
def donePop (c : Channel) : Channel := { c with pke := { c.pke with done := c.pke.done.drop 1 } }

/-- PK_ABORT (R187): `finished` operations of the running batch had been written. The done entries appear when operand memory is
clear (R186). -/
def pkAbort (ch : Ch) (finished : Nat) (d : Device) (c : Channel) : Channel :=
  let c := match c.pke.running with
    | none => c
    | some b => match pkeOp b.op with
      | none => c
      | some o =>
        let r := runOps ch d b o none (min finished b.count) 0 c
        { r.2.2 with pke := { r.2.2.pke with running := none, ending := r.2.2.pke.ending ++ [PkeDone.mk b.id 1 r.2.1] } }
  let p := c.pke
  { c with pke := { p with
    queue := [], ending := p.ending ++ p.queue.map fun b => PkeDone.mk b.1 1 0, clearing := true, aborting := true, clearPending := false } }

/-- PK_CLEAR (R189). -/
def pkClear (c : Channel) : Channel :=
  if c.pke.running.isSome ∨ ¬ c.pke.queue.isEmpty then { c with pke := { c.pke with clearPending := true } }
  else { c with pke := { c.pke with clearing := true } }

/-- PKE_CLEAR_DONE: operand memory reads as zero and DIRTY is clear; the batches that PK_ABORT ended get their done entries. -/
def clearDone (c : Channel) : Channel :=
  if c.pke.clearing then
    let p := c.pke.ending.foldl (fun p b => p.finish b.id b.outcome b.countRun) { c.pke.wiped with ending := [] }
    { c with pke := { p with clearing := false, aborting := false } }
  else c

/-- PK_STAT as read. -/
def Pke.stat (p : Pke) : Nat :=
  p.held + 8 * b2n p.running.isSome + 16 * ((p.running.map (·.id)).getD 0) + 2 ^ 21 * b2n p.key.isSome + 2 ^ 22 * b2n p.dirty +
  2 ^ 23 * b2n (p.clearing || p.clearPending)

/-- PK_PUSH. -/
def execPkPush (ch : Ch) (s : State) : Host.Outcome State Fault Refusal := .next (onChan ch (fun _ _ c => pkPush c) s)

/-- PKE_BATCH_START. -/
def execPkeBatchStart (ch : Ch) (s : State) : Host.Outcome State Fault Refusal :=
  .next (onChanS ch (fun ch d c => batchStart ch d c) s)

/-- PKE_BATCH_END. -/
def execPkeBatchEnd (ch : Ch) (fault : Option Nat) (s : State) : Host.Outcome State Fault Refusal :=
  .next (onChanS ch (fun ch d c => batchEnd ch fault d c) s)

/-- PK_DONE_POP. -/
def execPkDonePop (ch : Ch) (s : State) : Host.Outcome State Fault Refusal := .next (onChan ch (fun _ _ c => donePop c) s)

/-- PK_ABORT. -/
def execPkAbort (ch : Ch) (finished : Nat) (s : State) : Host.Outcome State Fault Refusal :=
  .next (onChanS ch (fun ch d c => pkAbort ch finished d c) s)

/-- PK_CLEAR. -/
def execPkClear (ch : Ch) (s : State) : Host.Outcome State Fault Refusal := .next (onChan ch (fun _ _ c => pkClear c) s)

/-- PKE_CLEAR_DONE. -/
def execPkeClearDone (ch : Ch) (s : State) : Host.Outcome State Fault Refusal :=
  .next (onChan ch (fun _ _ c => clearDone c) s)

end Sys2Proof.Machine
end

