-- ==== Sys2Proof/Machine/Periph.lean ====
section
/-! DEFINITION. The peripheral registers a core reads and writes (R26, R131, R184, R194, R205, R322, R335, R367, R453,
R477). -/

namespace Sys2Proof.Machine

/-- What a core sees of the rest of the part: registers held outside its own unit, after the accesses it has made to them,
its interrupt sources, the timer's apart, and whether its unit holds it in reset or without a clock. -/
structure Ext where
  peek : List (Nat × Option Word) → Nat → Word
  irq : Nat
  held : Bool

/-- The unit number of a core: its channel, or 16. -/
def unitOf (ch : Ch) (c : Channel) : Core := if c.table.mgmt then 16 else ⟨ch.val, by omega⟩

/-- A register of a block the spec does not lay out: a free value. -/
def openReg (ch : Ch) (a : Nat) (c : Channel) : Word := Config.blockReg (unitOf ch c).val a c.core.cycles

/-- STATE of a cipher context. -/
def cxCode : CxState → Nat
  | .free => 0
  | .held => 1
  | .keyed => 2
  | .opened => 3
  | .clearing => 4

/-- CX_STATE. -/
def Cx.word (x : Cx) : Nat :=
  cxCode x.st + 8 * x.fifo.length + 128 * b2n x.refused + 256 * b2n x.writeRefused + 512 * x.outcome + 2 ^ 13 * b2n x.hwEmpty +
  2 ^ 14 * b2n x.started + 2 ^ 15 * b2n x.usedEnc

/-- A register of a context's window. -/
def cxRead (o : Nat) (x : Cx) : Nat :=
  match o with
  | 0x00 => x.cfg
  | 0x04 => x.word
  | 0x0C => x.len
  | 0x10 => x.src
  | 0x14 => x.dst
  | 0x18 => x.aux
  | 0x1C => x.outlen
  | 0x20 => x.ctr % 2 ^ 32
  | 0x24 => x.ctr / 2 ^ 32
  | 0x28 => x.limit
  | 0x2C => x.inCtr
  | 0x30 => x.hw
  | 0x38 => fieldLE x.fix 0 4
  | 0x3C => fieldLE x.fix 4 4
  | 0x50 => x.used % 2 ^ 32
  | 0x54 => x.used / 2 ^ 32
  | 0x58 => x.total
  | _ => 0

/-- A CE_ register; a read of CE_ALLOC allocates (R204). -/
def ceRead (o : Nat) (c : Channel) : Nat × Channel :=
  let e := c.ce
  let mask (f : Cx → Bool) : Nat := (List.finRange 8).foldl (fun n i => n + 2 ^ i.val * b2n (f (e.cx i))) 0
  if 0x1000 ≤ o then (cxRead (o % 0x100) (e.cx ⟨o / 0x100 % 8, Nat.mod_lt _ (by decide)⟩), c)
  else match o with
    | 0x00 => (b2n e.en + 2 * b2n e.irqEn, c)
    | 0x04 => (mask Cx.heldNow + 256 * mask (fun x => x.st == .opened) + 2 ^ 16 * b2n e.waiting + 2 ^ 17 * b2n e.halted, c)
    | 0x08 =>
      let c := ceAlloc c
      (c.ce.lastAlloc, c)
    | 0x0C => (e.freeSel + 256 * b2n e.freeBusy, c)
    | 0x10 => (e.prio, c)
    | 0x14 => (e.irq.toNat, c)
    | 0x18 => (e.errcnt, c)
    | _ => (0, c)

/-- A write in a context's window (R208, R211 to R214). -/
def cxStore (ch : Ch) (d : Device) (i : Fin 8) (o : Nat) (v : Word) (c : Channel) : Channel :=
  let n := v.toNat
  let set (f : Cx → Cx) : Channel := onCx i f c
  match o with
  | 0x00 => set (cfgWrite v)
  | 0x04 => set fun x => { x with hwEmpty := if bit n 13 then x.hwEmpty || !x.started else false }
  | 0x08 =>
    let cmd := bits n 3 0
    if cmd = 6 then cxAbort i (bit n 4) c
    else if 1 ≤ cmd ∧ cmd ≤ 5 then cxCommand ch i cmd (bit n 4) none d c
    else set fun x => { x with refused := true }
  | 0x0C => set fun x => { x with len := bits n 23 0 }
  | 0x10 => set fun x => { x with src := n }
  | 0x14 => set fun x => { x with dst := n }
  | 0x18 => set fun x => { x with aux := n }
  | 0x20 => set (counterWrite 0 v)
  | 0x24 => set (counterWrite 1 v)
  | 0x28 => set (limitWrite v)
  | 0x2C => set fun x => { x with inCtr := n }
  | 0x30 => set (counterWrite 2 v)
  | 0x38 => set fun x => { x with fix := patch x.fix 0 (leBytes 4 n) }
  | 0x3C => set fun x => { x with fix := patch x.fix 4 (leBytes 4 n) }
  | _ => if 0x40 ≤ o ∧ o < 0x50 then set fun x => { x with iv := patch x.iv (o - 0x40) (leBytes 4 n) } else c

/-- A write of a CE_ register. Commands that waited for EN run when it is set. -/
def ceWrite (ch : Ch) (d : Device) (o : Nat) (v : Word) (c : Channel) : Channel :=
  let n := v.toNat
  if 0x1000 ≤ o then cxStore ch d ⟨o / 0x100 % 8, Nat.mod_lt _ (by decide)⟩ (o % 0x100) v c
  else match o with
    | 0x00 => cxDrain ch d none 64 { c with ce := { c.ce with en := bit n 0, irqEn := bit n 1 } }
    | 0x0C =>
      let i : Fin 8 := ⟨n % 8, Nat.mod_lt _ (by decide)⟩
      if bit n 8 then ceFree i c else { c with ce := { c.ce with freeSel := i.val } }
    | 0x10 => { c with ce := { c.ce with prio := n % 256 } }
    | 0x14 => { c with ce := { c.ce with irq := c.ce.irq &&& ~~~ v } }
    | 0x1C => if bit n 0 then freeWaiting { c with ce := c.ce.zero } else c
    | _ => c

/-- A PK_ register; how many operations of a running batch are finished is a free value. -/
def pkRead (ch : Ch) (o : Nat) (c : Channel) : Nat :=
  let p := c.pke
  match o with
  | 0x00 => b2n p.en + 2 * b2n p.irqEn
  | 0x04 => p.stat + 4096 * ((p.running.map fun b => min b.count (Config.pkeProgress ch.val c.core.cycles)).getD 0)
  | 0x08 => p.qaddr
  | 0x0C => 256 * b2n p.refused + 65536 * p.lastId
  | 0x10 => match p.done.head? with
    | some e => e.id + 256 * e.outcome + 65536 * e.countRun + 2 ^ 31
    | none => 0
  | 0x18 => b2n p.aborting
  | 0x1C => b2n (p.clearing || p.clearPending)
  | 0x20 => p.irq.toNat
  | 0x24 => p.errcnt
  | _ => 0

/-- A write of a PK_ register. -/
def pkWrite (ch : Ch) (d : Device) (o : Nat) (v : Word) (c : Channel) : Channel :=
  let n := v.toNat
  match o with
  | 0x00 => { c with pke := { c.pke with en := bit n 0, irqEn := bit n 1 } }
  | 0x08 => { c with pke := { c.pke with qaddr := n / 32 * 32 } }
  | 0x0C => if bit n 0 then pkPush c else c
  | 0x14 => if bit n 0 then donePop c else c
  | 0x18 => if bit n 0 then pkAbort ch (Config.pkeProgress ch.val c.core.cycles) d c else c
  | 0x1C => if bit n 0 then pkClear c else c
  | 0x20 => { c with pke := { c.pke with irq := c.pke.irq &&& ~~~ v } }
  | _ => c

/-- An HS_ register. -/
def hsRead (o : Nat) (h : HashEngine) : Nat :=
  if 0x200 ≤ o ∧ o < 0x240 then beNat (slice (padTo 64 (h.ctx h.sel).digest) (o - 0x200) 4)
  else match o with
    | 0x00 => h.sel
    | 0x04 => h.alg + 4 * b2n h.hmac
    | 0x08 => h.src
    | 0x0C => h.len
    | 0x10 => b2n h.done + 2 * b2n h.error + 4 * b2n (!h.lane.isEmpty || !h.main.isEmpty)
    | _ => 0

/-- A write of an HS_ register (R194); bits of HS_CTRL written together act in their order. -/
def hsWrite (o : Nat) (v : Word) (h : HashEngine) : HashEngine :=
  let n := v.toNat
  if 0x100 ≤ o ∧ o < 0x180 then { h with key := patch h.key (o - 0x100) (leBytes 4 n) }
  else match o with
    | 0x00 => { h with sel := n % 4 }
    | 0x04 =>
      let h := if bit n 3 then hashInitStep v h else hashCtrl v h
      let h := if bit n 4 then hashQueue { ctx := h.sel, final := false, src := h.src, len := h.len } h else h
      let h := if bit n 5 then hashQueue { ctx := h.sel, final := true } h else h
      if bit n 6 then { h with key := zeros 128, ctxs := Vector.replicate 4 {}, lane := [], main := [] } else h
    | 0x08 => { h with src := n }
    | 0x0C => { h with len := bits n 23 0 }
    | 0x10 => { h with done := h.done && !bit n 0, error := h.error && !bit n 1 }
    | _ => h

/-- An RG_ register; a read of RG_RAW takes samples (R321). -/
def rgRead (ch : Ch) (d : Device) (o : Nat) (c : Channel) : Nat × Channel :=
  let r := c.rng
  let mask (f : Drbg → Bool) : Nat := (List.finRange 8).foldl (fun n i => n + 2 ^ i.val * b2n (f (r.inst.get i))) 0
  if 0x1000 ≤ o then
    let g := r.inst.get ⟨o / 0x40 % 8, Nat.mod_lt _ (by decide)⟩
    (match o % 0x40 with
     | 0x04 => g.dst
     | 0x08 => g.len
     | 0x0C => g.state + 4 * b2n g.current.isSome + 8 * g.result + 64 * g.queue.length
     | 0x10 => g.count
     | 0x14 => g.reseeds % 2 ^ 32
     | _ => 0, c)
  else if 0x40 ≤ o ∧ o < 0x60 then (beNat (slice r.tpDigest (o - 0x40) 4), c)
  else match o with
    | 0x00 => (b2n r.irqEn, c)
    | 0x04 => (sourceCode r.source + 8 * b2n r.proofOk + 16 * min 3 r.tries + 256 * mask (fun g => g.state != 0) +
        65536 * mask (fun g => g.state == 3), c)
    | 0x08 => (r.alarms + 65536 * r.run, c)
    | 0x0C => (r.last, c)
    | 0x10 => (21 + 256 * 201 + 2 ^ 24 * 9, c)
    | 0x14 => (b2n (r.source == .calibrating) + 2 * b2n (r.source == .calibrating && r.delivers) + 65536 * (match r.calTick with
        | some t => sat16 ((d.tick - t) / 1000)
        | none => 0xFFFF), c)
    | 0x18 => (r.irq.toNat, c)
    | 0x20 => (if d.factory then b2n r.tpEn + 2 * b2n r.rawRd else 0, c)
    | 0x28 =>
      let c := rawRead ch d c
      (c.rng.raw.toNat, c)
    | _ => (0, c)

/-- A write of an RG_ register, as the world and level of the core make it (R322). -/
def rgWrite (ch : Ch) (d : Device) (o : Nat) (v : Word) (c : Channel) : Channel :=
  let n := v.toNat
  if 0x1000 ≤ o then
    let i : Fin 8 := ⟨o / 0x40 % 8, Nat.mod_lt _ (by decide)⟩
    match o % 0x40 with
    | 0x00 =>
      let g := c.rng.inst.get i
      rngCommand i { cmd := bits n 2 0, irq := bit n 3, dst := g.dst, len := g.len, inner := pswInner c.core.psw, sup := pswSup c.core.psw } c
    | 0x04 => onInst i (fun g => { g with dst := n }) c
    | 0x08 => onInst i (fun g => { g with len := bits n 16 0 }) c
    | _ => c
  else match o with
    | 0x00 => { c with rng := { c.rng with irqEn := bit n 0 } }
    | 0x18 => { c with rng := { c.rng with irq := c.rng.irq &&& ~~~ v } }
    | 0x20 => rngTest d v c
    | 0x24 => tpData ch d v c
    | _ => c

/-- Scrub coverage of the flash bank in hours (R361). -/
def NvBank.ageHours (d : Device) (b : NvBank) : Nat :=
  match b.scrubTick with
  | some t => sat16 ((d.tick - t) / 3600000)
  | none => 0xFFFF

/-- An NV_ register (R367). -/
def nvRead (d : Device) (o : Nat) (c : Channel) : Nat :=
  let b := c.nv
  if 0x100 ≤ o ∧ o < 0x21C then
    let i := (o - 0x100) / 4
    if !c.table.mgmt && decide (39 ≤ i) then 0
    else
      let s := b.sector i
      s.erases + 2 ^ 24 * s.format + 2 ^ 27 * b2n s.incomplete + 2 ^ 28 * b2n s.suspended + 2 ^ 29 * b2n s.empty
  else match o with
    | 0x00 => b2n b.en + 2 * b2n b.irqEn + 16 * b2n b.scrubEn
    | 0x08 => b.addr
    | 0x0C => b.len
    | 0x10 => b2n b.busy.isSome + 2 * b2n b.susp.isSome + 4 * b2n b.port + 8 * b2n (olderThan 172800000 b.scrubTick d) + 16 * b.result
    | 0x14 => b.maxcorr % 256 + 256 * b.erasedPages + 65536 * b.uncorrPages
    | 0x18 => b.irq.toNat
    | 0x1C => b.uaddr + 2 ^ 31 * b2n b.uvalid
    | 0x20 => b.ageHours d + 65536 * b2n b.dropped
    | 0x24 => match b.refresh.head? with
      | some p => p.1 + 2 ^ 22 * p.2.1 + 2 ^ 31
      | none => 0
    | 0x2C => b.margin
    | 0x40 => b.bucket + 65536 * b.crossings
    | 0x44 => b.thr
    | 0x48 => b.leak
    | _ => 0

/-- A write of an NV_ register (R353, R355, R359, R362, R367). -/
def nvWrite (u : Core) (d : Device) (o : Nat) (v : Word) (c : Channel) : Channel :=
  let n := v.toNat
  if 0x400 ≤ o ∧ o < 0x600 then onNv (fun b => { b with buf := patch b.buf (o - 0x400) (leBytes 4 n) }) c
  else match o with
    | 0x00 =>
      let c := onNv (fun b => { b with en := bit n 0, irqEn := bit n 1, scrubEn := bit n 4 }) c
      let c := if bit n 2 then nvSuspend c else c
      if bit n 3 then nvResume c else c
    | 0x04 => if 1 ≤ n % 8 ∧ n % 8 ≤ 5 then nvCommand (n % 8) (bit n 3) (bit n 4) c else c
    | 0x08 => onNv (fun b => { b with addr := bits n 21 0 }) c
    | 0x0C => onNv (fun b => { b with len := n % 256 }) c
    | 0x18 => onNv (fun b => { b with irq := b.irq &&& ~~~ v }) c
    | 0x1C => if bit n 31 then onNv (fun b => { b with uvalid := false }) c else c
    | 0x20 => if bit n 16 then onNv (fun b => { b with dropped := false }) c else c
    | 0x28 => if bit n 0 then onNv (fun b => { b with refresh := b.refresh.drop 1 }) c else c
    | 0x44 => thresholdWrite u true v d c
    | 0x48 => onNv (fun b => { b with leak := n % 65536 }) c
    | _ => c

/-- AGE_MS of AT_SCRUB (R338). -/
def AccessTable.scrubAge (d : Device) (t : AccessTable) : Nat :=
  match t.scrubTick with
  | some k => sat16 (d.tick - k)
  | none => 0xFFFF

/-- An AT_ register: START and END read as last written. -/
def atRead (d : Device) (o : Nat) (t : AccessTable) : Nat :=
  if 0x1000 ≤ o then
    let e := t.entries.getD ((o - 0x1000) / 0x10 % 64) {}
    match o % 0x10 with
    | 0x0 => 64 * e.stagedFirst
    | 0x4 => 64 * e.stagedLast
    | 0x8 => e.perm
    | _ => b2n (e.lock || t.lockAll)
  else match o with
    | 0x00 => b2n t.lockAll
    | 0x04 => t.violAddr
    | 0x08 => t.violInfo + 2 ^ 31 * b2n t.violValid
    | 0x0C => t.violCount
    | 0x10 => b2n t.lockedWrite + 2 * b2n t.badEntry
    | 0x20 => t.eccCaddr
    | 0x24 => t.eccCbit
    | 0x28 => t.eccUaddr
    | 0x2C => t.eccUmaster + 2 ^ 31 * b2n t.eccUvalid
    | 0x30 => t.scrubAge d + 65536 * b2n (olderThan 500 t.scrubTick d)
    | 0x34 => t.scrubPasses
    | 0x40 => t.bucket + 65536 * t.crossings
    | 0x44 => t.bucketThr
    | 0x48 => t.bucketLeak
    | _ => 0

/-- A write of an AT_ register (R330, R331, R335, R337, R339). -/
def atWrite (u : Core) (d : Device) (o : Nat) (v : Word) (c : Channel) : Channel :=
  let n := v.toNat
  if 0x1000 ≤ o then
    let i := (o - 0x1000) / 0x10 % 64
    match o % 0x10 with
    | 0x0 => onTable (writeAtStart i v) c
    | 0x4 => onTable (writeAtEnd i v) c
    | 0x8 => onTable (writeAtPerm i v) c
    | _ => onTable (fun t => if bit n 0 || (t.entries.getD i {}).lock || t.lockAll then lockEntry i t else t) c
  else match o with
    | 0x00 => onTable (fun t =>
        let t := if bit n 0 then lockAllEntries t else t
        if bit n 1 then { t with violCount := 0 } else t) c
    | 0x08 => if bit n 31 then onTable (fun t => { t with violValid := false, violOther := false }) c else c
    | 0x10 => onTable (fun t => { t with lockedWrite := t.lockedWrite && !bit n 0, badEntry := t.badEntry && !bit n 1 }) c
    | 0x2C => if bit n 31 then onTable (fun t => { t with eccUvalid := false }) c else c
    | 0x44 => thresholdWrite u false v d c
    | 0x48 => onTable (fun t => { t with bucketLeak := n % 65536 }) c
    | _ => c

/-- Milliseconds left of the watchdog's count (R467). -/
def Safety.remain (d : Device) (s : Safety) : Nat := if s.wdogEn then 20 - (d.tick - s.wdogTick) else 20

/-- A governor register; 0 before root-load has loaded it (R106 registers). -/
def govRead (d : Device) (o : Nat) (c : Channel) : Nat :=
  let g := c.gov
  if c.bootStep < 6 then 0
  else match o with
    | 0x00 => g.budget + 65536 * g.window
    | 0x04 => g.used d.tick + 65536 * b2n (g.hold d.tick) + 2 ^ 17 * b2n (g.tokenActive d.tick) +
        2 ^ 18 * b2n (g.challenge.any fun p => decide (d.tick < p.2 + 900000))
    | 0x08 => g.tokenUnits d.tick
    | 0x0C => match g.token with
      | some (_, t) => ceilDiv (t - d.tick) 1000
      | none => 0
    | _ => g.nextMs d.tick

/-- An SF_ register (R303, R477, and the governor's). -/
def sfRead (ch : Ch) (d : Device) (o : Nat) (c : Channel) : Nat :=
  let s := c.sf
  let r := c.core.df
  if 0x800 ≤ o ∧ o < 0x814 then govRead d (o - 0x800) c
  else match o with
    | 0x00 => sfStat d s
    | 0x04 => sfMech s
    | 0x08 => s.info
    | 0x0C => s.tag
    | 0x14 => 2 * b2n s.wdogEn + 65536 * s.remain d
    | 0x20 => bistAge d s + 65536 * b2n c.notice + 2 ^ 17 * b2n s.debt
    | 0x24 => bistSeconds ch d s
    | 0x40 => sfMbResult s
    | 0x44 => s.mbAddr / 8 * 8
    | 0x48 => s.mbBit
    | 0x4C => sfSpares s
    | 0x50 => s.spares.getD 8 0
    | 0x900 => r.vector + 64 * r.kind + 256 * b2n r.world + 512 * b2n r.level + 65536 * r.count + 2 ^ 31 * b2n r.valid
    | 0x904 => r.pc
    | 0x908 => r.addr
    | 0x90C => r.tag
    | _ => 0

/-- A write of an SF_ register. -/
def sfWrite (ch : Ch) (d : Device) (o : Nat) (v : Word) (c : Channel) : Channel :=
  match o with
  | 0x04 => if v.getLsbD 31 then { c with sf := { c.sf with valid := false } } else c
  | 0x10 => sfReport ch d v c
  | 0x14 => { c with sf := sfWdog d v c.sf }
  | 0x900 => if v.getLsbD 31 then { c with core := { c.core with df := { c.core.df with valid := false } } } else c
  | _ => c

/-- A frame unit register (R131). -/
def fuRead (o : Nat) (f : FrameUnit) : Nat :=
  match o with
  | 0x00 => f.steps
  | 0x04 => f.regions
  | 0x08 => f.locs
  | 0x0C => f.count + 2 ^ 17 * b2n f.busy + 2 ^ 18 * b2n f.phase
  | 0x10 => f.first + 65536 * b2n f.fail
  | 0x14 => f.cycles
  | _ => 0

/-- A write of a frame unit register; the parameters keep their values while BUSY is 1. -/
def fuWrite (o : Nat) (v : Word) (f : FrameUnit) : FrameUnit :=
  let n := v.toNat
  match o with
  | 0x00 => if f.busy then f else { f with steps := n / 16 * 16 }
  | 0x04 => if f.busy then f else { f with regions := n / 8 * 8 }
  | 0x08 => if f.busy then f else { f with locs := n / 8 * 8 }
  | 0x0C =>
    let f := { (if f.busy then f else { f with count := bits n 10 0 } : FrameUnit) with phase := bit n 18 }
    if bit n 16 then frameGo f else f
  | _ => f

/-- A store to a block whose registers the spec does not lay out: it may clear interrupt sources there (R291). -/
def clearCauses (ch : Ch) (a : Nat) (v : Word) (c : Channel) : Channel :=
  { c with causes := (List.range 19).foldl (fun w i => if Config.clearsCause (unitOf ch c).val a v.toNat i then setBit w i false else w) c.causes }

/-- A read of the tamper view shows the channel its current words (R453). -/
def viewRead (x : Ext) (a : Nat) (c : Channel) : Word × Channel :=
  (x.peek c.outWrites a, { c with viewSeen := ((x.peek [] 0xF90000).toNat, (x.peek [] 0xF90004).toNat) })

/-- A channel core's read of a peripheral register. -/
def chanPeriphRead (x : Ext) (ch : Ch) (d : Device) (a : Nat) (c : Channel) : Word × Channel :=
  let o := a % 0x10000
  let plain (n : Nat) : Word × Channel := (BitVec.ofNat 32 n, c)
  match a / 0x10000 with
  | 0xF0 =>
    let r := ceRead o c
    (BitVec.ofNat 32 r.1, r.2)
  | 0xF1 => plain (pkRead ch o c)
  | 0xF2 => plain (hsRead o c.hash)
  | 0xF3 =>
    let r := rgRead ch d o c
    (BitVec.ofNat 32 r.1, r.2)
  | 0xF4 => plain (nvRead d o c)
  | 0xF5 => plain (atRead d o c.table)
  | 0xF6 => plain (sfRead ch d o c)
  | 0xF7 => if 0x8000 ≤ o ∧ o < 0x8018 then plain (fuRead (o - 0x8000) c.fu) else (openReg ch a c, c)
  | 0xF9 => viewRead x a c
  | _ => (openReg ch a c, c)

/-- A channel core's write of a peripheral register; the tamper view is read-only (R453), and a write to registers the
spec does not lay out changes nothing the spec names but the interrupt sources cleared there. -/
def chanPeriphWrite (ch : Ch) (d : Device) (a : Nat) (v : Word) (c : Channel) : Channel :=
  let o := a % 0x10000
  match a / 0x10000 with
  | 0xF0 => ceWrite ch d o v c
  | 0xF1 => pkWrite ch d o v c
  | 0xF2 => { c with hash := hsWrite o v c.hash }
  | 0xF3 => rgWrite ch d o v c
  | 0xF4 => nvWrite (unitOf ch c) d o v c
  | 0xF5 => atWrite (unitOf ch c) d o v c
  | 0xF6 => sfWrite ch d o v c
  | 0xF7 => if 0x8000 ≤ o ∧ o < 0x8018 then { c with fu := fuWrite (o - 0x8000) v c.fu } else clearCauses ch a v c
  | 0xF9 => c
  | _ => clearCauses ch a v c

/-- A core's read of a peripheral register. Management's tag, SD and card blocks (R515, R523, R527) lie outside its unit;
a read of NF_MEM_DATA is noted, for it advances NF_MEM_ADDR. -/
def periphRead (x : Ext) (ch : Ch) (d : Device) (a : Nat) (c : Channel) : Word × Channel :=
  if !c.table.mgmt then chanPeriphRead x ch d a c
  else
    let o := a % 0x10000
    match a / 0x10000 with
    | 0xF4 => (x.peek c.outWrites a, if o = 0x18 then { c with outWrites := c.outWrites ++ [(a, none)] } else c)
    | 0xF5 => (x.peek c.outWrites a, c)
    | 0xF6 => (x.peek c.outWrites a, c)
    | 0xF7 => (BitVec.ofNat 32 (atRead d o c.table), c)
    | 0xF8 => (BitVec.ofNat 32 (nvRead d o c), c)
    | 0xF9 =>
      let r := rgRead ch d o c
      (BitVec.ofNat 32 r.1, r.2)
    | _ => (openReg ch a c, c)

/-- A core's write of a peripheral register. -/
def periphWrite (ch : Ch) (d : Device) (a : Nat) (v : Word) (c : Channel) : Channel :=
  if !c.table.mgmt then chanPeriphWrite ch d a v c
  else
    let o := a % 0x10000
    match a / 0x10000 with
    | 0xF4 => { c with outWrites := c.outWrites ++ [(a, some v)] }
    | 0xF5 => { c with outWrites := c.outWrites ++ [(a, some v)] }
    | 0xF6 => { c with outWrites := c.outWrites ++ [(a, some v)] }
    | 0xF7 => atWrite (unitOf ch c) d o v c
    | 0xF8 => nvWrite (unitOf ch c) d o v c
    | 0xF9 => rgWrite ch d o v c
    | _ => clearCauses ch a v c

end Sys2Proof.Machine
end

