-- ==== Sys2Proof/Machine/KentenMem.lean ====
section
/-! DEFINITION. A core's accesses: segments, alignment, the access table, spills and fills, and how a fault is raised
(R251 to R255, R263, R264, R267, R268, R293). -/

namespace Sys2Proof.Machine

/-- The Inner world is current. -/
def Kenten.inWorld (k : Kenten) : Bool := pswInner k.psw

/-- Supervisor level is current. -/
def Kenten.sup (k : Kenten) : Bool := pswSup k.psw

/-- The context number accesses carry. -/
def Kenten.ctx (k : Kenten) : Nat := contextOf k.inWorld k.sup

/-- The bank of the current world. -/
def Kenten.bank (k : Kenten) : Bank := if k.inWorld then k.inner else k.outer

/-- The core with the current bank changed. -/
def Kenten.onBank (f : Bank → Bank) (k : Kenten) : Kenten :=
  if k.inWorld then { k with inner := f k.inner } else { k with outer := f k.outer }

/-- DEPTH of the current world. -/
def Kenten.depth (k : Kenten) : Nat := k.bank.depth

/-- A segment of the current world. -/
def Kenten.seg (k : Kenten) (i : Nat) : Seg := k.bank.segs.toList.getD i {}

/-- A slot as read at issue: what its stack register holds now (R267). -/
def Kenten.slot (k : Kenten) (s : Nat) : Word := k.regs.toList.getD (s % 16) 0

/-- A slot's register written. -/
def Kenten.setSlot (s : Nat) (v : Word) (k : Kenten) : Kenten :=
  { k with regs := k.regs.set (s % 16) v (Nat.mod_lt s (by decide)) }

/-- The top `n` slots, deepest first. -/
def Kenten.top (k : Kenten) (n : Nat) : List Word := (List.range n).map fun i => k.slot (k.depth - n + i)

/-- A result joins those on their way, after every one due no later (R268). -/
def insertLanding (l : Landing) : List Landing → List Landing
  | [] => [l]
  | x :: xs => if x.due ≤ l.due then x :: insertLanding l xs else l :: x :: xs

/-- Writes the slots of landed results. -/
def landAll : List Landing → Kenten → Kenten
  | [], k => k
  | l :: ls, k => landAll ls (k.setSlot l.slot l.value)

/-- Lands every result due by the current cycle. -/
def Kenten.land (k : Kenten) : Kenten :=
  landAll (k.landings.takeWhile fun l => l.due ≤ k.cycles)
    { k with landings := k.landings.dropWhile fun l => l.due ≤ k.cycles }

/-- Lands every pending result (R286). -/
def Kenten.landEvery (k : Kenten) : Kenten := landAll k.landings { k with landings := [] }

/-- One access an instruction makes: segment, offset, bytes, kind, and the WIDTH code of FINFO. -/
structure KExt where
  seg : Nat
  off : Nat
  width : Nat
  kind : Access
  code : Nat
  deriving DecidableEq, Repr

/-- FINFO of an access (R293). -/
def KExt.finfo (e : KExt) (opcode : Nat) : Nat :=
  e.seg + 8 * b2n (e.kind == .write) + 16 * b2n (e.kind == .fetch) + 32 * e.code + 256 * opcode

/-- The physical address of an access. -/
def KExt.phys (k : Kenten) (e : KExt) : Nat := ((k.seg e.seg).base + e.off) % 2 ^ 32

/-- Peripheral registers, reached by aligned words only (R26). -/
def isPeriph (a : Nat) : Bool := 0xF00000 ≤ a && a < 0x1000000

/-- The AT_ block of a unit (R327). -/
def isAtBlock (mgmt : Bool) (a : Nat) : Bool := if mgmt then a / 0x10000 = 0xF7 else a / 0x10000 = 0xF5

/-- The segment's check. -/
def limitBad (k : Kenten) (op : Nat) (e : KExt) : Option KFault :=
  let l := (k.seg e.seg).limit
  if e.width ≠ 0 ∧ l < e.off + e.width then some ⟨4, max e.off l, e.finfo op⟩ else none

/-- The alignment check. -/
def alignBad (k : Kenten) (op : Nat) (e : KExt) : Option KFault :=
  let a := e.phys k
  if e.seg ≠ 5 ∧ ((e.code = 2 ∧ a % 4 ≠ 0) ∨ (e.code = 1 ∧ a % 2 ≠ 0)) then some ⟨5, a, e.finfo op⟩ else none

/-- The access table's check and those of the peripheral range (R25, R26, R255, R327). -/
def accessBad (t : AccessTable) (k : Kenten) (op : Nat) (e : KExt) : Option KFault :=
  let a := e.phys k
  let word := e.code == 2 && a % 4 == 0 && e.kind != .fetch
  let bad := (e.seg = 5 ∧ !word) ∨ (isPeriph a ∧ !word) ∨
    !(if isAtBlock t.mgmt a then k.ctx == 0 else atAllows t k.ctx e.kind a && atAllows t k.ctx e.kind (a + e.width - 1))
  if e.width ≠ 0 ∧ bad then some ⟨6, a, e.finfo op⟩ else none

/-- An access that meets an uncorrectable word; a core's write, narrower than the word, has to read it first (R336, R337). -/
def memoryBad (t : AccessTable) (k : Kenten) (op : Nat) (e : KExt) : Option KFault :=
  if e.width = 0 then none
  else (badWordIn t (e.phys k) e.width).map fun _ => ⟨9, e.phys k, e.finfo op⟩

/-- The first check the extents of an instruction fail: LIMIT, then ALIGN, then ACCESS, then MEMORY (R264). -/
def extentsBad (c : Channel) (op : Nat) (es : List KExt) : Option KFault :=
  (es.findSome? (limitBad c.core op)).or <| (es.findSome? (alignBad c.core op)).or <|
    (es.findSome? (accessBad c.table c.core op)).or (es.findSome? (memoryBad c.table c.core op))

/-- The fetch of an instruction's bytes: LIMIT, ACCESS, MEMORY. -/
def fetchBad (c : Channel) (op len : Nat) : Option KFault :=
  let whole : KExt := ⟨0, c.core.pc, len, .fetch, 0⟩
  let bytes := (List.range len).map fun i => ({ whole with off := c.core.pc + i, width := 1 } : KExt)
  (limitBad c.core op whole).or <| (bytes.findSome? (accessBad c.table c.core op)).or
    (bytes.findSome? (memoryBad c.table c.core op))

/-- A little-endian value loaded by a core. -/
def coreLoad (x : Ext) (ch : Ch) (d : Device) (a w : Nat) (c : Channel) : Nat × Channel :=
  if isPeriph a then
    let r := periphRead x ch d a c
    (r.1.toNat, r.2)
  else (leNat (c.bytesAt a w), c)

/-- A value stored by a core, least significant byte first. -/
def coreStore (ch : Ch) (d : Device) (a w v : Nat) (c : Channel) : Channel :=
  if isPeriph a then periphWrite ch d a (BitVec.ofNat 32 v) c
  else c.store a (leBytes w v)

/-- Slots that leave the stack registers when DEPTH rises from `o` to `n` (R251). -/
def spilled (o n : Nat) : List Nat := List.range' (o - 16) ((n - 16) - (o - 16))

/-- Slots that re-enter them when DEPTH falls. -/
def filled (o n : Nat) : List Nat := List.range' (n - 16) ((o - 16) - (n - 16))

/-- The SSEG word of a slot. -/
def slotExt (kind : Access) (s : Nat) : KExt := ⟨2, 4 * s, 4, kind, 2⟩

/-- The accesses a change of DEPTH makes. -/
def depthExts (o n : Nat) : List KExt := (spilled o n).map (slotExt .write) ++ (filled o n).map (slotExt .read)

/-- Writes slots to their SSEG words. -/
def spillTo (ch : Ch) (d : Device) : List Nat → Channel → Channel
  | [], c => c
  | s :: ss, c => spillTo ch d ss (coreStore ch d ((slotExt .write s).phys c.core) 4 (c.core.slot s).toNat c)

/-- Reads slots back from their SSEG words. -/
def fillFrom (x : Ext) (ch : Ch) (d : Device) : List Nat → Channel → Channel
  | [], c => c
  | s :: ss, c =>
    let r := coreLoad x ch d ((slotExt .read s).phys c.core) 4 c
    fillFrom x ch d ss { r.2 with core := r.2.core.setSlot s (BitVec.ofNat 32 r.1) }

/-- DEPTH becomes `n`, with the spills or fills this takes; their cycles have passed. -/
def moveDepth (x : Ext) (ch : Ch) (d : Device) (n : Nat) (c : Channel) : Channel :=
  let o := c.core.depth
  let c := fillFrom x ch d (filled o n) (spillTo ch d (spilled o n) c)
  { c with core := c.core.onBank fun b => { b with depth := n } }

/-- Cycles pass before an instruction, and what is due by then lands (R251, R267). -/
def Kenten.advance (n : Nat) (k : Kenten) : Kenten := ({ k with cycles := k.cycles + n } : Kenten).land

/-- Cycles that a change of DEPTH from `o` to `n` inserts (R251). -/
def depthCycles (o n : Nat) : Nat := (spilled o n).length + (filled o n).length

/-- A unit whose core issues `i`: the cycles its spills and fills insert come before it, so its inputs are read after them (R251, R267). A
long instruction that resumes has had them (R277). -/
def atIssue (i : KOp) (c : Channel) : Channel :=
  let k := c.core
  if k.long then c else { c with core := k.advance (depthCycles k.depth (k.depth - i.pops + i.pushes)) }

/-- Whether an extent meets the flash window. -/
def inWindow (mgmt : Bool) (a n : Nat) : Bool := 0x800000 < a + n && a < if mgmt then 0xC00000 else 0xA00000

/-- Reads of the flash window by a core (R352, R356): an erase with AUTOSUSP suspends itself; none while the bank writes, and the core
stalls. -/
def flashReads (es : List (Nat × Nat)) (c : Channel) : Option Channel :=
  if es.any fun e => inWindow c.table.mgmt e.1 e.2 then
    let c := nvAutosuspend c
    if c.nv.writes then none else some c
  else some c

/-- A refused or uncorrectable access is captured and reported (R335, R337). -/
def captureFault (ch : Ch) (d : Device) (f : KFault) (c : Channel) : Channel :=
  let code := bits f.finfo 7 5
  let kind : Access := if bit f.finfo 3 then .write else if bit f.finfo 4 then .fetch else .read
  if f.vector = 6 then
    { c with table := atRefuse c.table 0 c.core.inWorld c.core.sup kind (2 ^ code) f.faddr }
  else if f.vector = 9 then
    let w := f.faddr / 8 * 8
    let c := { c with table := captureUncorr w 0 c.table }
    if c.table.mgmt then c else reportSafety ch d 0x07 w c
  else c

/-- A fault is raised: the instruction has no effect and waits for its entry (R264). -/
def raiseFault (ch : Ch) (d : Device) (f : KFault) (c : Channel) : Channel :=
  let c := captureFault ch d f c
  { c with core := { c.core with fault := some f } }

end Sys2Proof.Machine
end

