-- ==== Sys2Proof/Machine/KentenOps.lean ====
section
/-! DEFINITION. What each Kenten instruction computes, checks and does (R252 to R259, R265 to R274, R287). -/

namespace Sys2Proof.Machine

/-- What an instruction does once its inputs are read. -/
inductive KAct where
  /-- Raises a fault of the given vector. -/
  | fault (vector : Nat)
  /-- A branch target not below CSEG.LIMIT (R272). -/
  | far (target : Nat)
  /-- Pushes results; the PSW after it. -/
  | push (outs : List Word) (psw : Word)
  /-- Writes an accumulator. -/
  | acc (k : Bool) (v : Int) (psw : Word)
  /-- Loads through an extent. -/
  | load (e : KExt)
  /-- Stores a value through an extent. -/
  | store (e : KExt) (v : Nat)
  /-- A branch: taken or not, its target, its outputs. -/
  | branch (taken : Bool) (target : Nat) (outs : List Word)
  /-- Changes the core's registers. -/
  | sys (k : Kenten)

/-- The input `i` of a list of inputs, deepest first. -/
def inp (ins : List Word) (i : Nat) : Word := ins.getD i 0

/-- Sign extension to 32 bits. -/
def sext8 (i : Byte) : Word := i.signExtend 32
def sext16 (i : Half) : Word := i.signExtend 32

/-- An accumulator of the current world. -/
def Kenten.acc (k : Kenten) (i : Bool) : Acc := if i then k.bank.a1 else k.bank.a0

/-- The value RDA and RDAS read: every write but one issued in the cycle before (R269). -/
def Kenten.accRead (k : Kenten) (i : Bool) : Int :=
  let a := k.acc i
  if a.wrote = some (k.cycles - 1) ∧ k.cycles ≠ 0 then a.before else a.value

/-- An accumulator written; `at'` is the cycle of the write, none for a long instruction. -/
def Kenten.accWrite (i : Bool) (v : Int) (at' : Option Nat) (k : Kenten) : Kenten :=
  k.onBank fun b =>
    if i then { b with a1 := ⟨v, b.a1.value, at'⟩ } else { b with a0 := ⟨v, b.a0.value, at'⟩ }

/-- A Q1.31 product rounded to 31 fraction bits. -/
def mulQ (p : Word) (x y : Word) : Int := roundDiv (pswRnd p) (x.toInt * y.toInt) (2 ^ 31)

/-- A taken shift left. -/
def shiftLeft (p a : Word) (n : Nat) : Word × Word := fit32 p (a.toInt * 2 ^ n)

/-- A branch target: a signed byte offset from the branch's own address, modulo 2^32. -/
def relTarget (pc : Nat) (r : Int) : Nat := ((pc + r) % 2 ^ 32).toNat

/-- FEAT registers of a channel core and of management's (R287). -/
def featWord (mgmt : Bool) (n : Nat) : Word :=
  match n with
  | 0 => if mgmt then 0xDFF else 0xFFF
  | 1 => 0x3F
  | 2 => if mgmt then 0 else 0x00081FFF
  | 3 => if mgmt then 0 else 0x00003FFF
  | 4 => if mgmt then 0 else 0x0008481F
  | 5 => if mgmt then 0 else 0x00011FFE
  | 6 => 0x02320610
  | _ => 0

/-- PROG as read. -/
def Kenten.prog (k : Kenten) : Nat := k.loop % 65536 + 65536 * (k.step % 65536)

/-- The TIMER source: the cycle counter is at or above TCMP (R291). -/
def Kenten.timer (k : Kenten) : Bool := k.tcmp ≤ k.cycles

/-- IRQ_PEND. -/
def irqPend (x : Ext) (k : Kenten) : Nat := (x.irq / 2 * 2) % 2 ^ 19 + b2n k.timer

/-- A special register's value (R260, R290). -/
def srRead (x : Ext) (k : Kenten) (n : Nat) : Nat :=
  match n with
  | 0 => k.psw.toNat
  | 1 => k.prog
  | 2 => k.lpStart
  | 3 => k.lpEnd
  | 4 => k.lpCount
  | 5 => k.lpStride
  | 6 => k.cycles
  | 7 => k.cycleHi
  | 8 => k.hblkWait
  | 9 => k.dvq.toNat
  | 10 => k.dvr.toNat
  | 16 => k.wcsBaseI
  | 17 => k.wcsLimitI
  | 18 => k.wcsBaseO
  | 19 => k.wcsLimitO
  | 20 => k.frameBaseI
  | 21 => k.framePtrI
  | 22 => k.frameBaseO
  | 23 => k.framePtrO
  | 24 => k.irqEn
  | 25 => irqPend x k
  | 26 => k.irqWorld
  | 27 => k.froute
  | 28 => k.gateEn
  | 29 => k.tcmpLow
  | 30 => k.tcmp / 2 ^ 32
  | 31 => k.traceTag
  | 43 => k.frameTopI
  | 44 => k.frameTopO
  | _ =>
    if 32 ≤ n ∧ n ≤ 41 then
      let s := k.outer.segs.toList.getD ((n - 32) / 2 + 1) {}
      if n % 2 = 0 then s.base else s.limit
    else 0

/-- Reserved special register numbers. -/
def srReserved (n : Nat) : Bool := (11 ≤ n && n ≤ 15) || 45 ≤ n

/-- Whether a read needs a level the core lacks. -/
def srReadPriv (k : Kenten) (n : Nat) : Bool :=
  if n = 9 ∨ n = 10 then !k.sup
  else if n < 16 then false
  else if n = 22 ∨ n = 23 ∨ n = 44 then !k.sup
  else !(k.inWorld && k.sup)

/-- Whether a write is refused for want of level or world. -/
def srWritePriv (k : Kenten) (n : Nat) : Bool := !k.sup || (16 ≤ n && !k.inWorld)

/-- Whether a special register refuses a value with RANGE (R290). -/
def srRange (k : Kenten) (n v : Nat) : Bool :=
  match n with
  | 16 | 18 => v % 16 ≠ 0
  | 17 => v < 1024 || 2 ^ 32 < k.wcsBaseI + v
  | 19 => (v ≠ 0 && v < 1024) || 2 ^ 32 < k.wcsBaseO + v
  | 20 | 21 | 22 | 23 => v % 16 ≠ 0
  | 24 | 26 => 2 ^ 19 ≤ v
  | 27 => v % 2 = 1 || 1024 ≤ v
  | 43 => v % 16 ≠ 0 || (v ≠ 0 && v < k.frameBaseI + 80)
  | 44 => v % 16 ≠ 0 || (v ≠ 0 && v < k.frameBaseO + 80)
  | _ =>
    if 32 ≤ n ∧ n ≤ 41 then
      let s := k.outer.segs.toList.getD ((n - 32) / 2 + 1) {}
      n % 2 = 1 && 2 ^ 32 < s.base + v
    else false

/-- A segment register of a bank written. -/
def Bank.setSeg (i : Nat) (s : Seg) (b : Bank) : Bank :=
  { b with segs := b.segs.set (i % 6) s (Nat.mod_lt i (by decide)) }

/-- A special register written (R259, R260, R290); RANGE was checked before. -/
def srWrite (n : Nat) (w : Word) (k : Kenten) : Kenten :=
  let v := w.toNat
  match n with
  | 0 => { k with psw := (k.psw &&& 0xFFFFFEF0) ||| (w &&& 0x10F) }
  | 1 => { k with loop := v % 65536, step := v / 65536 }
  | 2 => { k with lpStart := v }
  | 3 => { k with lpEnd := v }
  | 4 => { k with lpCount := v }
  | 5 => { k with lpStride := v }
  | 8 => { k with hblkWait := v }
  | 9 => { k with dvq := w }
  | 10 => { k with dvr := w }
  | 16 => { k with wcsBaseI := v }
  | 17 => { k with wcsLimitI := v }
  | 18 => { k with wcsBaseO := v }
  | 19 => { k with wcsLimitO := v }
  | 20 => { k with frameBaseI := v }
  | 21 => { k with framePtrI := v }
  | 22 => { k with frameBaseO := v }
  | 23 => { k with framePtrO := v }
  | 24 => { k with irqEn := v }
  | 26 => { k with irqWorld := v }
  | 27 => { k with froute := v }
  | 28 => { k with gateEn := v }
  | 29 => { k with tcmpLow := v }
  | 30 => { k with tcmp := v * 2 ^ 32 + k.tcmpLow }
  | 31 => { k with traceTag := v }
  | 42 => if v % 2 = 1 then { k with outer := { k.outer with a0 := {}, a1 := {} } } else k
  | 43 => { k with frameTopI := v }
  | 44 => { k with frameTopO := v }
  | _ =>
    if 32 ≤ n ∧ n ≤ 41 then
      let i := (n - 32) / 2 + 1
      let s := k.outer.segs.toList.getD i {}
      { k with outer := k.outer.setSeg i (if n % 2 = 0 then { s with base := v } else { s with limit := v }) }
    else k

/-- What an instruction does with its inputs; `after` is the offset after a branch's delay slots. Long and world-changing instructions have rules of their own. -/
def kAct (x : Ext) (mgmt : Bool) (after : Nat) (k : Kenten) (i : KOp) (ins : List Word) : KAct :=
  let p := k.psw
  let a := inp ins 0
  let b := inp ins 1
  let one (w : Word) : KAct := .push [w] p
  let fitted (r : Word × Word) : KAct := .push [r.1] r.2
  let jump (cond : Bool) (target : Nat) (outs : List Word) : KAct :=
    if cond && (k.seg 0).limit ≤ target then .far target else .branch cond target outs
  match i with
  | .nop => .push [] p
  | .drop | .drop2 => .push [] p
  | .dup => .push [a, a] p
  | .swap => .push [b, a] p
  | .over => .push [a, b, a] p
  | .rot => .push [b, inp ins 2, a] p
  | .nip => one b
  | .pick n => one (k.slot (k.depth - 1 - n))
  | .depth => one (BitVec.ofNat 32 k.depth)
  | .dup2 => .push [a, b, a, b] p
  | .push8 v => one (sext8 v)
  | .push16 v => one (sext16 v)
  | .push32 v => one v
  | .pushu8 v => one (v.zeroExtend 32)
  | .pushu16 v => one (v.zeroExtend 32)
  | .pushh v => one (v ++ (0 : Half))
  | .add => fitted (fit32 p (a.toInt + b.toInt))
  | .sub => fitted (fit32 p (a.toInt - b.toInt))
  | .neg => fitted (fit32 p (-a.toInt))
  | .abs => fitted (fit32 p (if a.toInt < 0 then -a.toInt else a.toInt))
  | .min => one (if b.toInt < a.toInt then b else a)
  | .max => one (if a.toInt < b.toInt then b else a)
  | .addi8 v => fitted (fit32 p (a.toInt + v.toInt))
  | .addi16 v => fitted (fit32 p (a.toInt + v.toInt))
  | .eq => one (flagWord (a == b))
  | .ne => one (flagWord (a != b))
  | .lt => one (flagWord (decide (a.toInt < b.toInt)))
  | .le => one (flagWord (decide (a.toInt ≤ b.toInt)))
  | .ltu => one (flagWord (decide (a.toNat < b.toNat)))
  | .leu => one (flagWord (decide (a.toNat ≤ b.toNat)))
  | .sel => one (if inp ins 2 = 0 then b else a)
  | .addw => one (a + b)
  | .and => one (a &&& b)
  | .or => one (a ||| b)
  | .xor => one (a ^^^ b)
  | .not => one (~~~a)
  | .shl n => fitted (shiftLeft p a n)
  | .shr n => one (a >>> n)
  | .sarr n => one (BitVec.ofInt 32 (roundDiv (pswRnd p) a.toInt (2 ^ n)))
  | .shlv => fitted (shiftLeft p a (b.toNat % 32))
  | .shrv => one (a >>> (b.toNat % 32))
  | .sarv => one (BitVec.ofInt 32 (roundDiv (pswRnd p) a.toInt (2 ^ (b.toNat % 32))))
  | .clz => one (BitVec.ofNat 32 (if a = 0 then 32 else 31 - Nat.log2 a.toNat))
  | .subw => one (a - b)
  | .mul => fitted (fit32 p (a.toInt * b.toInt))
  | .mulq => fitted (fit32 p (mulQ p a b))
  | .add2 => fitted (fitPair p (pairHi a + pairHi b) (pairLo a + pairLo b))
  | .sub2 => fitted (fitPair p (pairHi a - pairHi b) (pairLo a - pairLo b))
  | .mul2 => fitted (fitPair p (roundDiv (pswRnd p) (pairHi a * pairHi b) (2 ^ 15))
      (roundDiv (pswRnd p) (pairLo a * pairLo b) (2 ^ 15)))
  | .pack => fitted (fitPair p (roundDiv (pswRnd p) a.toInt (2 ^ 16)) (roundDiv (pswRnd p) b.toInt (2 ^ 16)))
  | .unpk => .push [a.extractLsb' 16 16 ++ (0 : Half), a.extractLsb' 0 16 ++ (0 : Half)] p
  | .clra n => .acc n 0 p
  | .lda n => .acc n a.toInt p
  | .mac n => let r := fit p 40 ((k.acc n).value + mulQ p a b); .acc n r.1 r.2
  | .msu n => let r := fit p 40 ((k.acc n).value - mulQ p a b); .acc n r.1 r.2
  | .rda n => fitted (fit32 p (k.accRead n))
  | .rdas n s => fitted (fit32 p (roundDiv (pswRnd p) (k.accRead n) (2 ^ s)))
  | .adda n => let r := fit p 40 ((k.acc n).value + a.toInt); .acc n r.1 r.2
  | .ldw s => .load ⟨s, a.toNat, 4, .read, 2⟩
  | .ldwi s o => .load ⟨s, o.toNat, 4, .read, 2⟩
  | .ldh s => .load ⟨s, a.toNat, 2, .read, 1⟩
  | .ldb s => .load ⟨s, a.toNat, 1, .read, 0⟩
  | .stw s => .store ⟨s, b.toNat, 4, .write, 2⟩ a.toNat
  | .stwi s o => .store ⟨s, o.toNat, 4, .write, 2⟩ a.toNat
  | .sth s => .store ⟨s, b.toNat, 2, .write, 1⟩ a.toNat
  | .stb s => .store ⟨s, b.toNat, 1, .write, 0⟩ a.toNat
  | .br r => jump true (relTarget k.pc r.toInt) []
  | .brs r => jump true (relTarget k.pc r.toInt) []
  | .bz r => jump (a == 0) (relTarget k.pc r.toInt) []
  | .bnz r => jump (a != 0) (relTarget k.pc r.toInt) []
  | .call r => jump true (relTarget k.pc r.toInt) [BitVec.ofNat 32 after]
  | .ret => jump true a.toNat []
  | .jmp => jump true a.toNat []
  | .feat n => one (featWord mgmt n)
  | .mfsr n => one (BitVec.ofNat 32 (srRead x k n))
  | .mtsr n => if srRange k n a.toNat then .fault 7 else .sys (srWrite n a k)
  | .segr s => .push [if k.sup then BitVec.ofNat 32 (k.seg s).base else 0, BitVec.ofNat 32 (k.seg s).limit] p
  | .segw s =>
    if 2 ^ 32 < a.toNat + b.toNat then .fault 7
    else .sys (k.onBank fun y => y.setSeg s ⟨a.toNat, b.toNat⟩)
  | .setrnd m => .push [] ((p &&& 0xFFFFFFFC) ||| BitVec.ofNat 32 (m % 4))
  | .setsat m => .push [] ((p &&& 0xFFFFFFFB) ||| BitVec.ofNat 32 (4 * (m % 2)))
  | .clrov => .push [] (p &&& 0xFFFFFFF7)
  | .brk _ => .fault 8
  | .wait => .sys { k with waiting := true }
  | _ => .push [] p

/-- PRIVILEGE at decode. -/
def kPriv (k : Kenten) : KOp → Bool
  | .rete => !k.sup
  | .mfsr n => srReadPriv k n
  | .mtsr n => srWritePriv k n
  | .segw _ => !k.sup
  | .wait => !(k.sup && k.inWorld)
  | .hblk _ => k.inWorld
  | _ => false

/-- The instruction at a CSEG offset, with its length. -/
def opAt (c : Channel) (off : Nat) : KOp :=
  let b := ((c.core.seg 0).base + off) % 2 ^ 32
  let o := (c.byteAt b).toNat
  KOp.ofCode o (leNat (c.bytesAt (b + 1) (codeLen o - 1)))

/-- The first byte of a branch's two delay slots at or beyond CSEG.LIMIT, and the first byte after the slots (R274). -/
def slotsOf (c : Channel) (after : Nat) : Option Nat × Nat :=
  let l := (c.core.seg 0).limit
  if l ≤ after then (some after, after + 2)
  else
    let n1 := (opAt c after).len
    if l < after + n1 then (some l, after + n1 + 1)
    else
      let s2 := after + n1
      if l ≤ s2 then (some s2, s2 + 1)
      else
        let n2 := (opAt c s2).len
        if l < s2 + n2 then (some l, s2 + n2) else (none, s2 + n2)

/-- ILLEGAL at decode: opcode, immediate, special register number, delay slot (R273), loop body (R283). -/
def kIllegal (c : Channel) (i : KOp) : Bool :=
  let k := c.core
  let cls := i.cls
  let place := match i with
    | .gate _ | .rete | .wait => true
    | _ => false
  let sr := match i with
    | .mfsr n => srReserved n
    | .mtsr n => srReserved n || n == 6 || n == 7
    | _ => false
  let same := match i with
    | .gate n => (n < 128 && k.inWorld) || (128 ≤ n && n / 16 % 8 ≠ 0)
    | _ => false
  let body := match i with
    | .loops _ | .call _ | .ret | .jmp => true
    | _ => cls == .b && k.lpEnd < (slotsOf c (k.pc + i.len)).2
  let absent := match i with
    | .hblk _ => c.table.mgmt
    | _ => false
  i.badImm || sr || same || absent || (k.branch.isSome && (cls == .b || cls == .x || place)) || (k.looping && (place || body))

/-- The checks at issue that come before the inputs are read: fetch, ILLEGAL, PRIVILEGE, delay slots, STACK (R264). -/
def preFault (c : Channel) (i : KOp) : Option KFault :=
  let k := c.core
  let o := i.opcode
  (fetchBad c o i.len).or <|
    if kIllegal c i then some ⟨1, 0, 256 * o⟩
    else if kPriv k i then some ⟨2, 0, 256 * o⟩
    else match if i.cls == .b then (slotsOf c (k.pc + i.len)).1 else none with
      | some f => some ⟨4, f, 16 + 256 * o⟩
      | none => if k.depth < i.needs then some ⟨3, 0, 256 * o⟩ else none

/-- The registers after an instruction of `len` bytes: a pending branch's slots count down, and control passes on
(R271, R284). A loop's end is the caller's. -/
def nextPc (len : Nat) (k : Kenten) : Kenten :=
  match k.branch with
  | none => { k with pc := k.pc + len }
  | some b =>
    if 1 < b.slots then { k with pc := k.pc + len, branch := some { b with slots := b.slots - 1 } }
    else { k with pc := if b.taken && !k.looping then b.target else k.pc + len, branch := none }

/-- The value the loop pushes at the start of an iteration, read by the body's first instruction (R282). -/
def pushIteration (x : Ext) (ch : Ch) (d : Device) (n : Nat) (c : Channel) : Channel :=
  let dp := c.core.depth
  match extentsBad c 0xB2 (depthExts dp (dp + 1)) with
  | some f => raiseFault ch d f c
  | none =>
    let c := moveDepth x ch d (dp + 1) { c with core := c.core.advance (spilled dp (dp + 1)).length }
    { c with core := { c.core with
      landings := insertLanding ⟨c.core.cycles, dp, BitVec.ofNat 32 (n * c.core.lpStride)⟩ c.core.landings } }

/-- At the end of a loop body: the loop ends, at its recorded target or at LP_END, or the next iteration begins (R282,
R284). -/
def loopEnd (x : Ext) (ch : Ch) (d : Device) (c : Channel) : Channel :=
  let k := c.core
  if !k.looping || k.pc < k.lpEnd then c
  else
    let n := (k.loop + 1) % 65536
    let out (pc : Nat) : Channel := { c with core := { k with loop := n, looping := false, lpExit := none, pc := pc } }
    match k.lpExit with
    | some t => out t
    | none =>
      if k.lpCount ≤ n then out k.lpEnd
      else pushIteration x ch d n { c with core := { k with loop := n, pc := k.lpStart } }

/-- Results pushed at `base`, due `lat` cycles from now. -/
def pushResults (base lat : Nat) : List Word → Kenten → Kenten
  | [], k => k
  | v :: vs, k =>
    pushResults (base + 1) lat vs { k with landings := insertLanding ⟨k.cycles + lat, base, v⟩ k.landings }

/-- The end of an ordinary instruction: its cycle, its PC, its loop. -/
def kDone (x : Ext) (ch : Ch) (d : Device) (len : Nat) (c : Channel) : Channel :=
  loopEnd x ch d { c with core := nextPc len { c.core with cycles := c.core.cycles + 1 } }

/-- An ordinary instruction whose early checks passed. A load that the flash bank holds up leaves the unit as it was (R266). -/
def kRun (x : Ext) (ch : Ch) (d : Device) (i : KOp) (c0 : Channel) : Channel :=
  let c := atIssue i c0
  let k := c.core
  let o := i.opcode
  let base := k.depth - i.pops
  let newDepth := base + i.pushes
  let moves := depthExts k.depth newDepth
  let guarded (es : List KExt) (go : Channel → Channel) : Channel :=
    match extentsBad c o es with
    | some f => raiseFault ch d f c
    | none => match flashReads ((es.filter fun e => e.kind != .write).map fun e => (e.phys k, e.width)) c with
      | none => c0
      | some c => go (moveDepth x ch d newDepth c)
  let after := if i.cls == .b then (slotsOf c (k.pc + i.len)).2 else 0
  match kAct x c.table.mgmt after k i (k.top i.pops) with
  | .fault v => raiseFault ch d ⟨v, 0, 256 * o⟩ c
  | .far t => raiseFault ch d ⟨4, t, 16 + 256 * o⟩ c
  | .push outs p =>
    guarded moves fun c =>
      let k := { c.core with psw := p, cycleHi := match i with
        | .mfsr 6 => c.core.cycles / 2 ^ 32
        | _ => c.core.cycleHi }
      kDone x ch d i.len { c with core := pushResults base i.cls.latency outs k }
  | .acc n v p =>
    guarded moves fun c =>
      kDone x ch d i.len { c with core := { (c.core.accWrite n v (some c.core.cycles)) with psw := p } }
  | .load e =>
    guarded (moves ++ [e]) fun c =>
      let r := coreLoad x ch d (e.phys k) e.width c
      let v : Word := if e.code = 1 then sext16 (BitVec.ofNat 16 r.1) else BitVec.ofNat 32 r.1
      kDone x ch d i.len { r.2 with core := pushResults base i.cls.latency [v] r.2.core }
  | .store e v =>
    guarded (moves ++ [e]) fun c => kDone x ch d i.len (coreStore ch d (e.phys k) e.width (v % 2 ^ (8 * e.width)) c)
  | .branch taken target outs =>
    guarded moves fun c =>
      let k := pushResults base i.cls.latency outs c.core
      let exit := if taken && k.looping && k.lpExit.isNone then some target else k.lpExit
      { c with core := { k with
        cycles := k.cycles + 1, pc := k.pc + i.len, branch := some ⟨2, taken, target⟩, lpExit := exit } }
  | .sys k' =>
    guarded moves fun c =>
      kDone x ch d i.len { c with core := { k' with
        regs := c.core.regs, inner := { k'.inner with depth := c.core.inner.depth }
        outer := { k'.outer with depth := c.core.outer.depth } } }

end Sys2Proof.Machine
end

