-- ==== Sys2Proof/Machine/KentenLong.lean ====
section
/-! DEFINITION. Long instructions: BMOV, VMAC, LOOPS, HBLK, DIVS (R275 to R284). -/

namespace Sys2Proof.Machine

/-- Requested interrupts: pending and enabled (R302). -/
def requested (x : Ext) (k : Kenten) : Nat := irqPend x k &&& k.irqEn

/-- The lowest requested interrupt that the current world takes with MASK clear (R294, R302). -/
def takeable (x : Ext) (k : Kenten) : Option Nat :=
  if pswMask k.psw then none
  else (List.range 19).find? fun b => (requested x k).testBit b && (!k.irqWorld.testBit b || !k.inWorld)

/-- A boundary at which an interrupt may be taken: no result is pending, no delay slot is next, the core runs (R285). -/
def atBoundary (k : Kenten) : Bool :=
  let pendingAcc (a : Acc) : Bool := match a.wrote with
    | some t => k.cycles < t + 2
    | none => false
  k.landings.isEmpty && k.branch.isNone && k.fault.isNone && k.dfault.isNone && !k.halted &&
    !pendingAcc k.bank.a0 && !pendingAcc k.bank.a1

/-- Whether a long instruction yields after a completed step: to an interrupt that can be taken there, the timer's among them, or to
a request that arrives during the step (R277, R285). -/
def yields (x : Ext) (arrives : Bool) (k : Kenten) : Bool :=
  atBoundary k.land && ((takeable x k).isSome || (arrives && !pswMask k.psw))

/-- Runs up to `fuel` steps of `cost` cycles from step `i`: the state after them, the steps completed, the fault that ended them.
`stop` counts the steps to the arrival of a request. -/
def longSteps (x : Ext) (cost : Nat) (f : Nat → Channel → Except KFault Channel) :
    Nat → Option Nat → Nat → Channel → Channel × Nat × Option KFault
  | 0, _, i, c => (c, i, none)
  | fuel + 1, stop, i, c =>
    match f i c with
    | .error e => (c, i, some e)
    | .ok c =>
      let c := { c with core := { c.core with cycles := c.core.cycles + cost } }
      if fuel ≠ 0 && yields x (stop == some 1) c.core then (c, i + 1, none)
      else longSteps x cost f fuel (stop.map (· - 1)) (i + 1) c

/-- The pieces of at most 64 bytes the table checks an extent by (R326). -/
def pieces (e : KExt) : List KExt :=
  (List.range (e.width / 64 + 1)).map fun j => { e with off := e.off + 64 * j, width := min 64 (e.width - 64 * j) }

/-- ACCESS and MEMORY of a step's extents. -/
def stepBad (c : Channel) (op : Nat) (es : List KExt) : Option KFault :=
  (es.findSome? fun e => (pieces e).findSome? (accessBad c.table c.core op)).or
    (es.findSome? fun e => (pieces e).findSome? (memoryBad c.table c.core op))

/-- The checks of a long instruction at issue, its spills and fills and its whole extents: LIMIT, then ALIGN, then what the spills and
fills meet of ACCESS and MEMORY; the extents meet those step by step (R264, R276). -/
def longBad (c : Channel) (op : Nat) (moves whole : List KExt) (align : KExt → Option KFault) : Option KFault :=
  ((moves ++ whole).findSome? (limitBad c.core op)).or <| (moves.findSome? (alignBad c.core op)).or <|
    (whole.findSome? align).or (extentsBad c op moves)

/-- A long instruction whose issue checks passed: its steps from PROG.STEP, its cycles (set-up, and `cost` for each step), and its last
step's pops and pushes (R275, R277). -/
def longRun (x : Ext) (ch : Ch) (d : Device) (i : KOp) (total setup cost : Nat) (stop : Option Nat)
    (f : Nat → Channel → Except KFault Channel) (outs : Channel → List Word) (last : Channel → Channel) (c : Channel) :
    Channel :=
  let k := c.core
  let start := if k.long then k.step else 0
  let setup := if k.long then 2 else setup
  match longSteps x cost f (total - start) stop start { c with core := { k with cycles := k.cycles + setup } } with
  | (c, n, e) =>
    let c := { c with core := { c.core with step := n % 65536, long := n != 0 } }
    match e with
    | some fl => raiseFault ch d fl c
    | none =>
      if n < total then c
      else
        let os := outs c
        let c := last c
        let base := k.depth - i.pops
        let c := moveDepth x ch d (base + i.pushes) { c with core := { c.core with step := 0, long := false } }
        let c := { c with core := { c.core with cycles := c.core.cycles - 1 } }
        kDone x ch d i.len { c with core := pushResults base 1 os c.core }

/-- Runs a long instruction unless the flash bank holds its reads up: the unit is then as it was (R266, R352). -/
def longReads (es : List KExt) (c0 : Channel) (go : Channel → Channel) (c : Channel) : Channel :=
  match flashReads (es.map fun e => (e.phys c.core, e.width)) c with
  | none => c0
  | some c => go c

/-- BMOV (R278). -/
def kBmov (x : Ext) (ch : Ch) (d : Device) (m : Nat) (stop : Option Nat) (c0 : Channel) : Channel :=
  let c := atIssue (.bmov m) c0
  let k := c.core
  let ins := k.top 3
  let src := (inp ins 0).toNat
  let dst := (inp ins 1).toNat
  let len := (inp ins 2).toNat
  let rd (o n : Nat) : KExt := ⟨m % 8, o, n, .read, 3⟩
  let wr (o n : Nat) : KExt := ⟨m / 8 % 8, o, n, .write, 3⟩
  if 65535 < len then raiseFault ch d ⟨7, 0, 0xB000⟩ c
  else match longBad c 0xB0 (depthExts k.depth (k.depth - 3)) [rd src len, wr dst len] (fun _ => none) with
    | some e => raiseFault ch d e c
    | none => c |> longReads [rd src len] c0 fun c =>
      longRun x ch d (.bmov m) (ceilDiv len 8) 2 1 stop
        (fun i c =>
          let n := min 8 (len - 8 * i)
          let r := rd (src + 8 * i) n
          let w := wr (dst + 8 * i) n
          match stepBad c 0xB0 [r, w] with
          | some e => .error e
          | none => .ok ((List.range n).foldl (fun c j =>
              c.storeByte (w.phys k + j) (c.byteAt (r.phys k + j))) c))
        (fun _ => []) (fun c => c) c

/-- One addition of VMAC to its accumulator, with overflow applied (R256). -/
def accAdd (n : Bool) (v : Int) (k : Kenten) : Kenten :=
  let r := fit k.psw 40 ((k.acc n).value + v)
  { (k.accWrite n r.1 none) with psw := r.2 }

/-- VMAC (R279). -/
def kVmac (x : Ext) (ch : Ch) (d : Device) (m : Nat) (stop : Option Nat) (c0 : Channel) : Channel :=
  let c := atIssue (.vmac m) c0
  let k := c.core
  let ins := k.top 3
  let ox := (inp ins 0).toNat
  let oy := (inp ins 1).toNat
  let n := (inp ins 2).toNat
  let rdx (i w : Nat) : KExt := ⟨m % 8, ox + 4 * i, w, .read, 3⟩
  let rdy (i w : Nat) : KExt := ⟨m / 8 % 8, oy + 4 * i, w, .read, 3⟩
  let whole := [rdx 0 (4 * n), rdy 0 (4 * n)]
  let align (e : KExt) : Option KFault :=
    if e.width ≠ 0 ∧ e.seg ≠ 5 ∧ e.phys k % 4 ≠ 0 then some ⟨5, e.phys k, e.finfo 0xB1⟩ else none
  if 65535 < n then raiseFault ch d ⟨7, 0, 0xB100⟩ c
  else match longBad c 0xB1 (depthExts k.depth (k.depth - 3)) whole align with
    | some e => raiseFault ch d e c
    | none => c |> longReads whole c0 fun c =>
      let acc := bit m 6
      longRun x ch d (.vmac m) n 4 1 stop
        (fun i c =>
          match stepBad c 0xB1 [rdx i 4, rdy i 4] with
          | some e => .error e
          | none =>
            let a : Word := BitVec.ofNat 32 (leNat (c.bytesAt ((rdx i 4).phys k) 4))
            let b : Word := BitVec.ofNat 32 (leNat (c.bytesAt ((rdy i 4).phys k) 4))
            let k' :=
              if m.testBit 7 then accAdd acc (2 * (pairLo a * pairLo b)) (accAdd acc (2 * (pairHi a * pairHi b)) c.core)
              else accAdd acc (mulQ c.core.psw a b) c.core
            .ok { c with core := k' })
        (fun _ => []) (fun c => c) c

/-- DIVS (R280). -/
def kDivs (x : Ext) (ch : Ch) (d : Device) (n : Nat) (stop : Option Nat) (c : Channel) : Channel :=
  let c := atIssue (.divs n) c
  let k := c.core
  let ins := k.top 2
  let a := inp ins 0
  let b := inp ins 1
  if b = 0 then raiseFault ch d ⟨7, 0, 0xB400⟩ c
  else match extentsBad c 0xB4 (depthExts k.depth (k.depth - 1)) with
    | some e => raiseFault ch d e c
    | none =>
      let num := a.toInt * 2 ^ n * (if b.toInt < 0 then (-1) else 1)
      let q (c : Channel) : Word × Word := fit32 c.core.psw (roundDiv (pswRnd c.core.psw) num b.toInt.natAbs)
      longRun x ch d (.divs n) 16 2 1 stop
        (fun i c => .ok { c with core := { c.core with dvq := Config.divQ a b n (i + 1), dvr := Config.divR a b n (i + 1) } })
        (fun c => [(q c).1]) (fun c => { c with core := { c.core with psw := (q c).2 } }) c

/-- Block bytes and block cycles of hash context 3. -/
def hblkBlock (c : Channel) : Nat := hashBlock (algOf (c.hash.ctx 3).alg)
def hblkCycles (c : Channel) : Nat := if (c.hash.ctx 3).alg = 1 then 66 else 82

/-- Cycles HBLK waits while the hash engine serves another context, counted in HBLK_WAIT (R281); context 0's lane keeps no other
context waiting (R194). -/
def hblkWaits (wait : Nat) (c : Channel) : Channel :=
  if c.hash.main.isEmpty then c
  else { c with core := { c.core with
    hblkWait := min (c.core.hblkWait + wait) 0xFFFFFFFF, cycles := c.core.cycles + wait } }

/-- HBLK_INIT (R281). -/
def kHblkInit (x : Ext) (ch : Ch) (d : Device) (m wait : Nat) (c : Channel) : Channel :=
  let c := hblkWaits wait c
  let c := { c with hash := onHashCtx 3 (fun _ => { alg := m % 8 + 1, opened := true }) c.hash }
  longRun x ch d (.hblk m) 0 2 1 none (fun _ c => .ok c) (fun _ => []) (fun c => c) c

/-- HBLK_FEED (R281): a step is one block; bytes short of a block stay in the context. -/
def kHblkFeed (x : Ext) (ch : Ch) (d : Device) (m wait : Nat) (stop : Option Nat) (c0 : Channel) : Channel :=
  let c := atIssue (.hblk m) c0
  let k := c.core
  let ins := k.top 2
  let o := (inp ins 0).toNat
  let len := (inp ins 1).toNat
  let whole : KExt := ⟨m / 8 % 8, o, len, .read, 3⟩
  if 65535 < len ∨ !(c.hash.ctx 3).opened then raiseFault ch d ⟨7, 0, 0xB300⟩ c
  else match longBad c 0xB3 (depthExts k.depth (k.depth - 2)) [whole] (fun _ => none) with
    | some e => raiseFault ch d e c
    | none => c |> longReads [whole] c0 fun c =>
      let blk := hblkBlock c
      let held := if k.long then k.hblkHeld else (c.hash.ctx 3).message.length % blk
      let blocks := (held + len) / blk
      let total := max 1 blocks
      let c := hblkWaits wait { c with core := { c.core with hblkHeld := held } }
      longRun x ch d (.hblk m) total 4 (if blocks = 0 then 0 else hblkCycles c) stop
        (fun i c =>
          let off := if i = 0 then 0 else i * blk - held
          let n := if i + 1 = total then len - off else blk * (i + 1) - held - off
          let e : KExt := { whole with off := o + off, width := n }
          match stepBad c 0xB3 [e] with
          | some e => .error e
          | none =>
            let b := c.bytesAt (e.phys k) n
            .ok { c with hash := onHashCtx 3 (fun y => { y with message := y.message ++ b }) c.hash })
        (fun _ => []) (fun c => c) c

/-- HBLK_FINAL (R281): one or two padding blocks, then the digest. -/
def kHblkFinal (x : Ext) (ch : Ch) (d : Device) (m wait : Nat) (stop : Option Nat) (c : Channel) : Channel :=
  let c := atIssue (.hblk m) c
  let k := c.core
  let o := (inp (k.top 1) 0).toNat
  let y := c.hash.ctx 3
  let dl := (hash (algOf y.alg) []).length
  let e : KExt := ⟨m / 8 % 8, o, dl, .write, 3⟩
  if !y.opened then raiseFault ch d ⟨7, 0, 0xB300⟩ c
  else match longBad c 0xB3 (depthExts k.depth (k.depth - 1)) [e] (fun _ => none) with
    | some e => raiseFault ch d e c
    | none =>
      let blk := hblkBlock c
      let pad := if blk = 64 then 9 else 17
      let total := if blk < y.message.length % blk + pad then 2 else 1
      let c := hblkWaits wait c
      longRun x ch d (.hblk m) total 12 (hblkCycles c) stop
        (fun i c =>
          if i + 1 < total then .ok c
          else match stepBad c 0xB3 [e] with
            | some e => .error e
            | none =>
              let dg := (c.hash.ctx 3).finish
              let c := c.store (e.phys k) dg
              .ok { c with hash := onHashCtx 3 (fun y => { y with digest := dg, opened := false, message := [] }) c.hash })
        (fun _ => []) (fun c => c) c

/-- LOOPS (R282). -/
def kLoops (x : Ext) (ch : Ch) (d : Device) (b : Nat) (c : Channel) : Channel :=
  let c := atIssue (.loops b) c
  let k := c.core
  let ins := k.top 2
  let count := (inp ins 0).toNat
  let start := k.pc + 3
  let l := (k.seg 0).limit
  if 65535 < count then raiseFault ch d ⟨7, 0, 0xB200⟩ c
  else if l < start + b then raiseFault ch d ⟨4, l, 16 + 0xB200⟩ c
  else match extentsBad c 0xB2 (depthExts k.depth (k.depth - 2)) with
    | some e => raiseFault ch d e c
    | none =>
      let c := moveDepth x ch d (k.depth - 2) c
      let c := { c with core := { c.core with
        cycles := c.core.cycles + 2, lpStart := start, lpEnd := start + b, lpCount := count
        lpStride := (inp ins 1).toNat, loop := 0, lpExit := none, looping := count != 0
        pc := if count = 0 then start + b else start } }
      if count = 0 then c else pushIteration x ch d 0 c

end Sys2Proof.Machine
end

