-- ==== Sys2Proof/Machine/KentenEntry.lean ====
section
/-! DEFINITION. Entries and returns: faults, interrupts, GATE, RETE, double faults (R285 to R305). -/

namespace Sys2Proof.Machine

/-- The CAUSE word of an entry (R293). -/
def causeWord (k : Kenten) (vector kind args : Nat) (cross : Bool) : Nat :=
  let slot := match k.branch with
    | some b => 3 - b.slots
    | none => 0
  let taken := match k.branch with
    | some b => b.taken
    | none => false
  vector + 64 * kind + 256 * b2n k.branch.isSome + 512 * slot + 2048 * b2n taken + 4096 * b2n k.long +
    8192 * b2n k.looping + 16384 * b2n k.lpExit.isSome + 32768 * args + 262144 * b2n cross

/-- The 80 bytes of an exception frame (R293). -/
def frameBytes (k : Kenten) (vector kind args pc faddr finfo depth : Nat) (cross : Bool) : Bytes :=
  let target := match k.branch with
    | some b => if b.taken then b.target else 0
    | none => 0
  ([causeWord k vector kind args cross, pc, k.psw.toNat, (k.seg 0).base, (k.seg 0).limit, target, faddr, finfo, k.prog,
    k.lpStart, k.lpEnd, k.lpCount, k.lpStride, k.lpExit.getD 0, k.dvq.toNat, k.dvr.toNat, depth, 0, 0, 0].map (leBytes 4)).flatten

/-- A refused spill of a world switch writes nothing, a refused fill leaves its register clear (R329). -/
def spillAllowed (ch : Ch) (d : Device) : List Nat → Channel → Channel
  | [], c => c
  | s :: ss, c =>
    let c := match extentsBad c 0 [slotExt .write s] with
      | some f => captureFault ch d f c
      | none => spillTo ch d [s] c
    spillAllowed ch d ss c

def fillAllowed (x : Ext) (ch : Ch) (d : Device) : List Nat → Channel → Channel
  | [], c => c
  | s :: ss, c =>
    let c := match extentsBad c 0 [slotExt .read s] with
      | some f => captureFault ch d f c
      | none => fillFrom x ch d [s] c
    fillAllowed x ch d ss c

/-- The slots held in the stack registers. -/
def stackSlots (depth : Nat) : List Nat := List.range' (depth - 16) (depth - (depth - 16))

/-- Leaves the current world, `args` arguments of a GATE taken off its stack: the slots its registers hold go to its SSEG and the
registers are cleared (R292, R295, R297). -/
def leaveWorld (ch : Ch) (d : Device) (args : Nat) (c : Channel) : Channel :=
  let c := { c with core := c.core.landEvery }
  let held := (stackSlots c.core.depth).filter fun s => s < c.core.depth - args
  let c := { c with core := c.core.onBank fun b => { b with depth := b.depth - args } }
  let c := spillAllowed ch d held c
  { c with core := { c.core with regs := Vector.replicate 16 0, cycles := c.core.cycles + held.length } }

/-- Fills the stack registers of the world just entered. -/
def enterWorld (x : Ext) (ch : Ch) (d : Device) (c : Channel) : Channel :=
  let held := stackSlots c.core.depth
  let c := fillAllowed x ch d held c
  { c with core := { c.core with cycles := c.core.cycles + held.length } }

/-- Pushes the arguments of a GATE on the entered world's stack. -/
def pushArgs (x : Ext) (ch : Ch) (d : Device) : List Word → Channel → Channel
  | [], c => c
  | v :: vs, c =>
    let dp := c.core.depth
    let c := { c with core := c.core.onBank fun b => { b with depth := dp + 1 } }
    let c := spillAllowed ch d (spilled dp (dp + 1)) c
    pushArgs x ch d vs { c with core := { (c.core.setSlot dp v) with
      cycles := c.core.cycles + 1 + (spilled dp (dp + 1)).length } }

/-- A double fault to come: the core has stopped (R303). -/
def doubleStop (vector kind addr : Nat) (c : Channel) : Channel :=
  { c with core := { c.core with fault := none, dfault := some ⟨vector, kind, addr⟩ } }

/-- An entry (R292): vector, kind, resumption PC, FADDR, FINFO, target world, the GATE arguments removed. -/
def kEnter (x : Ext) (ch : Ch) (d : Device) (vector kind pc faddr finfo : Nat) (inner : Bool) (args : List Word)
    (c : Channel) : Channel :=
  let k := c.core
  let cross := inner != k.inWorld
  let frame := frameBytes k vector kind args.length pc faddr finfo (k.depth - args.length) cross
  let c := if cross then leaveWorld ch d args.length c else c
  let k := c.core
  let ptr := if inner then k.framePtrI else k.framePtrO
  let base := if inner then k.frameBaseI else k.frameBaseO
  let addr := (ptr + 2 ^ 32 - 80) % 2 ^ 32
  let ctx := if inner then 0 else 2
  let refused := (List.range 80).find? fun j => isPeriph (addr + j) || !atAllows c.table ctx .write (addr + j)
  let bad := badWordIn c.table addr 80
  if ptr < base + 80 then doubleStop vector 1 addr c
  else if let some j := refused then
    doubleStop vector 1 (addr + j) { c with table := atRefuse c.table 0 inner true .write 4 (addr + j) }
  else if let some w := bad then doubleStop vector 1 w (captureFault ch d ⟨9, w, 0⟩ c)
  else
    let c := c.store addr frame
    let code : Seg := if inner then ⟨k.wcsBaseI, k.wcsLimitI⟩ else ⟨k.wcsBaseO, k.wcsLimitO⟩
    let k := if inner then { k with framePtrI := addr } else { k with framePtrO := addr }
    let k := { k with psw := if inner then 0x700 else 0x300 }
    let k := k.onBank fun b => b.setSeg 0 code
    let k := { k with
      pc := 16 * vector, branch := none, looping := false, lpExit := none, long := false, waiting := false, fault := none
      cycles := k.cycles + 7 }
    let c := { c with core := k }
    let slot := code.base + 16 * vector
    if code.limit < 16 * vector + 16 then doubleStop vector 2 slot c
    else if !atAllows c.table ctx .fetch slot || isPeriph slot then
      doubleStop vector 2 slot { c with table := atRefuse c.table 0 inner true .fetch 4 slot }
    else if (badWordIn c.table slot 16).isSome then doubleStop vector 2 slot (captureFault ch d ⟨9, slot, 0⟩ c)
    else if cross then pushArgs x ch d args (enterWorld x ch d c)
    else c

/-- FAULT_ENTRY (R286, R292): the raised fault enters its vector, or under MASK becomes a double fault (R303). -/
def faultEntry (x : Ext) (ch : Ch) (d : Device) (c : Channel) : Channel :=
  match c.core.fault with
  | none => c
  | some f =>
    let c := { c with core := c.core.landEvery }
    let k := c.core
    if k.halted then c
    else if pswMask k.psw then doubleStop f.vector 0 f.faddr c
    else kEnter x ch d f.vector 0 k.pc f.faddr f.finfo (k.inWorld || !k.froute.testBit f.vector) [] c

/-- INTERRUPT_ENTRY (R302). -/
def interruptEntry (x : Ext) (ch : Ch) (d : Device) (c : Channel) : Channel :=
  let c := { c with core := c.core.land }
  match takeable x c.core with
  | none => c
  | some b =>
    let c := if b = 0 && !c.core.irqWorld.testBit 0 && atBoundary c.core then kicked d c else c
    if atBoundary c.core then kEnter x ch d (16 + b) 1 c.core.pc 0 0 (!c.core.irqWorld.testBit b) [] c else c

/-- The record of a double fault (R303, R304). -/
def dfRecord (k : Kenten) (f : DFault) : DfRecord :=
  { vector := f.vector, kind := f.kind, world := k.inWorld, level := k.sup, count := min (k.df.count + 1) 0xFF
    valid := true, pc := k.pc, addr := f.addr, tag := k.traceTag }

/-- DOUBLE_FAULT (R303): the core halts and the safety controller is told. -/
def doubleFault (ch : Ch) (d : Device) (c : Channel) : Channel :=
  match c.core.dfault with
  | none => c
  | some f =>
    let c := { c with core := { c.core with halted := true, dfault := none, df := dfRecord c.core f } }
    if c.table.mgmt then c else reportSafety ch d 0x02 f.vector c

/-- GATE (R295), its ILLEGAL checks made. -/
def kGate (x : Ext) (ch : Ch) (d : Device) (n : Nat) (c : Channel) : Channel :=
  let k := c.core
  let entry := n % 16
  let args := n / 16 % 8
  let same := 128 ≤ n
  if !k.gateEn.testBit (if same then 16 + entry else entry) then raiseFault ch d ⟨2, 0, 0xC100⟩ c
  else if k.depth < args then raiseFault ch d ⟨3, 0, 0xC100⟩ c
  else kEnter x ch d (48 + entry) 2 (k.pc + 2) 0 0 (if same then k.inWorld else true) (k.top args) c

/-- Why RETE refuses a frame's contents (R296): PRIVILEGE, then RANGE. -/
def reteBad (k : Kenten) (b : Bytes) : Option Nat :=
  let w (o : Nat) : Nat := fieldLE b o 4
  let cause := w 0
  let psw := w 8
  if !k.inWorld && psw.testBit 10 then some 2
  else if 2 ^ 19 ≤ cause ∨ bits cause 7 6 = 3 ∨ 2 ^ 11 ≤ psw ∨ bits psw 7 4 ≠ 0 ∨ 2 ^ 16 ≤ w 28 ∨ w 68 ≠ 0 ∨ w 72 ≠ 0 ∨ w 76 ≠ 0 ∨
      2 ^ 32 < w 12 + w 16 ∨ w 16 ≤ w 4 ∨ (cause.testBit 8 ∧ (bits cause 10 9 = 0 ∨ bits cause 10 9 = 3)) then some 7
  else none

/-- RETE (R296 to R298). -/
def kRete (x : Ext) (ch : Ch) (d : Device) (c : Channel) : Channel :=
  let k := c.core
  let ptr := if k.inWorld then k.framePtrI else k.framePtrO
  let base := if k.inWorld then k.frameBaseI else k.frameBaseO
  let top := if k.inWorld then k.frameTopI else k.frameTopO
  let op := 256 * 0xC2
  let refused := (List.range 80).find? fun j => isPeriph (ptr + j) || !atAllows c.table k.ctx .read (ptr + j)
  if ptr < base ∨ top < ptr + 80 then raiseFault ch d ⟨7, 0, op⟩ c
  else if let some j := refused then raiseFault ch d ⟨6, ptr + j, op + 64⟩ c
  else if let some w := badWordIn c.table ptr 80 then raiseFault ch d ⟨9, w, op + 64⟩ c
  else
    let b := c.bytesAt ptr 80
    match reteBad k b with
    | some v => raiseFault ch d ⟨v, 0, op⟩ c
    | none =>
      let w (o : Nat) : Nat := fieldLE b o 4
      let cause := w 0
      let psw : Word := BitVec.ofNat 32 (w 8)
      let cross := pswInner psw != k.inWorld
      let k := if k.inWorld then { k with framePtrI := ptr + 80 } else { k with framePtrO := ptr + 80 }
      let c := { c with core := k }
      let c := if cross then leaveWorld ch d 0 c else c
      let k := { c.core with psw := psw }
      let k := k.onBank fun y => (y.setSeg 0 ⟨w 12, w 16⟩)
      let k := if cross then k.onBank fun y => { y with depth := w 64 } else k
      let c := { c with core := k }
      let c := if cross then enterWorld x ch d c else c
      { c with core := { c.core with
        loop := w 32 % 65536, step := w 32 / 65536, lpStart := w 36, lpEnd := w 40, lpCount := w 44, lpStride := w 48
        lpExit := if cause.testBit 14 then some (w 52) else none
        dvq := BitVec.ofNat 32 (w 56), dvr := BitVec.ofNat 32 (w 60)
        pc := w 4, long := cause.testBit 12, looping := cause.testBit 13
        branch := if cause.testBit 8 then some ⟨3 - bits cause 10 9, cause.testBit 11, w 20⟩ else none
        cycles := c.core.cycles + 7 } }

/-- Whether the core may issue: its unit out of reset and clocked, not stopped, no fault waiting for its entry, not held by WAIT
(R289, R302, R306). -/
def canIssue (x : Ext) (k : Kenten) : Bool :=
  !x.held && !k.halted && k.fault.isNone && k.dfault.isNone && (!k.waiting || requested x k != 0)

/-- The fetch of an instruction as the flash bank serves it (R266, R352). -/
def fetchReads (i : KOp) (c : Channel) : Option Channel := flashReads [(((c.core.seg 0).base + c.core.pc) % 2 ^ 32, i.len)] c

/-- The issue of one instruction (R264, R266 to R270). `stop` counts a long instruction's steps to the arrival of a request; `wait` is
the time HBLK waits for the engine. A fetch that the flash bank holds up leaves the unit as it was. -/
def issue (x : Ext) (ch : Ch) (d : Device) (i : KOp) (stop : Option Nat) (wait : Nat) (c : Channel) : Channel :=
  match if canIssue x c.core then fetchReads i c else none with
  | none => c
  | some c =>
    let c := { c with core := { c.core.land with waiting := false } }
    match preFault c i with
    | some f => raiseFault ch d f c
    | none =>
      match i with
      | .bmov m => kBmov x ch d m stop c
      | .vmac m => kVmac x ch d m stop c
      | .divs n => kDivs x ch d n stop c
      | .loops b => kLoops x ch d b c
      | .hblk m =>
        if m % 8 < 3 then kHblkInit x ch d m wait c
        else if m % 8 = 3 then kHblkFeed x ch d m wait stop c
        else kHblkFinal x ch d m wait stop c
      | .gate n => kGate x ch d n c
      | .rete => kRete x ch d c
      | _ => kRun x ch d i { c with core := { c.core with long := false } }

end Sys2Proof.Machine
end

