-- ==== Sys2Proof/Machine/ProgramOps.lean ====
section
/-! DEFINITION. Settlement program images and the checks of their admission (R234 to R236). -/

namespace Sys2Proof.Machine

/-- A sample field of a program's map (R232). -/
structure SField where
  off : Nat
  kind : Nat
  width : Nat
  deriving DecidableEq, Repr

/-- A trigger (R241). -/
structure Trigger where
  word : Nat
  cond : Nat
  action : Nat
  threshold : Int
  deriving DecidableEq, Repr

/-- A schedule table entry. -/
structure SBlock where
  start : Nat
  len : Nat
  depthIn : Nat
  depthOut : Nat
  cycles : Nat
  loopMax : Nat
  stale : Nat
  deriving DecidableEq, Repr

/-- A program image, read. -/
structure Program where
  id : Nat
  version : Nat
  layout : Nat
  rnd : Nat
  scale : Nat
  codeLen : Nat
  tableLen : Nat
  schedCount : Nat
  trigCount : Nat
  form : Nat
  entrySample : Nat
  entryEnd : Nat
  cycleLimit : Nat
  feat0 : Nat
  feat1 : Nat
  recipe : Nat
  smpOff : Nat
  smpStride : Nat
  smpTrail : Nat
  fields : List SField
  maxAdjust : Nat
  code : Bytes
  tables : Bytes
  state0 : Bytes
  triggers : List Trigger
  templates : List Bytes
  blocks : List SBlock
  bytes : Bytes
  deriving DecidableEq, Repr

/-- Two's complement of 32 bits read as a signed number. -/
def int32 (n : Nat) : Int := (BitVec.ofNat 32 n).toInt

/-- Offset of the trigger table in an image. -/
def trigOff (b : Bytes) : Nat := 128 + fieldLE b 16 2 + fieldLE b 18 2 + 160

/-- The length an image's header gives it (R234). -/
def programLen (b : Bytes) : Nat := trigOff b + 16 * fieldLE b 22 1 + 132 + 16 * fieldLE b 20 2 + 96

/-- Reads a program image. -/
def Program.ofBytes (b : Bytes) : Program :=
  let codeLen := fieldLE b 16 2
  let tableLen := fieldLE b 18 2
  let trig := trigOff b
  let tc := fieldLE b 22 1
  let tpl := trig + 16 * tc
  let sched := tpl + 132
  { id := fieldLE b 6 2, version := fieldLE b 8 4, layout := fieldLE b 12 2, rnd := fieldLE b 14 1, scale := fieldLE b 15 1
    codeLen := codeLen, tableLen := tableLen, schedCount := fieldLE b 20 2, trigCount := tc, form := fieldLE b 23 1
    entrySample := fieldLE b 24 2, entryEnd := fieldLE b 26 2, cycleLimit := fieldLE b 28 4
    feat0 := fieldLE b 32 4, feat1 := fieldLE b 36 4, recipe := fieldLE b 40 2
    smpOff := fieldLE b 42 2, smpStride := fieldLE b 44 2, smpTrail := fieldLE b 46 2
    fields := (List.range (min 4 (fieldLE b 48 1))).map fun i =>
      ⟨fieldLE b (52 + 4 * i) 2, fieldLE b (54 + 4 * i) 1, fieldLE b (55 + 4 * i) 1⟩
    maxAdjust := fieldLE b 68 4, code := slice b 128 codeLen, tables := slice b (128 + codeLen) tableLen
    state0 := slice b (128 + codeLen + tableLen) 160
    triggers := (List.range tc).map fun i =>
      let o := trig + 16 * i
      ⟨fieldLE b o 1, fieldLE b (o + 1) 1, fieldLE b (o + 2) 1, int32 (fieldLE b (o + 4) 4)⟩
    templates := [slice b (tpl + 2) (min 64 (fieldLE b tpl 2)), slice b (tpl + 68) (min 64 (fieldLE b (tpl + 66) 2))]
    blocks := (List.range (fieldLE b 20 2)).map fun i =>
      let o := sched + 16 * i
      ⟨fieldLE b o 4, fieldLE b (o + 4) 2, fieldLE b (o + 6) 2, fieldLE b (o + 8) 2, fieldLE b (o + 10) 2,
        fieldLE b (o + 12) 2, fieldLE b (o + 14) 2⟩
    bytes := b }

/-- Bytes a sample field takes. -/
def SField.size (f : SField) : Nat := if f.kind = 2 then 12 else f.width

/-- A field's kind and width are in range. -/
def SField.ok (f : SField) : Bool :=
  (f.kind == 2 && f.width == 12) || (f.kind < 2 && (f.width == 1 || f.width == 2 || f.width == 4))

/-- Check 1: shape, header ranges, reserved fields, entries at block starts. -/
def programShape (b : Bytes) : Bool :=
  let p := Program.ofBytes b
  128 ≤ b.length && b.length == programLen b && b.take 4 == [0x54, 0x53, 0x54, 0x4C] && fieldLE b 4 2 == 1 &&
  p.id != 0xFFFF && p.version != 0 && p.rnd < 4 && p.scale ≤ 6 && 4 ≤ p.codeLen && p.codeLen ≤ 32768 && p.codeLen % 4 == 0 &&
  p.tableLen ≤ 16384 && 1 ≤ p.schedCount && p.schedCount ≤ 2048 && p.trigCount ≤ 32 && (p.form == 0 || p.form == 2) &&
  1 ≤ p.cycleLimit && p.cycleLimit ≤ 100000 && 1 ≤ p.smpStride && p.smpStride ≤ 1024 &&
  1 ≤ fieldLE b 48 1 && fieldLE b 48 1 ≤ 4 && slice b 49 3 == zeros 3 && p.fields.all SField.ok &&
  slice b (52 + 4 * p.fields.length) (16 - 4 * p.fields.length) == zeros (16 - 4 * p.fields.length) &&
  1 ≤ p.maxAdjust && p.maxAdjust ≤ 0x7FFFFFFF && slice b 80 48 == zeros 48 &&
  p.blocks.any (fun x => x.start == p.entrySample) && p.blocks.any (fun x => x.start == p.entryEnd)

/-- The instruction at an offset of a program's code; none when it crosses the code's end or is no instruction. -/
def codeAt (code : Bytes) (off : Nat) : Option KOp :=
  let o := fieldLE code off 1
  let i := KOp.ofCode o (fieldLE code (off + 1) (codeLen o - 1))
  if off + codeLen o ≤ code.length ∧ !i.badImm then some i else none

/-- The code decoded in order: instructions with their offsets, and the offset decoding stopped at. -/
def decodeCode (code : Bytes) : Nat → Nat → List (Nat × KOp) × Nat
  | 0, off => ([], off)
  | fuel + 1, off =>
    match codeAt code off with
    | some i =>
      let r := decodeCode code fuel (off + i.len)
      ((off, i) :: r.1, r.2)
    | none => ([], off)

/-- The index of the block that holds an offset, 0xFFFF for none. -/
def blockOf (p : Program) (off : Nat) : Nat :=
  (p.blocks.findIdx? fun b => b.start ≤ off && off < b.start + b.len).getD 0xFFFF

/-- An instruction that Outer user code may not hold (check 4). -/
def outerOk : KOp → Bool
  | .rete | .mtsr _ | .segw _ | .wait => false
  | .mfsr n => n < 9
  | .gate n => n == 0
  | _ => true

/-- LOOPS bodies: offset of the LOOPS, first byte, first byte after. -/
def bodies (l : List (Nat × KOp)) : List (Nat × Nat × Nat) :=
  l.filterMap fun x => match x.2 with
    | .loops b => some (x.1, x.1 + 3, x.1 + 3 + b)
    | _ => none

/-- The target of a branch; none for one that takes its target from the stack. -/
def branchTarget (off : Nat) : KOp → Option Nat
  | .br r | .bz r | .bnz r | .call r => some (relTarget off r.toInt)
  | .brs r => some (relTarget off r.toInt)
  | _ => none

/-- Whether a branch always redirects. -/
def alwaysTaken : KOp → Bool
  | .br _ | .brs _ | .call _ => true
  | _ => false

/-- The instructions of a block. -/
def blockOps (l : List (Nat × KOp)) (b : SBlock) : List (Nat × KOp) :=
  l.filter fun x => b.start ≤ x.1 && x.1 < b.start + b.len

/-- The branch a block ends with: third from its end, its two slots after it. -/
def endBranch (ops : List (Nat × KOp)) : Option (Nat × KOp) :=
  match ops.reverse with
  | _ :: _ :: x :: _ => if x.2.cls = .b then some x else none
  | _ => none

/-- A block's own part of check 5: a `GATE`, a `LOOPS` and both ends of a `LOOPS` body stand at the end of a block, never inside one. -/
def blockOk (l : List (Nat × KOp)) (targets : List Nat) (b : SBlock) : Bool :=
  let ops := blockOps l b
  let stop := b.start + b.len
  let inBody := (bodies l).any fun x => x.2.1 ≤ b.start && b.start < x.2.2
  let last := ops.getLast?
  let branches := (ops.zipIdx.filter fun x => x.1.2.cls == .b).map fun x => x.2
  let ends :=
    (endBranch ops).isSome || (bodies l).any (fun x => x.2.2 == stop || x.2.1 == stop) ||
    last.any (fun x => match x.2 with
      | .gate _ => true
      | _ => false) || targets.contains stop
  (ops.head?.map (·.1)) == some b.start && (last.map fun x => x.1 + x.2.len) == some stop && ops.length ≤ 16 && ends &&
  branches.all (fun i => i + 3 == ops.length) &&
  (ops.drop (ops.length - 2)).all (fun x => (endBranch ops).isNone || (x.2.cls != .b && x.2.cls != .x && outerOk x.2 &&
    (match x.2 with
      | .gate _ => false
      | _ => true))) &&
  (ops.take (ops.length - 1)).all (fun x => match x.2 with
    | .gate _ | .loops _ => false
    | _ => true) &&
  (bodies l).all (fun x => !(b.start < x.2.1 && x.2.1 < stop) && !(b.start < x.2.2 && x.2.2 < stop)) &&
  (if inBody then 1 ≤ b.loopMax && b.loopMax ≤ 4096 else b.loopMax == 0)

/-- Check 5: the blocks tile the code, each ends as it must, every branch target starts a later block. -/
def badBlock (p : Program) (l : List (Nat × KOp)) : Option Nat :=
  let targets := l.filterMap fun x => branchTarget x.1 x.2
  let starts := p.blocks.map (·.start)
  p.blocks.zipIdx.findSome? fun x =>
    let b := x.1
    let next := (p.blocks[x.2 + 1]?.map (·.start)).getD p.codeLen
    let jumps := (blockOps l b).all fun o =>
      o.2.cls != .b || match branchTarget o.1 o.2 with
        | some t => b.start < t && starts.contains t
        | none => false
    if (x.2 ≠ 0 || b.start == 0) && b.start + b.len == next && 0 < b.len && blockOk l targets b && jumps then none else some x.2

/-- What replaying a block carries: cycle, depth, the producers still due by slot, the STALE bits, depth in range. -/
structure Replay where
  cycle : Nat := 0
  depth : Nat
  due : List (Nat × Nat) := []
  stale : Nat := 0
  ok : Bool := true
  deriving DecidableEq, Repr

/-- Cycles of an instruction without its spills and fills, at the largest length its operands allow. -/
def opCycles : KOp → Nat
  | .bmov _ => 2 + 8192
  | .vmac _ => 4 + 65535
  | .loops _ => 2
  | .hblk m => if m % 8 < 3 then 2 else if m % 8 = 3 then 4 + 1025 * 66 else 4 + 2 * 82 + 8
  | .divs _ => 18
  | .gate _ => 7
  | _ => 1

/-- One instruction of a block replayed against the latency table (check 6). -/
def replayOp (x : Nat × KOp) (i : Nat) (r : Replay) : Replay :=
  let op := x.2
  let base := r.depth - op.pops
  let depth := base + op.pushes
  let moved := (spilled r.depth depth).length + (filled r.depth depth).length
  let t := r.cycle + moved
  let reads := (List.range op.pops).map (base + ·) ++ match op with
    | .pick n => [r.depth - 1 - n]
    | _ => []
  let late := reads.any fun s => r.due.any fun p => p.1 == s && t < p.2
  let due := t + op.cls.latency
  let outs := (List.range op.pushes).map (base + ·)
  let kept := r.due.filter fun p => !outs.contains p.1 && t < p.2
  let last := t + opCycles op
  { cycle := last, depth := depth, stale := if late then r.stale + 2 ^ i else r.stale
    due := if op.cls = .x then [] else kept ++ outs.map fun s => (s, due)
    ok := r.ok && op.needs ≤ r.depth && depth ≤ 1040 }

/-- A block replayed. -/
def replayBlock (l : List (Nat × KOp)) (b : SBlock) : Replay :=
  (blockOps l b).zipIdx.foldl (fun r x => replayOp x.1 x.2 r) { depth := b.depthIn }

/-- Where control may go after a block, with the depth it must find there (R271, R282, R284). -/
def edges (p : Program) (l : List (Nat × KOp)) (b : SBlock) : List (Nat × Nat) :=
  let ops := blockOps l b
  let stop := b.start + b.len
  let body := (bodies l).find? fun x => x.2.1 ≤ b.start && b.start < x.2.2
  let leaves (from' : Nat) : List (Nat × Nat) :=
    ((l.filter fun x => from' ≤ x.1 && x.1 < stop).filterMap fun x => branchTarget x.1 x.2).map fun t => (t, b.depthOut)
  let opens := ops.getLast?.any fun x => match x.2 with
    | .loops _ => true
    | _ => false
  let ends := ops.getLast?.any fun x => match x.2 with
    | .gate _ => true
    | _ => false
  match body with
  | some y =>
    if stop = y.2.2 then [(stop, b.depthOut)] ++ (if y.2.1 < p.codeLen then [(y.2.1, b.depthOut + 1)] else []) ++ leaves y.2.1
    else [(stop, b.depthOut)]
  | none =>
    if ends then []
    else if opens then
      match (bodies l).find? fun y => y.2.1 == stop with
      | some y => [(stop, b.depthOut + 1), (y.2.2, b.depthOut)]
      | none => []
    else match endBranch ops with
      | some x =>
        ((branchTarget x.1 x.2).toList.map fun t => (t, b.depthOut)) ++ if alwaysTaken x.2 then [] else [(stop, b.depthOut)]
      | none => [(stop, b.depthOut)]

/-- A block's part of check 6. -/
def scheduleBad (p : Program) (l : List (Nat × KOp)) : Option Nat :=
  p.blocks.zipIdx.findSome? fun x =>
    let b := x.1
    let r := replayBlock l b
    let agree := (edges p l b).all fun e => (p.blocks.find? fun y => y.start == e.1).any fun y => y.depthIn == e.2
    let gateOk := (edges p l b).length != 0 || b.depthOut == 0
    let entry := (b.start != p.entrySample || b.depthIn == 2) && (b.start != p.entryEnd || b.depthIn == 1)
    if r.ok && r.stale == b.stale && r.depth == b.depthOut && b.depthIn ≤ 1040 && agree && gateOk && entry then none else some x.2

/-- Longest cycle counts from each block to its end, last block first; edges go forward but for loop bodies (check 7). -/
def longestFrom (p : Program) (l : List (Nat × KOp)) : List (Nat × Nat) :=
  p.blocks.reverse.foldl (fun acc b =>
    let cost := (replayBlock l b).cycle * max 1 b.loopMax
    let next := (edges p l b).map fun e => ((acc.find? fun q => q.1 == e.1).map (·.2)).getD 0
    (b.start, cost + next.foldl max 0) :: acc) []

/-- Check 7: an entry whose longest path exceeds CYCLE_LIMIT, by block. -/
def pathBad (p : Program) (l : List (Nat × KOp)) : Option Nat :=
  let longest := longestFrom p l
  [p.entrySample, p.entryEnd].findSome? fun e =>
    if ((longest.find? fun q => q.1 == e).map (·.2)).getD 0 ≤ p.cycleLimit then none else some (blockOf p e)

/-- A trigger entry is valid. -/
def triggerOk (p : Program) (i : Nat) : Bool :=
  let o := trigOff p.bytes + 16 * i
  match p.triggers[i]? with
  | some t =>
    t.word ≤ 40 && t.cond ≤ 4 && t.action ≤ 3 && fieldLE p.bytes (o + 3) 1 == 0 && slice p.bytes (o + 8) 8 == zeros 8 &&
    (t.cond != 4 || t.threshold == 0)
  | none => true

/-- Check 8: triggers, templates and the sample map; the index it names. -/
def tablesBad (p : Program) : Option Nat :=
  let tpl := trigOff p.bytes + 16 * p.trigCount
  let badTemplate (i : Nat) : Bool :=
    64 < fieldLE p.bytes (tpl + 66 * i) 2 ||
    match p.templates[i]? with
    | some t => !t.isEmpty && !(disconnectClass t && namesClass70Alone t)
    | none => false
  match (List.range p.trigCount).find? fun i => !triggerOk p i with
  | some i => some i
  | none =>
    if badTemplate 0 || badTemplate 1 then some 0xFFFF
    else if (p.fields.head?.map (·.kind)) != some 2 then some 0
    else p.fields.findIdx? fun f => p.smpStride < f.off + f.size

/-- PROGRAM_REJECTED: check number and index. -/
def rejected (n ix : Nat) : Check := ⟨n, ⟨0x0500, n, 65536 * (ix % 65536)⟩⟩

/-- Checks 1 to 8 of an admission (R235). -/
def programAdmit (keys : ChannelKeys) (b : Bytes) : Option Check :=
  let p := Program.ofBytes b
  let dec := decodeCode p.code p.code.length 0
  let l := dec.1
  if !programShape b then some (rejected 1 0xFFFF)
  else if !imageSigned keys b then some (rejected 2 0xFFFF)
  else if p.feat0 &&& 0xFFF ≠ p.feat0 ∨ p.feat1 &&& 0x3F ≠ p.feat1 then some (rejected 3 0xFFFF)
  else match l.find? fun x => !bit p.feat0 x.2.feature with
    | some x => some (rejected 3 (blockOf p x.1))
    | none =>
      if dec.2 ≠ p.codeLen then some (rejected 4 (blockOf p dec.2))
      else match l.find? fun x => !outerOk x.2 with
        | some x => some (rejected 4 (blockOf p x.1))
        | none => match badBlock p l with
          | some i => some (rejected 5 i)
          | none => match scheduleBad p l with
            | some i => some (rejected 6 i)
            | none => match pathBad p l with
              | some i => some (rejected 7 i)
              | none => (tablesBad p).map (rejected 8)

/-- Check 10: what the space lacks (R235). -/
def programSpace (a : ImageArea) (id len : Nat) : Option Fail :=
  let others := a.loaded.filter fun i => i.id != id
  let short := (others.map fun i => i.bytes.length).sum + len - 196608
  let full := others.length == 32
  if short = 0 ∧ !full then none else some ⟨0x0500, 10, short + 2 ^ 32 * b2n full⟩

end Sys2Proof.Machine
end

