-- ==== Sys2Proof/Machine/Traffic.lean ====
section
/-! DEFINITION. Securing meter traffic: the jobs of spec 04 (R83 to R112, R231) and the governor's expiries. -/

namespace Sys2Proof.Machine

/-- The key a head-end signature of a suite needs. -/
def heSignKey (c : Channel) (suite : Nat) : Option Nat := c.keys.scalar (suiteCurve suite) (heSign suite)

/-- The static agreement key of a suite. -/
def heAgreeKey (c : Channel) (suite : Nat) : Option Nat := c.keys.scalar (suiteCurve suite) (heAgree suite)

/-- The certificate fields a recipe's CERT phase locates. -/
def certFields (r : Recipe) (cert : Bytes) : CertFields :=
  let f (a : Nat) := ((findStep r.certSteps 0x0B a).map fun s => s.extent cert).getD []
  ⟨f 0, f 1, f 2, f 3⟩

/-- The FRAME and CERT phases, in the order they run (R113, R114). -/
def runGuards (r : Recipe) (region cert : Bytes) (place : Nat × Option Nat) : Option Fail :=
  match runPhase r.frameSteps 0 region place with
  | some i => some ⟨0x0303, i, 0⟩
  | none => (runPhase r.certSteps r.certStart cert place).map fun i => ⟨0x0303, i, 0⟩

/-- The counter check of R89 for an inbound high-water. -/
def highWater (high : Option Nat) (ic : Nat) : Option Fail :=
  match high with
  | none => none
  | some h => if h = 0xFFFFFFFF then some ⟨0x0302, 0, 0⟩ else if ic ≤ h then some ⟨0x0301, 0, 0⟩ else none

/-- What an UNPROTECT threads from one APDU to the next. -/
structure Inbound where
  record : MRec
  ded : Option Dedicated
  counter : Nat := 0
  /-- The counter of the APDU before in the list: the next must lie above it (R95). -/
  prev : Option Nat := none
  signed : Bool := false
  activated : Bool := false
  agreed : Bool := false
  deriving DecidableEq, Repr

/-- The inbound high-water of a record. -/
def MRec.high (r : MRec) : Option Nat := if r.inEmpty then none else some r.icIn

/-- KEYSEL of an inbound recipe. -/
def Recipe.keysel (r : Recipe) : Nat := ((r.frameSteps.find? fun s => s.kind == 9).map (·.lo)).getD 0

/-- Step 2 of R93: whether a general-signing layer was verified. -/
def signingLayer (r : Recipe) (rec' : MRec) (requireSig : Bool) (region : Bytes) : Except Fail Bool :=
  match located r.frameSteps 0x0A (some 0) region, located r.frameSteps 0x0A (some 1) region with
  | some content, some sig =>
    if rec'.suite = 0 then .error ⟨0x0305, 0, 0⟩
    else
      let cv := suiteCurve rec'.suite
      match sec1Point cv (rec'.sigkey.take rec'.sigkeyLen) with
      | some pub =>
        if ecdsaVerify cv pub (hash (curveHash cv) content) sig then .ok true else .error ⟨0x0306, 0, 0⟩
      | none => .error ⟨0x0306, 0, 0⟩
  | _, _ => if requireSig then .error ⟨0x0306, 0, 0⟩ else .ok false

/-- Step 4 of R93: the content key of an agreed-key APDU. -/
def inboundAgreed (c : Channel) (r : Recipe) (rec' : MRec) (region cert : Bytes) : Except Fail Bytes :=
  match certKey rec'.suite c.keys rec'.title (certFields r cert) with
  | .error f => .error f
  | .ok stat =>
    let cv := suiteCurve rec'.suite
    let parsed := (innerApdu region).bind readGeneralCiphering
    let txid := (parsed.map (·.1)).getD []
    let pub : Option Bytes := if r.keysel = 4 then some stat else match parsed with
      | some (_, .agreed _ d) =>
        if eccOnCurve cv (fieldBE d 0 (curveLen cv)) (fieldBE d (curveLen cv) (curveLen cv)) then some (padTo (2 * curveLen cv) d)
        else none
      | _ => none
    match pub, heAgreeKey c rec'.suite with
    | some p, some d => match ecdh cv d p with
      | some z => .ok (agreedKey rec'.suite z rec'.title txid (c.keys.heTitle.getD []) (r.keysel == 4))
      | none => .error ⟨0x0307, 0, 0⟩
    | _, _ => .error ⟨0x0307, 0, 0⟩

/-- Steps 5 and 6 of R93 with the second attempt of R94: the plaintext, the record with a pending key activated if it
was, and whether it was. -/
def openApdu (r : Recipe) (x : Inbound) (contentKey : Bytes) (ivIc ic sc : Nat) (body tag : Bytes) :
    Except Fail (Bytes × MRec × Bool) :=
  let rec' := x.record
  let high := if r.keysel = 1 then (x.ded.map (·.inHigh)).getD none else rec'.high
  let pendGuek := rec'.pendingId = 0 ∧ r.keysel = 0
  let tryKey (k gak : Bytes) := unprotectBody k gak rec'.title ivIc sc body tag
  let second (f : Fail) : Except Fail (Bytes × MRec × Bool) :=
    match tryKey rec'.pendKey rec'.gakKey with
    | some p => .ok (p, activatePending rec', true)
    | none => .error f
  if x.prev.any (ic ≤ ·) then .error ((highWater high ic).getD ⟨0x0301, 0, 0⟩)
  else match highWater high ic with
  | some f => if pendGuek then second f else .error f
  | none => match tryKey contentKey rec'.gakKey with
    | some p => .ok (p, rec', false)
    | none =>
      if pendGuek then second ⟨0x0300, 0, 0⟩
      else if rec'.pendingId = 2 then
        match tryKey contentKey rec'.pendKey with
        | some p => .ok (p, activatePending rec', true)
        | none => .error ⟨0x0300, 0, 0⟩
      else .error ⟨0x0300, 0, 0⟩

/-- One APDU unprotected by the steps of R93, R115 first: the plaintext and what the next APDU starts from. DESIGN CHOICE: a
wrapped key-info (R84) is refused after the guards and before the signature of step 2 (log 145). -/
def unprotectOne (c : Channel) (r : Recipe) (requireSig certSet : Bool) (region cert : Bytes) (x : Inbound) :
    Except Fail (Bytes × Inbound) :=
  if !r.fits 0 x.record.suite region.length certSet none then .error ⟨0x0303, 0xFFFF, 0⟩
  else match runGuards r region cert (0, none) with
    | some f => .error f
    | none =>
      if ((innerApdu region).bind readGeneralCiphering).any (fun p => p.2 == .wrapped) && 4 ≤ r.form then
        .error ⟨0x0102, 32, 0⟩
      else match signingLayer r x.record requireSig region with
        | .error f => .error f
        | .ok signed =>
          let sc := beNat ((located r.frameSteps 5 none region).getD [])
          let ic := beNat ((located r.frameSteps 6 none region).getD [])
          match scCheck sc x.record.suite false with
          | some f => .error f
          | none =>
            let agreed := r.keysel == 3 || r.keysel == 4
            let key : Except Fail Bytes :=
              if agreed then inboundAgreed c r x.record region cert
              else if r.keysel = 1 then .ok ((x.ded.map (·.key)).getD [])
              else .ok x.record.guekKey
            match key with
            | .error f => .error f
            | .ok k =>
              let body := cipherRegion r.frameSteps region
              let tag := (located r.frameSteps 8 none region).getD []
              match openApdu r x k (if r.keysel = 3 then 0 else ic) ic sc body tag with
              | .error f => .error f
              | .ok (plain, rec', act) =>
                match runPhase r.clearSteps r.clearStart plain (0, none) with
                | some i => .error ⟨0x0303, i, 0⟩
                | none =>
                  let rec' := if r.keysel = 1 then rec' else { rec' with icIn := ic, flags := setBit rec'.flags 2 false }
                  let ded := if r.keysel = 1 then x.ded.map fun y => { y with inHigh := some ic } else x.ded
                  .ok (plain, { record := rec', ded := ded, counter := ic, prev := some ic, signed := x.signed || signed
                                activated := x.activated || act, agreed := x.agreed || agreed })

/-- The offset of the first non-zero byte of PARAM among those that must be 0. -/
def paramReserved (s : Sub) (used : List Nat) : Option Nat :=
  ((List.range 8).map (56 + ·)).find? fun i => !used.contains i && s.pbyte i != 0

/-- The voucher of R231. -/
def voucher (s : ShardBatt) (meter counter recipe : Nat) (plain : Bytes) : Bytes :=
  let h := leBytes 4 meter ++ leBytes 4 counter ++ leBytes 4 plain.length ++ leBytes 2 recipe ++ [0, 0]
  h ++ hmac256 (segmentKey s.srk) (h ++ plain)

/-- Unprotects a list of APDUs in order; a failure names the index it met. -/
def unprotectAll (c : Channel) (r : Recipe) (requireSig certSet : Bool) (cert : Bytes) :
    List Bytes → Nat → Inbound → Except Fail (List Bytes × Inbound)
  | [], _, x => .ok ([], x)
  | a :: as, i, x => match unprotectOne c r requireSig certSet a cert x with
    | .error f => .error { f with result := i }
    | .ok (p, y) => match unprotectAll c r requireSig certSet cert as (i + 1) y with
      | .error f => .error f
      | .ok (ps, z) => .ok (p :: ps, z)

/-- The APDUs of an UNPROTECT_SEQ input; none when the prefixes do not add up (R95). -/
def splitSeq : Nat → Bytes → Option (List Bytes)
  | _, [] => some []
  | 0, _ => none
  | fuel + 1, b =>
    let n := fieldLE b 0 2
    if b.length < 2 + n ∨ n = 0 then none else (splitSeq fuel (b.drop (2 + n))).map fun l => (b.drop 2).take n :: l

/-- RESULT of an inbound job. -/
def inboundResult (x : Inbound) (count : Nat) : Nat :=
  x.counter + 2 ^ 32 * b2n x.signed + 2 ^ 33 * b2n x.activated + 2 ^ 34 * b2n x.agreed + 2 ^ 40 * count

/-- Ends an inbound job whose APDUs all passed: commit of the record, of the table entry, or of both. -/
def finishInbound (ch : Ch) (d : Device) (e : JEntry) (k : RecCheck) (x : Inbound) (result : Nat) (out : Bytes)
    (c : Channel) : Channel :=
  let start := absorbAck c.shard k.record
  let ded := x.ded.map fun y => dedSet c.ded { y with used := e.serial }
  if x.record = start then
    let s := readStatus c k.gen
    stageJob e.jidx { plainEffect e s.1 s.2 result out c with ded := ded } c
  else if !limitOk c.shard (c.gov.soloNow d.tick) start then failE e ⟨0x0309, 0, 0⟩ c
  else stageJob e.jidx (recordEffect ch d e k.leaf x.record { plainEffect e 0 0 result out c with ded := ded } c) c

/-- The keys an inbound recipe needs of the channel (R579), and the handle (R88). DESIGN CHOICE: the handle is checked before the
guards of R93 step 1 (log 145). -/
def inboundKeys (c : Channel) (e : JEntry) (r : Recipe) (rec' : MRec) : Option Fail :=
  if r.keysel = 1 && (dedFind c (e.sub.phalf 60) e.sub.meter).isNone then some ⟨0x0102, 60, 0⟩
  else if (r.keysel == 3 || r.keysel == 4) && rec'.suite != 0 && (c.keys.heTitle.isNone || (heAgreeKey c rec'.suite).isNone) then
    some ⟨0x0102, 56, 0⟩
  else none

/-- Whether an inbound recipe has operations for the public-key engine: a signing layer, or an agreed key (*Engine use by job*). -/
def Recipe.usesEngine (r : Recipe) : Bool := r.keysel == 3 || r.keysel == 4 || r.frameSteps.any (·.kind == 0x0A)

/-- UNPROTECT and UNPROTECT_SEQ once their input is split. -/
def inboundJob (ch : Ch) (d : Device) (e : JEntry) (r : Recipe) (seq : Bool) (apdus : List Bytes) (cert : Bytes)
    (c : Channel) : Channel :=
  onContext (onEngine r.usesEngine fun e => withRecord d e (fun k c =>
    if k.record.broadcast then invalidField e 12 c
    else match inboundKeys c e r k.record with
      | some f => failE e f c
      | none =>
        let ded := if r.keysel = 1 then dedFind c (e.sub.phalf 60) e.sub.meter else none
        let x : Inbound := { record := absorbAck c.shard k.record, ded := ded }
        match unprotectAll c r (e.sub.opflag 0) (e.sub.opflag 1) cert apdus 0 x with
        | .error f => failE e f c
        | .ok (plains, y) =>
          let out := if seq then (plains.map fun p => leBytes 2 p.length ++ p).flatten
            else
              let p := plains.headD []
              p ++ if e.sub.opflag 2 then voucher c.shard e.sub.meter y.counter e.sub.recipe p else []
          finishInbound ch d e k y (inboundResult y apdus.length) out c)) e c

/-- The input without the certificate, and the certificate (R113). -/
def splitCert (e : JEntry) (r : Recipe) : Bytes × Bytes :=
  let b := e.data 32 e.sub.inLen
  if e.sub.opflag 1 then (b.take (b.length - r.certLen), b.drop (b.length - r.certLen)) else (b, [])

/-- Runs a job with the recipe it is bound to. -/
def withRecipe (e : JEntry) (f : Recipe → Channel → Channel) (c : Channel) : Channel :=
  match jobRecipe c e with
  | none => failE e ⟨0x0108, 0, 0⟩ c
  | some r => f r c

/-- UNPROTECT (R93, R94, R231). -/
def unprotectJob (ch : Ch) (d : Device) (e : JEntry) (c : Channel) : Channel :=
  withRecipe e (fun r c =>
    match paramReserved e.sub (if r.keysel = 1 then [60, 61] else []) with
    | some off => invalidField e off c
    | none =>
      let p := splitCert e r
      inboundJob ch d e r false [p.1] p.2 c) c

/-- UNPROTECT_SEQ (R95, R231). -/
def unprotectSeqJob (ch : Ch) (d : Device) (e : JEntry) (c : Channel) : Channel :=
  withRecipe e (fun r c =>
    match paramReserved e.sub (if r.keysel = 1 then [60, 61] else []) with
    | some off => invalidField e off c
    | none =>
      if e.sub.opflag 2 then invalidField e 2 c
      else
        let p := splitCert e r
        match splitSeq p.1.length p.1 with
        | none => invalidField e 32 c
        | some l => if l.isEmpty ∨ 64 < l.length then invalidField e 32 c else inboundJob ch d e r true l p.2 c) c

/-- PARAM of the outbound jobs (R96). -/
structure OutParam where
  form : Nat
  sc : Nat
  sign : Nat
  keyId : Nat
  handle : Nat
  place : Nat
  deriving DecidableEq, Repr

/-- Reads PARAM bytes 56 to 63 of an outbound job. -/
def Sub.outParam (s : Sub) : OutParam :=
  ⟨s.pbyte 56, s.pbyte 57, s.pbyte 58, s.pbyte 59, s.phalf 60, s.phalf 62⟩

/-- Whether the job fills a placeholder, and its length: NEW_DEDICATED (R98), KEY_TRANSPORT (R110). -/
def fillLen (s : Sub) (suite : Nat) : Option Nat :=
  if s.opcode = 0x0401 then some (suiteKeyLen suite + 8)
  else if s.opcode = 0x0201 ∧ s.opflag 3 then some (suiteKeyLen suite)
  else none

/-- The PARAM checks of an outbound job, by field (R86, R88, R96, R98, R101, R110). -/
def outParamCheck (c : Channel) (e : JEntry) (suite plainLen : Nat) : Option Fail :=
  let p := e.sub.outParam
  let op := e.sub.opcode
  let newDed := decide (op = 0x0201) && e.sub.opflag 3
  if p.form > 6 then some ⟨0x0102, 56, 0⟩
  else if (p.form = 5 ∨ p.form = 6) ∧ (!e.sub.opflag 1 ∨ suite = 0) then some ⟨0x0102, 56, 0⟩
  else if newDed ∧ p.form ≠ 0 ∧ p.form ≠ 2 then some ⟨0x0102, 56, 0⟩
  else match scCheck p.sc suite (op == 0x0202) with
    | some f => some f
    | none =>
      if p.sign > 1 then some ⟨0x0102, 58, 0⟩
      else if p.sign = 1 ∧ suite = 0 then some ⟨0x0305, 0, 0⟩
      else if op = 0x0230 ∧ suite ≠ 0 ∧ p.sign = 0 then some ⟨0x0102, 56, 0⟩
      else if (if op = 0x0401 then p.keyId ≠ 0 ∧ p.keyId ≠ 2 else p.keyId ≠ 0) then some ⟨0x0102, 59, 0⟩
      else if (if p.form = 1 ∨ p.form = 3 then (dedFind c p.handle e.sub.meter).isNone else p.handle != 0) then
        some ⟨0x0102, 60, 0⟩
      else match fillLen e.sub suite with
        | none => if p.place ≠ 0 then some ⟨0x0102, 62, 0⟩ else none
        | some n => if p.place + n > plainLen then some ⟨0x0102, 62, 0⟩ else none

/-- The channel keys an outbound job needs (R579). -/
def outKeyCheck (c : Channel) (e : JEntry) (r : MRec) : Option Fail :=
  let p := e.sub.outParam
  if c.keys.heTitle.isNone then some ⟨0x0102, 56, 0⟩
  else if (p.form = 5 ∨ p.form = 6) ∧ (heAgreeKey c r.suite).isNone then some ⟨0x0102, 56, 0⟩
  else if p.sign = 1 ∧ (heSignKey c r.suite).isNone then some ⟨0x0102, 58, 0⟩
  else if e.sub.opcode = 0x0401 ∧ (c.keys.mkdk.getD r.mkdkGen none).isNone then some ⟨0x0102, 16, 0⟩
  else none

/-- The record's kind must suit the opcode (R99, R101). -/
def outRecordCheck (e : JEntry) (r : MRec) : Option Fail :=
  if r.broadcast != (e.sub.opcode == 0x0202) then some ⟨0x0102, 12, 0⟩
  else if e.sub.opcode = 0x0230 ∧ !r.disconnectClass then some ⟨0x0102, 12, 0⟩
  else none

/-- JOBS bit of an outbound opcode (R117). -/
def jobsBit (op : Nat) : Nat :=
  if op = 0x0201 then 1 else if op = 0x0202 then 2 else if op = 0x0230 then 3 else if op = 0x0401 then 4 else 0

/-- The release check's verdict for the opcode (R97, R101). -/
def releaseCheck (op : Nat) (plain : Bytes) : Option Fail :=
  if op = 0x0230 then (if disconnectClass plain then none else some ⟨0x0102, 32, 0⟩)
  else if disconnectClass plain then some ⟨0x0101, 0, 0⟩ else none

/-- The tag of the glo- or ded- counterpart of a plaintext tag under forms 0 and 1 (R96, R98). -/
def counterpart (form : Nat) (newDed : Bool) (tag : Nat) : Option Nat :=
  if newDed then (if tag = 0x01 then some 0x21 else none)
  else if 0xC0 ≤ tag ∧ tag ≤ 0xC7 then some (tag + if form = 0 then 8 else 16)
  else none

/-- The outer tag of the protected APDU: the counterpart under forms 0 and 1; the other forms carry any xDLMS APDU, but a new
dedicated key needs an InitiateRequest under form 2 too (R98). -/
def outTag (form : Nat) (newDed : Bool) (tag : Nat) : Option Nat :=
  if form ≤ 1 then counterpart form newDed tag else if newDed && tag != 0x01 then none else some 0

/-- Frames a secured content in the form named, forms 0 to 4 (R83, R96). -/
def frameOut (form tag : Nat) (heTitle recip : Bytes) (ic keyId : Nat) (content : Bytes) : Bytes :=
  if form ≤ 1 then [byte tag] ++ octets content
  else if form = 2 then [0xDB] ++ octets heTitle ++ octets content
  else if form = 3 then [0xDC] ++ octets heTitle ++ octets content
  else generalCiphering (transactionId ic) heTitle recip (.identified keyId) content

/-- The KEK of a meter (R87). -/
def meterKek (mkdk : Bytes) (r : MRec) : Bytes := kdf mkdk "KEK" (padTo 8 r.title) (suiteKeyLen r.suite)

/-- What an outbound job takes for its content key and counter. -/
structure OutKey where
  key : Bytes
  ic : Nat
  record : MRec
  ded : Option Dedicated := none
  skipped : Bool := false
  /-- Key-parameters and key-ciphered-data of agreed forms. -/
  info : Option (Bytes × Bytes) := none
  deriving DecidableEq, Repr

/-- Counter, content key and the record as it stands after R158 and R89, from the record with its acknowledgement up to date.
`stat` is the meter's static agreement key and
`eph` the ephemeral scalar of form 5. -/
def outKey (c : Channel) (e : JEntry) (solo : Bool) (r : MRec) (stat : Bytes) (eph : Nat) : Except Fail OutKey :=
  let p := e.sub.outParam
  let cv := suiteCurve r.suite
  let he := c.keys.heTitle.getD []
  let top := if e.sub.opcode = 0x0401 then 0xFFFFFFFE else 0xFFEFFFFF
  if p.form = 1 ∨ p.form = 3 then
    match dedFind c p.handle e.sub.meter with
    | none => .error ⟨0x0102, 60, 0⟩
    | some y => if y.out > 0xFFEFFFFF then .error ⟨0x0302, 0, 0⟩
      else .ok { key := y.key, ic := y.out, record := r, ded := some { y with out := y.out + 1, used := e.serial } }
  else if p.form = 5 then
    match ecdh cv eph stat with
    | none => .error ⟨0x0307, 0, 0⟩
    | some z => .ok { key := agreedKey r.suite z he (transactionId 0) r.title false, ic := 0, record := r
                      info := some ([0x01], eccPublic cv eph) }
  else match takeCounter c.shard solo top r with
    | .error f => .error f
    | .ok (r', ic, sk) =>
      if p.form = 6 then
        match heAgreeKey c r.suite with
        | none => .error ⟨0x0102, 56, 0⟩
        | some d => match ecdh cv d stat with
          | none => .error ⟨0x0307, 0, 0⟩
          | some z => .ok { key := agreedKey r.suite z he (transactionId ic) r.title true, ic := ic, record := r'
                            skipped := sk, info := some ([0x02], []) }
      else .ok { key := r.guekKey, ic := ic, record := r', skipped := sk }

/-- The protected APDU, without the general-signing layer. -/
def protectApdu (c : Channel) (e : JEntry) (tag : Nat) (k : OutKey) (plain : Bytes) : Bytes :=
  let p := e.sub.outParam
  let he := c.keys.heTitle.getD []
  let recip := if k.record.broadcast then [] else k.record.title
  let content := securedContent p.sc k.ic (protectBody k.key k.record.gakKey he k.ic p.sc plain)
  match k.info with
  | some (a, b) => generalCiphering (transactionId k.ic) he recip (.agreed a b) content
  | none => frameOut p.form tag he recip k.ic (if k.record.broadcast then 1 else 0) content

/-- The protected APDU with its general-signing layer when SIGN asks for it; the nonce is drawn (R181). -/
def signOut (e : JEntry) (k : OutKey) (apdu : Bytes) (c : Channel) : Except RngStop (Bytes × Channel) :=
  if e.sub.outParam.sign = 1 then
    if !engineOpen c then .error .waits else
    let cv := suiteCurve k.record.suite
    let p := signingPrefix (transactionId k.ic) (c.keys.heTitle.getD []) (if k.record.broadcast then [] else k.record.title) apdu
    match signFresh cv ((heSignKey c k.record.suite).getD 0) (hash (curveHash cv) p) c with
    | .error x => .error x
    | .ok (s, c) => .ok (p ++ octets s, c)
  else .ok (apdu, c)

/-- What the job fills at PLACE and keeps: the bytes to fill in, the record, the table entry of a new dedicated key. The key
is drawn from the key-generation instance (R98, R110). -/
def fillPlace (e : JEntry) (r : MRec) (c : Channel) : Except RngStop (Bytes × MRec × Option Dedicated × Channel) :=
  if (fillLen e.sub r.suite).isNone then .ok ([], r, none, c)
  else match engineDraw 1 (suiteKeyLen r.suite) c with
    | .error x => .error x
    | .ok (key, c) =>
      if e.sub.opcode = 0x0401 then
        let kek := meterKek ((c.keys.mkdk.getD r.mkdkGen none).getD []) r
        .ok (kwWrap kek key, { r with pendingId := e.sub.outParam.keyId, pendingKey := padTo 32 key }, none, c)
      else
        let pl := dedPlace c.ded
        .ok (key, r, some { entry := pl.1, generation := pl.2, meter := e.sub.meter, key := key, out := 0, inHigh := none, used := e.serial }, c)

/-- RESULT of an outbound job. -/
def outboundResult (k : OutKey) (new : Option Dedicated) : Nat :=
  k.ic + 2 ^ 32 * b2n (0xF0000000 ≤ k.ic) + 2 ^ 33 * b2n k.skipped + 2 ^ 48 * ((new.map (·.handle)).getD 0)

/-- The certificate's key when the job carries one. -/
def outStatic (c : Channel) (e : JEntry) (r : Recipe) (rec' : MRec) (cert : Bytes) : Except Fail Bytes :=
  if e.sub.opflag 1 then certKey rec'.suite c.keys rec'.title (certFields r cert) else .ok []

/-- The commit of an outbound job whose output is made: the record, the dedicated-key table, or both change. -/
def outboundStage (ch : Ch) (d : Device) (e : JEntry) (k : RecCheck) (start rec' : MRec) (ok : OutKey) (new : Option Dedicated)
    (out : Bytes) (c : Channel) : Channel :=
  let ded := (ok.ded.or new).map (dedSet c.ded)
  let units := if e.sub.opcode = 0x0230 then 1 else 0
  let result := outboundResult ok new
  let base (s : Nat × Nat) := { plainEffect e s.1 s.2 result out c with ded := ded, units := units }
  if rec' = start then
    if ded.isNone ∧ units = 0 then finishRead e k result out c
    else stageJob e.jidx (base (readStatus c k.gen)) c
  else if ok.record = start && !limitOk c.shard (c.gov.soloNow d.tick) start then failE e ⟨0x0309, 0, 0⟩ c
  else stageJob e.jidx (recordEffect ch d e k.leaf rec' (base (0, 0)) c) c

/-- The outbound job from the point where every check but the counter's has passed: key, counter, protection,
signature, and the commit. A draw that gives nothing leaves the channel as it was. -/
def outboundCommit (ch : Ch) (d : Device) (e : JEntry) (k : RecCheck) (stat : Bytes) (tag : Nat) (plain : Bytes)
    (c : Channel) : Channel :=
  let start := absorbAck c.shard k.record
  let cv := suiteCurve start.suite
  match drawIf (e.sub.outParam.form == 5) 2 (curveLen cv + 8) c with
  | .error x => drawStop e x c
  | .ok (eph, c1) => match outKey c1 e (c.gov.soloNow d.tick) start stat (scalarOf cv eph) with
    | .error f => failE e f c1
    | .ok ok => match fillPlace e ok.record c1 with
      | .error x => drawStop e x c
      | .ok (fill, rec', new, c2) =>
        let plain := patch plain e.sub.outParam.place fill
        match signOut e ok (protectApdu c2 e tag ok plain) c2 with
        | .error x => drawStop e x c
        | .ok (out, c3) => outboundStage ch d e k start rec' ok new out c3

/-- The outbound jobs after the record checks (R96 to R101, R110). -/
def outboundChecks (ch : Ch) (d : Device) (e : JEntry) (r : Recipe) (plain cert : Bytes) (k : RecCheck) (c : Channel) :
    Channel :=
  let s := k.record.suite
  let p := e.sub.outParam
  let fill := fillLen e.sub s
  let pre := (outRecordCheck e k.record).or ((outParamCheck c e s plain.length).or (outKeyCheck c e k.record))
  match pre with
  | some f => failE e f c
  | none =>
    if !r.fits (jobsBit e.sub.opcode) s plain.length (e.sub.opflag 1) (some p.form) then failE e ⟨0x0303, 0xFFFF, 0⟩ c
    else match runGuards r plain cert (p.place, fill) with
      | some f => failE e f c
      | none => match releaseCheck e.sub.opcode plain with
        | some f => failE e f c
        | none =>
          let newDed := decide (e.sub.opcode = 0x0201) && e.sub.opflag 3
          match outTag p.form newDed (fieldBE plain 0 1) with
          | none => invalidField e 56 c
          | some tag => match outStatic c e r k.record cert with
            | .error f => failE e f c
            | .ok stat => outboundCommit ch d e k stat tag plain c

/-- Whether an outbound job has operations for the public-key engine: a certificate, an agreed key, a signature. -/
def Sub.usesEngine (s : Sub) : Bool := s.opflag 1 || s.outParam.form == 5 || s.outParam.form == 6 || s.outParam.sign == 1

/-- The outbound jobs: the APDU itself, without the certificate, is at most 65,024 bytes (R96). -/
def outboundJob (ch : Ch) (d : Device) (e : JEntry) (c : Channel) : Channel :=
  onContext (onEngine e.sub.usesEngine fun e => withRecipe e (fun r c =>
    let p := splitCert e r
    if 65024 < p.1.length then failE e ⟨0x0105, 48, 0⟩ c
    else withRecord d e (outboundChecks ch d e r p.1 p.2) c)) e c

/-- KEY_ACTIVATE (R111). -/
def keyActivateJob (ch : Ch) (d : Device) (e : JEntry) (c : Channel) : Channel :=
  withRecord d e (fun k c =>
    if k.record.broadcast ∨ k.record.pendingId = 0xFF then invalidField e 12 c
    else match reserveIn c.shard (c.gov.soloNow d.tick) k.record with
      | .error f => failE e f c
      | .ok r => stageJob e.jidx (recordEffect ch d e k.leaf (activatePending r) (plainEffect e 0 0 0 [] c) c) c) c

/-- KEY_DISCARD (R111). -/
def keyDiscardJob (ch : Ch) (d : Device) (e : JEntry) (c : Channel) : Channel :=
  withRecord d e (fun k c =>
    if k.record.broadcast then invalidField e 12 c
    else if k.record.pendingId = 0xFF then finishRead e k 0 [] c
    else match reserveIn c.shard (c.gov.soloNow d.tick) k.record with
      | .error f => failE e f c
      | .ok r =>
        let r := { r with pendingId := 0xFF, pendingKey := zeros 32 }
        stageJob e.jidx (recordEffect ch d e k.leaf r (plainEffect e 0 0 0 [] c) c) c) c

/-- The dedicated-key table with a handle released; the entry keeps its generation. -/
def dedRelease (h : Nat) (l : List Dedicated) : List Dedicated :=
  l.map fun x => if x.live ∧ x.entry = h % 1024 ∧ x.generation = h / 1024 then { x with live := false, key := [] } else x

/-- DEDICATED_RELEASE (R111): a table that a committing job is about to put in place releases the handle too. -/
def dedicatedReleaseJob (e : JEntry) (c : Channel) : Channel :=
  let h := e.sub.phalf 60
  let held (x : JEntry) : JEntry :=
    if x.state = .committing then { x with ready := x.ready.map fun y => { y with ded := y.ded.map (dedRelease h) } } else x
  finishPlain e 0 [] { c with ded := dedRelease h c.ded, jr := { c.jr with entries := c.jr.entries.map held } }

/-- Seconds left until a tick, rounded up. -/
def secondsLeft (until_ tick : Nat) : Nat := ceilDiv (until_ - tick) 1000

/-- The flags SF_GOV_USED and GOVERNOR_STATUS show. -/
def governorFlags (g : Governor) (tick : Nat) : Nat :=
  b2n (g.hold tick) + 2 * b2n (g.tokenActive tick) + 4 * b2n (g.challenge.any fun p => tick < p.2 + 900000)

/-- The 32 bytes of GOVERNOR_STATUS. -/
def governorBytes (g : Governor) (tick : Nat) : Bytes :=
  leBytes 2 g.budget ++ leBytes 2 g.window ++ leBytes 2 (g.used tick) ++ [byte (governorFlags g tick), 0] ++
  leBytes 4 (g.tokenUnits tick) ++ leBytes 4 ((g.token.map fun p => secondsLeft p.2 tick).getD 0) ++
  leBytes 4 (g.nextMs tick) ++ leBytes 4 ((g.challenge.map fun p => secondsLeft (p.2 + 900000) tick).getD 0) ++ leBytes 8 g.grants

/-- GOVERNOR_STATUS (R106). -/
def governorStatusJob (d : Device) (e : JEntry) (c : Channel) : Channel :=
  withShard e (fun c => finishPlain e 0 (governorBytes c.gov d.tick) c) c

/-- TOKEN_CHALLENGE (R108). DESIGN CHOICE: QSET_ID is eight zero bytes while the channel holds no quorum set (log 145). -/
def tokenChallengeJob (ch : Ch) (d : Device) (e : JEntry) (c : Channel) : Channel :=
  withShard e (fun c => match engineDraw 2 16 c with
    | .error x => drawStop e x c
    | .ok (n, c) =>
      let out := n ++ leBytes 4 900 ++ leBytes 2 d.member ++ [byte ch.val, 0] ++
        padTo 8 ((c.keys.quorum.map (·.id)).getD [])
      let x := plainEffect e 0 0 0 out c
      stageJob e.jidx { x with gov := { c.gov with challenge := some (n, d.tick) } } c) c

/-- Check 1 of R109, with R390 for kind 3. -/
def tokenShape (b : Bytes) : Bool :=
  let kind := fieldLE b 2 1
  let sigs := fieldLE b 3 1
  let units := fieldLE b 24 4
  let dur := fieldLE b 28 4
  let nb := fieldLE b 32 2
  let nw := fieldLE b 34 2
  1 ≤ sigs && sigs ≤ 16 && b.length == 64 + 68 * sigs && fieldLE b 0 2 == 1 && fieldLE b 4 2 < 4096 &&
  fieldLE b 7 1 == 0 && slice b 44 20 == zeros 20 &&
  (List.range sigs).all (fun i => fieldLE b (64 + 68 * i) 1 < 16 && slice b (65 + 68 * i) 3 == zeros 3) &&
  (if kind = 1 then 1 ≤ units && units ≤ 1000000 && 1 ≤ dur && dur ≤ 86400 && nb == 0 && nw == 0
   else if kind = 2 then units == 0 && dur == 0 && nb ≤ 4096 && 10 ≤ nw && nw ≤ 3600
   else if kind = 3 then units == 0 && dur ≤ 86400 && nb == 0 && nw == 0
   else false)

/-- The signature blocks at an offset: card and signature of each. -/
def sigBlocks (b : Bytes) (off n : Nat) : List (Nat × Bytes) :=
  (List.range n).map fun i => (fieldLE b (off + 68 * i) 1, slice b (off + 4 + 68 * i) 64)

/-- At least M distinct cards of the set are named. -/
def quorumNamed (q : QuorumSet) (l : List (Nat × Bytes)) : Bool :=
  l.all (fun x => x.1 < q.cards.length) && q.m ≤ (l.map (·.1)).eraseDups.length

/-- Every signature block verifies over a body. -/
def quorumVerifies (q : QuorumSet) (body : Bytes) (l : List (Nat × Bytes)) : Bool :=
  l.all fun x => ecdsaVerify .p256 (q.cards.getD x.1 []) (sha256 body) x.2

/-- The checks of R109 in order. -/
def tokenCheck (ch : Ch) (d : Device) (c : Channel) (b : Bytes) : Option Fail :=
  let blocks := sigBlocks b 64 (fieldLE b 3 1)
  let current := match c.gov.challenge with
    | some (n, t) => n == slice b 8 16 && d.tick < t + 900000
    | none => false
  if !tokenShape b then some ⟨0x0401, 0, 0⟩
  else if !current then some ⟨0x0402, 0, 0⟩
  else match c.keys.quorum with
    | none => some ⟨0x0401, 0, 0⟩
    | some q =>
      if fieldLE b 4 2 ≠ d.member ∨ fieldLE b 6 1 ≠ ch.val ∨ slice b 36 8 ≠ padTo 8 q.id then some ⟨0x0401, 0, 0⟩
      else if !quorumNamed q blocks then some ⟨0x0401, 0, 0⟩
      else if !quorumVerifies q (b.take 64) blocks then some ⟨0x0401, 0, 0⟩
      else none

/-- The governor after a token is applied (R109, R390). DESIGN CHOICE: DURATION_S counts from the tick at which the job ran
(log 145). -/
def tokenApplied (d : Device) (b : Bytes) (g : Governor) : Governor :=
  let g := { g with challenge := none }
  let kind := fieldLE b 2 1
  let dur := fieldLE b 28 4
  if kind = 1 then { g with token := some (fieldLE b 24 4, d.tick + 1000 * dur) }
  else if kind = 2 then
    { g with budget := fieldLE b 32 2, window := fieldLE b 34 2, holdUntil := 0, log := g.log.take (fieldLE b 32 2) }
  else { g with solo := some (if dur = 0 then none else some (d.tick + 1000 * dur)) }

/-- TOKEN_APPLY (R109, R390). -/
def tokenApplyJob (ch : Ch) (d : Device) (e : JEntry) (c : Channel) : Channel :=
  withShard e (fun c =>
    let b := e.data 32 e.sub.inLen
    match tokenCheck ch d c b with
    | some f => failE e f c
    | none =>
      if fieldLE b 2 1 = 3 ∧ ¬ (c.pair.role = .none ∨ (c.pair.role = .active ∧ c.pair.peer.isNone)) then invalidField e 32 c
      else
        let g := tokenApplied d b c.gov
        let x := plainEffect e 0 0 0 [] c
        stageJob e.jidx { x with
          gov := g
          items := if fieldLE b 2 1 = 2 then [.governor c.shard.epoch g.budget g.window] else []
          crumb := some (0x2601, fieldLE b 2 1, fieldLE b 24 4, fieldLE b 28 4) } c) c

/-- GOVERNOR_LOWER (R107). -/
def governorLowerJob (e : JEntry) (c : Channel) : Channel :=
  withShard e (fun c =>
    let b := e.sub.phalf 56
    let w := e.sub.phalf 58
    if b ≤ c.gov.budget ∧ c.gov.window ≤ w ∧ w ≤ 3600 then
      let x := plainEffect e 0 0 0 [] c
      stageJob e.jidx { x with
        gov := { c.gov with budget := b, window := w, log := c.gov.log.take b }
        items := [.governor c.shard.epoch b w] } c
    else invalidField e 56 c) c

/-- UNPROTECT. -/
def execUnprotect (ch : Ch) (jidx : Nat) (s : State) : Host.Outcome State Fault Refusal :=
  .next (onChan ch (fun ch d c => runJob 0x0101 jidx (unprotectJob ch d) c) s)

/-- UNPROTECT_SEQ. -/
def execUnprotectSeq (ch : Ch) (jidx : Nat) (s : State) : Host.Outcome State Fault Refusal :=
  .next (onChan ch (fun ch d c => runJob 0x0102 jidx (unprotectSeqJob ch d) c) s)

/-- PROTECT. -/
def execProtect (ch : Ch) (jidx : Nat) (s : State) : Host.Outcome State Fault Refusal :=
  .next (onChan ch (fun ch d c => runJob 0x0201 jidx (outboundJob ch d) c) s)

/-- PROTECT_BROADCAST. -/
def execProtectBroadcast (ch : Ch) (jidx : Nat) (s : State) : Host.Outcome State Fault Refusal :=
  .next (onChan ch (fun ch d c => runJob 0x0202 jidx (outboundJob ch d) c) s)

/-- PROTECT_DISCONNECT. -/
def execProtectDisconnect (ch : Ch) (jidx : Nat) (s : State) : Host.Outcome State Fault Refusal :=
  .next (onChan ch (fun ch d c => runJob 0x0230 jidx (outboundJob ch d) c) s)

/-- KEY_TRANSPORT. -/
def execKeyTransport (ch : Ch) (jidx : Nat) (s : State) : Host.Outcome State Fault Refusal :=
  .next (onChan ch (fun ch d c => runJob 0x0401 jidx (outboundJob ch d) c) s)

/-- KEY_ACTIVATE. -/
def execKeyActivate (ch : Ch) (jidx : Nat) (s : State) : Host.Outcome State Fault Refusal :=
  .next (onChan ch (fun ch d c => runJob 0x0402 jidx (keyActivateJob ch d) c) s)

/-- KEY_DISCARD. -/
def execKeyDiscard (ch : Ch) (jidx : Nat) (s : State) : Host.Outcome State Fault Refusal :=
  .next (onChan ch (fun ch d c => runJob 0x0403 jidx (keyDiscardJob ch d) c) s)

/-- DEDICATED_RELEASE. -/
def execDedicatedRelease (ch : Ch) (jidx : Nat) (s : State) : Host.Outcome State Fault Refusal :=
  .next (onChan ch (fun _ _ c => runJob 0x0404 jidx dedicatedReleaseJob c) s)

/-- GOVERNOR_STATUS. -/
def execGovernorStatus (ch : Ch) (jidx : Nat) (s : State) : Host.Outcome State Fault Refusal :=
  .next (onChan ch (fun _ d c => runJob 0x0F40 jidx (governorStatusJob d) c) s)

/-- TOKEN_CHALLENGE. -/
def execTokenChallenge (ch : Ch) (jidx : Nat) (s : State) : Host.Outcome State Fault Refusal :=
  .next (onChan ch (fun ch d c => runJob 0x0F41 jidx (tokenChallengeJob ch d) c) s)

/-- TOKEN_APPLY. -/
def execTokenApply (ch : Ch) (jidx : Nat) (s : State) : Host.Outcome State Fault Refusal :=
  .next (onChan ch (fun ch d c => runJob 0x0F42 jidx (tokenApplyJob ch d) c) s)

/-- GOVERNOR_LOWER. -/
def execGovernorLower (ch : Ch) (jidx : Nat) (s : State) : Host.Outcome State Fault Refusal :=
  .next (onChan ch (fun _ _ c => runJob 0x0F43 jidx governorLowerJob c) s)

/-- GRANT_AGE_OUT: the 90 % mark is looked at again once a grant has become older than W (R102, R104). -/
def execGrantAgeOut (ch : Ch) (s : State) : Host.Outcome State Fault Refusal :=
  .next (onChan ch (fun ch d c => checkNinety ch d c) s)

/-- CHALLENGE_EXPIRY: an outstanding challenge older than 900 s lapses (R108). -/
def execChallengeExpiry (ch : Ch) (s : State) : Host.Outcome State Fault Refusal :=
  .next (onChan ch (fun _ d c =>
    { c with gov := { c.gov with challenge := c.gov.challenge.filter fun p => d.tick < p.2 + 900000 } }) s)

/-- TOKEN_EXPIRY: the units of a token past its duration lapse (R109). -/
def execTokenExpiry (ch : Ch) (s : State) : Host.Outcome State Fault Refusal :=
  .next (onChan ch (fun _ d c =>
    { c with gov := { c.gov with token := c.gov.token.filter fun p => d.tick < p.2 } }) s)

/-- PROMOTION_HOLD_END (R106). -/
def execPromotionHoldEnd (ch : Ch) (s : State) : Host.Outcome State Fault Refusal :=
  .next (onChan ch (fun _ d c =>
    { c with gov := { c.gov with holdUntil := if d.tick < c.gov.holdUntil then c.gov.holdUntil else 0 } }) s)

end Sys2Proof.Machine
end

