-- ==== Sys2Proof/Machine/Recipes.lean ====
section
/-! DEFINITION. The jobs that load, list and remove recipes, and the end of an old version (R120 to R129). -/

namespace Sys2Proof.Machine

/-- An earlier load or removal of the channel that has not ended (R124, R236). -/
def loadBusy (c : Channel) (e : JEntry) (ops : List Nat) : Bool :=
  c.jr.entries.any fun o => o.serial < e.serial && ops.contains o.sub.opcode && o.state == .claimed

/-- Check 7 of R120: what LENGTH reports, when the space does not suffice (R123). -/
def recipeSpace (a : ImageArea) (id len : Nat) : Option Fail :=
  let others := a.loaded.filter fun i => i.id != id
  let used := (others.map fun i => i.bytes.length).sum
  let short := used + len - 163840
  let full := others.length == 256
  if short = 0 ∧ !full then none else some ⟨0x0105, 48, short + 2 ^ 32 * b2n full⟩

/-- Check 6 (R122): whether the image is already loaded, or the version refused. -/
def versionCheck (a : ImageArea) (id version : Nat) (b : Bytes) : Except Unit Bool :=
  match a.loaded.find? (fun i => i.id == id) with
  | none => .ok false
  | some i =>
    if i.version < version then .ok false
    else if i.version = version ∧ i.digest = sha384 b then .ok true
    else .error ()

/-- RECIPE_LOAD (R120 to R125, R128). -/
def recipeLoadJob (e : JEntry) (c : Channel) : Channel :=
  let b := e.data 32 e.sub.inLen
  let r := Recipe.ofBytes b
  if loadBusy c e [0x0F30, 0x0F32] then c
  else match recipeAdmit c.keys b with
    | some k => failE e k.fail c
    | none => match versionCheck c.recipes r.id r.version b with
      | .error _ => failE e (checkField 6 0xFFFF).fail c
      | .ok true => finishPlain e (r.version + 2 ^ 33) [] c
      | .ok false =>
        if 196608 < areaUsed c.recipes + b.length ∧ ¬ c.recipes.draining.isEmpty then c
        else match recipeSpace c.recipes r.id b.length with
          | some f => failE e f c
          | none =>
            let replaced := c.recipes.loaded.any fun i => i.id == r.id
            match admitImage recipeStore (boundTo c.jr.entries recipeOf) c.recipes c.nv r.id r.version c.jr.serial b with
            | none => failE e storeFull c
            | some x => finishPlain e (r.version + 2 ^ 32 * b2n replaced) [] { c with recipes := x.1, nv := x.2 }

/-- Images in ascending order of identifier. -/
def imagesAscending (l : List Image) : List Image := l.mergeSort fun a b => a.id ≤ b.id

/-- A line of RECIPE_LIST (R127). -/
def recipeLine (a : ImageArea) (i : Image) : Bytes :=
  let r := Recipe.ofBytes i.bytes
  leBytes 2 i.id ++ leBytes 2 r.stepCount ++ leBytes 4 i.version ++ leBytes 2 i.bytes.length ++
  [byte r.jobs, byte r.suites, byte r.form, byte (b2n (a.draining.any fun x => x.id == i.id)), 0, 0]

/-- RECIPE_LIST (R127). -/
def recipeListJob (e : JEntry) (c : Channel) : Channel :=
  let l := imagesAscending c.recipes.loaded
  let head := leBytes 2 l.length ++ [0, 0] ++ leBytes 4 (loadedBytes c.recipes) ++ leBytes 4 (storeFree recipeStore c.nv) ++ zeros 4
  finishPlain e l.length (head ++ (l.map (recipeLine c.recipes)).flatten) c

/-- RECIPE_REMOVE (R126). -/
def recipeRemoveJob (e : JEntry) (c : Channel) : Channel :=
  if loadBusy c e [0x0F30, 0x0F32] then c
  else if !(c.recipes.loaded.any fun i => i.id == e.sub.recipe) then failE e ⟨0x0108, 0, 0⟩ c
  else match removeImage recipeStore (boundTo c.jr.entries recipeOf) c.recipes c.nv e.sub.recipe c.jr.serial with
    | none => failE e storeFull c
    | some x => finishPlain e 0 [] { c with recipes := x.1, nv := x.2 }

/-- Draining images that no claimed job is bound to leave the area (R125, R236). -/
def drainArea (es : List JEntry) (takes : Sub → Option Nat) (a : ImageArea) : ImageArea :=
  { a with draining := a.draining.filter fun i => boundTo es takes i }

/-- RECIPE_LOAD. -/
def execRecipeLoad (ch : Ch) (jidx : Nat) (s : State) : Host.Outcome State Fault Refusal :=
  .next (onChan ch (fun _ _ c => runJob 0x0F30 jidx recipeLoadJob c) s)

/-- RECIPE_LIST. -/
def execRecipeList (ch : Ch) (jidx : Nat) (s : State) : Host.Outcome State Fault Refusal :=
  .next (onChan ch (fun _ _ c => runJob 0x0F31 jidx recipeListJob c) s)

/-- RECIPE_REMOVE. -/
def execRecipeRemove (ch : Ch) (jidx : Nat) (s : State) : Host.Outcome State Fault Refusal :=
  .next (onChan ch (fun _ _ c => runJob 0x0F32 jidx recipeRemoveJob c) s)

/-- RECIPE_VERSION_DRAINED: old versions no job is bound to leave their areas (R125). -/
def execRecipeVersionDrained (ch : Ch) (s : State) : Host.Outcome State Fault Refusal :=
  .next (onChan ch (fun _ _ c => { c with
    recipes := drainArea c.jr.entries recipeOf c.recipes
    programs := { c.programs with draining := c.programs.draining.filter fun i => settleBound c.jr.entries i } }) s)

end Sys2Proof.Machine
end

