-- ==== Sys2Proof/Machine/Records.lean ====
section
/-! DEFINITION. Record and shard jobs, root backups, the checkpoint, and the KEEP preference (R142, R155, R157, R162 to
R169). -/

namespace Sys2Proof.Machine

/-- The checks of R162 on a record to import, in order. -/
def importCheck (c : Channel) (e : JEntry) : Except Fail MRec :=
  match shardCheck c e.sub.meter with
  | some f => .error f
  | none =>
    match c.keys.importKey.bind fun k => kwUnwrap k (e.data 32 200) with
    | none => .error ⟨0x0200, 0, 0⟩
    | some b =>
      let r := MRec.ofBytes b
      if r.meter ≠ e.sub.meter then .error ⟨0x0201, 0, 0⟩
      else if !r.valid || (c.keys.mkdk.getD r.mkdkGen none).isNone || r.newKey || r.skipGen != 0 || r.ackGen != 0 ||
          r.ackOut != 0 || r.lastEpoch != 0 then .error ⟨0x0102, 32, 0⟩
      else if (cacheFind c e.sub.meter).isSome then .error ⟨0x0102, 12, 0⟩
      else if (boundaryOf e.sub.meter (zNode 0) e.proof).take 16 ≠ treeNode c.tree (groupOf e.sub.meter) then
        .error ⟨0x0203, 8, 0⟩
      else .ok r

/-- RECORD_IMPORT (R162). -/
def recordImportJob (ch : Ch) (d : Device) (e : JEntry) (c : Channel) : Channel :=
  match importCheck c e with
  | .error f => failE e f c
  | .ok r =>
    let p := c.shard.promo % 65536
    let r := { r with skipGen := p, ackGen := p, ackOut := r.icOut }
    stageJob e.jidx (recordEffect ch d e (zNode 0) r (plainEffect e 0 0 0 [] c) c) c

/-- RECORD_REWRAP (R164). -/
def recordRewrapJob (ch : Ch) (d : Device) (e : JEntry) (c : Channel) : Channel :=
  withRecord d e (fun k c =>
    match reserveIn c.shard (c.gov.soloNow d.tick) k.record with
    | .error f => failE e f c
    | .ok r => stageJob e.jidx (recordEffect ch d e k.leaf r (plainEffect e 0 0 c.shard.gen [] c) c) c) c

/-- RECORD_ROTATE (R165). -/
def recordRotateJob (d : Device) (e : JEntry) (c : Channel) : Channel :=
  withShard e (fun c =>
    if c.shard.rotated ∧ d.tick < c.shard.rotateTick + 86400000 then invalidField e 0 c
    else
      let g := (c.shard.gen + 1) % 2 ^ 32
      let x := plainEffect e 0 0 g [] c
      stageJob e.jidx { x with
        shard := { c.shard with gen := g, genCount := 0, rotateTick := d.tick, rotated := true }
        items := [.generation c.shard.epoch g]
        rollRaised := true } c) c

/-- The effect that empties a meter's slot (R166). -/
def retireEffect (e : JEntry) (oldLeaf : Bytes) (c : Channel) : Effect :=
  let path := proofPath e.sub.meter (zNode 0) e.proof
  { plainEffect e 0 0 0 [] c with
    leaf := some { meter := e.sub.meter, record := none, wrapped := zeros 224, leaf := zNode 0
                   bndOld := boundaryOf e.sub.meter oldLeaf e.proof, bndNew := path.getLastD [], wrapIv := 0 }
    writes := pathWrites c e.jidx e.sub.proofAddr e.sub.meter path }

/-- RECORD_RETIRE (R166). -/
def recordRetireJob (d : Device) (e : JEntry) (c : Channel) : Channel :=
  if e.sub.opflag 0 then
    match shardCheck c e.sub.meter with
    | some f => failE e f c
    | none =>
      if wrappedGen e.wrapped + 8 > c.shard.gen then invalidField e 16 c
      else
        let leaf := e.data 32 32
        if (boundaryOf e.sub.meter leaf e.proof).take 16 ≠ treeNode c.tree (groupOf e.sub.meter) then failE e ⟨0x0203, 8, 0⟩ c
        else stageJob e.jidx (retireEffect e leaf c) c
  else withRecord d e (fun k c => stageJob e.jidx (retireEffect e k.leaf c) c) c

/-- The writes of a whole tree image. -/
def imageWrite (jidx addr : Nat) (tree : List (Nat × Bytes)) : HostWrite :=
  ⟨.image, jidx, addr, ((List.range 16384).map (treeNode tree)).flatten⟩

/-- SHARD_CREATE (R167, R390). -/
def shardCreateJob (e : JEntry) (c : Channel) : Channel :=
  let n := e.sub.phalf 56
  if 1024 ≤ n ∨ c.shard.assigned ∨ servesShard c then invalidField e 56 c
  else
    match engineDraw 1 32 c with
    | .error x => drawStop e x c
    | .ok (srk, c) => stageAct e 0 262144 (.create n e.sub.outAddr srk) [imageWrite e.jidx e.sub.outAddr []] c

/-- Whether a committed job still has a tree-image write that does not count as sent (R168). -/
def treeWritesUnsent (c : Channel) : Bool :=
  c.jr.entries.any fun e => (e.state == .committing) ||
    (e.state == .committed && (e.writes.drop e.acked).any fun w => w.kind == .treeNode)

/-- TREE_IMAGE (R168): the image is written first, and TREE_BASE is set by the commit that follows. -/
def treeImageJob (e : JEntry) (c : Channel) : Channel :=
  withShard e (fun c =>
    if treeWritesUnsent c then c
    else
      onEntry e.jidx (fun x => { x with writes := [imageWrite e.jidx e.sub.outAddr c.tree] })
        (stageAct e 0 262144 (.moveTree e.sub.outAddr) [] c)) c

/-- The 64 bytes of SHARD_STATUS (R169). -/
def shardStatusBytes (c : Channel) : Bytes :=
  let s := c.shard
  leBytes 2 (s.shard + if s.assigned then 0x8000 else 0) ++ [byte (if c.held then 2 else if servesShard c then 1 else 0), 0] ++
  leBytes 4 s.promo ++ leBytes 8 s.epoch ++ padTo 16 s.root ++ leBytes 8 s.ackEpoch ++ leBytes 4 s.gen ++ leBytes 4 s.genCount ++
  leBytes 8 s.treeBase ++ leBytes 8 (((newestBackup c.nv.backups).map (·.2.epoch)).getD 0)

/-- SHARD_STATUS (R169). -/
def shardStatusJob (e : JEntry) (c : Channel) : Channel := finishPlain e 0 (shardStatusBytes c) c

/-- RECORD_IMPORT. -/
def execRecordImport (ch : Ch) (jidx : Nat) (s : State) : Host.Outcome State Fault Refusal :=
  .next (onChan ch (fun ch d c => runJob 0x0501 jidx (recordImportJob ch d) c) s)

/-- RECORD_REWRAP. -/
def execRecordRewrap (ch : Ch) (jidx : Nat) (s : State) : Host.Outcome State Fault Refusal :=
  .next (onChan ch (fun ch d c => runJob 0x0502 jidx (recordRewrapJob ch d) c) s)

/-- RECORD_ROTATE. -/
def execRecordRotate (ch : Ch) (jidx : Nat) (s : State) : Host.Outcome State Fault Refusal :=
  .next (onChan ch (fun _ d c => runJob 0x0503 jidx (recordRotateJob d) c) s)

/-- RECORD_RETIRE. -/
def execRecordRetire (ch : Ch) (jidx : Nat) (s : State) : Host.Outcome State Fault Refusal :=
  .next (onChan ch (fun _ d c => runJob 0x0504 jidx (recordRetireJob d) c) s)

/-- SHARD_CREATE. -/
def execShardCreate (ch : Ch) (jidx : Nat) (s : State) : Host.Outcome State Fault Refusal :=
  .next (onChan ch (fun _ _ c => runJob 0x0F50 jidx shardCreateJob c) s)

/-- TREE_IMAGE. -/
def execTreeImage (ch : Ch) (jidx : Nat) (s : State) : Host.Outcome State Fault Refusal :=
  .next (onChan ch (fun _ _ c => runJob 0x0F51 jidx treeImageJob c) s)

/-- SHARD_STATUS. -/
def execShardStatus (ch : Ch) (jidx : Nat) (s : State) : Host.Outcome State Fault Refusal :=
  .next (onChan ch (fun _ _ c => runJob 0x0F52 jidx shardStatusJob c) s)

/-- ROOT_BACKUP: a backup is written 60 s after the last when the epoch has changed since (R155); a held shard's battery state is
not backed up over the newer record that holds it (R156). -/
def execRootBackup (ch : Ch) (s : State) : Host.Outcome State Fault Refusal :=
  .next (onChan ch (fun _ => inTurn .rootBackup fun d c =>
    if c.shard.assigned ∧ ¬ c.held ∧ c.shard.epoch ≠ c.backups.lastEpoch ∧ c.backups.lastTick + 60000 ≤ d.tick then writeBackup d c else c) s)

/-- TREE_CHECKPOINT (R157). -/
def execTreeCheckpoint (ch : Ch) (s : State) : Host.Outcome State Fault Refusal :=
  .next (onChan ch (fun _ d c =>
    let old : Bool := match c.backups.checkpoint with
      | some (ep, _, t) => ep != c.shard.epoch && decide (t + 86400000 ≤ d.tick)
      | none => true
    if c.shard.assigned ∧ ¬ c.held ∧ c.treeOk ∧ c.backups.rootTick + 10000 ≤ d.tick ∧ old then
      { c with
        nv := c.nv.writeCheckpoint c.tree
        backups := { c.backups with checkpoint := some (c.shard.epoch, checkpointDigest c.tree, d.tick) } }
    else c) s)

/-- KEEP_PREFERENCE_EXPIRY: entries not used for 60 s lose their preference (R142). -/
def execKeepPreferenceExpiry (ch : Ch) (s : State) : Host.Outcome State Fault Refusal :=
  .next (onChan ch (fun _ d c =>
    { c with cache := c.cache.map fun x => { x with keep := x.keep && d.tick < x.used + 60000 } }) s)

end Sys2Proof.Machine
end

