-- ==== Sys2Proof/Machine/TreeLoad.lean ====
section
/-! DEFINITION. Building the tree cache from the tree image, the journal and the commit slots (R152). -/

namespace Sys2Proof.Machine

/-- The level-8 nodes of a 256 KiB array in group order; a group that holds U8 is not listed. -/
def treeOfImage (b : Bytes) : List (Nat × Bytes) :=
  ((chunks 16 (padTo 262144 b)).zipIdx.map fun p => (p.2, p.1)).filter fun p => p.2 != uNode 0

/-- Inserts into a list rising by epoch, after entries of the same epoch. -/
def patchInsert (x : Nat × Nat × Bytes) : List (Nat × Nat × Bytes) → List (Nat × Nat × Bytes)
  | [] => [x]
  | y :: ys => if x.1 < y.1 then x :: y :: ys else y :: patchInsert x ys

/-- The boundary nodes of the journal's committed and written entries and of the held slots, in epoch order: epoch,
group, node. -/
def treePatches (c : Channel) : List (Nat × Nat × Bytes) :=
  let js := (c.jr.entries.filter fun e => (e.state == .committed || e.state == .written) && !e.bndNew.isEmpty).map
    fun e => (e.epoch, groupOf e.sub.meter, e.bndNew.take 16)
  let ss := (c.shard.slots.filterMap id).map fun s => (s.epoch, s.group, s.bnd)
  (js ++ ss).foldl (fun l x => patchInsert x l) []

/-- The level-8 nodes after step 2 of R152. -/
def treeRebuilt (image : Bytes) (c : Channel) : List (Nat × Bytes) :=
  (treePatches c).foldl (fun t p => treeSet t p.2.1 p.2.2) (treeOfImage image)

end Sys2Proof.Machine
end

