-- ==== Sys2Proof/Machine/FleetOps.lean ====
section
/-! DEFINITION. Pair messages, roles, note items and the snapshot shadow: what the fleet jobs share (R368 to R383). -/

namespace Sys2Proof.Machine

/-- The channel holds an FRK and its part a member index (R368). -/
def fleetReady (d : Device) (c : Channel) : Bool := d.memberValid && c.keys.frk.isSome

/-- The shard a channel's messages name. -/
def pairShard (c : Channel) : Nat := if c.pair.role = .standbyEmpty then c.pair.bindShard else c.shard.shard

/-- DIR of a message the channel sends. -/
def pairDir (c : Channel) : Nat := if c.pair.role = .active then 0 else 1

/-- The 48-byte header of a message (R373). -/
def pairHeader (ch : Ch) (d : Device) (kind len : Nat) (c : Channel) : Bytes :=
  let p := c.pair.peer.getD (0, 0)
  leBytes 2 1 ++ [byte kind, byte (pairDir c)] ++ leBytes 2 (pairShard c) ++ zeros 2 ++ leBytes 2 d.member ++
  [byte ch.val, byte p.2] ++ leBytes 2 p.1 ++ zeros 2 ++ padTo 16 c.pair.snonce ++ leBytes 8 c.pair.pseq ++ leBytes 4 len ++ zeros 4

/-- The key of a message, from its header (R369). -/
def pairKey (frk header : Bytes) : Bytes := kdf frk "PAIR" (slice header 16 16 ++ slice header 2 14) 32

/-- The IV of a message: PREFIX64 with FIX zero and the counter PSEQ (R369). -/
def pairIv (pseq : Nat) : Bytes := zeros 4 ++ beBytes 8 pseq

/-- Builds one message and counts it. -/
def buildMessage (ch : Ch) (d : Device) (kind : Nat) (payload : Bytes) (c : Channel) : Bytes × Channel :=
  let h := pairHeader ch d kind payload.length c
  let r := gcmEncrypt (pairKey (c.keys.frk.getD []) h) (pairIv c.pair.pseq) h payload
  (h ++ r.1 ++ r.2, { c with pair := { c.pair with pseq := c.pair.pseq + 1 } })

/-- A received message: the header fields the checks read, and the parts the tag covers. -/
structure PairMsg where
  kind : Nat
  dir : Nat
  shard : Nat
  fromMember : Nat
  fromCh : Nat
  toCh : Nat
  toMember : Nat
  snonce : Bytes
  pseq : Nat
  len : Nat
  header : Bytes
  body : Bytes
  tag : Bytes
  deriving DecidableEq, Repr

/-- The fields of a message at IN_ADDR. -/
def PairMsg.ofBytes (b : Bytes) : PairMsg :=
  let len := fieldLE b 40 4
  { kind := fieldLE b 2 1, dir := fieldLE b 3 1, shard := fieldLE b 4 2, fromMember := fieldLE b 8 2
    fromCh := fieldLE b 10 1, toCh := fieldLE b 11 1, toMember := fieldLE b 12 2, snonce := slice b 16 16
    pseq := fieldLE b 32 8, len := len, header := slice b 0 48, body := slice b 48 len, tag := slice b (48 + len) 16 }

/-- The LEN a kind takes (R373). -/
def kindLenOk (kind len : Nat) : Bool :=
  match kind with
  | 1 => 48 ≤ len && len ≤ 48 + 64 * 2048 && (len - 48) % 64 == 0
  | 4 => len == 144 || len == 65552
  | 6 => 40 ≤ len && (len - 40) % 4 == 0
  | 2 => len == 32
  | 3 => len == 32
  | 5 => len == 32
  | _ => false

/-- Check 1 of R374. -/
def messageShape (b : Bytes) (m : PairMsg) : Bool :=
  fieldLE b 0 2 == 1 && m.shard < 1024 && slice b 6 2 == zeros 2 && m.fromMember < 4096 && m.toMember < 4096 &&
  slice b 14 2 == zeros 2 && slice b 44 4 == zeros 4 && b.length == 64 + m.len && kindLenOk m.kind m.len

/-- The roles that accept a kind (R373). -/
def kindRole (kind : Nat) (r : PairRole) : Bool :=
  match kind with
  | 2 => r == .active
  | 3 => r != .none
  | 6 => r == .standby
  | _ => r == .standby || r == .standbyEmpty

/-- Checks 1 to 6 of R374, after R368. -/
def messageCheck (ch : Ch) (d : Device) (c : Channel) (b : Bytes) : Except Fail (PairMsg × Bytes) :=
  let m := PairMsg.ofBytes b
  if !fleetReady d c then .error ⟨0x0602, 0, 0⟩
  else if !messageShape b m then .error ⟨0x0102, 32, 0⟩
  else if m.toMember ≠ d.member ∨ m.toCh ≠ ch.val ∨ m.shard ≠ pairShard c then .error ⟨0x0602, 0, 0⟩
  else if c.pair.revoked.contains m.fromMember then .error ⟨0x0603, m.fromMember, 0⟩
  else if c.pair.peer ≠ some (m.fromMember, m.fromCh) ∨ m.dir ≠ 1 - pairDir c then .error ⟨0x0602, 0, 0⟩
  else match gcmDecrypt (pairKey (c.keys.frk.getD []) m.header) (pairIv m.pseq) m.header m.body m.tag with
    | none => .error ⟨0x0600, 0, 0⟩
    | some p => if kindRole m.kind c.pair.role then .ok (m, p) else .error ⟨0x0602, 0, 0⟩

/-- The 64 bytes of a note item (R375). -/
def NoteItem.toBytes (i : NoteItem) : Bytes :=
  match i with
  | .leaf meter ep bnd lf => [1, 0, 0, 0] ++ leBytes 4 meter ++ leBytes 8 ep ++ padTo 16 bnd ++ padTo 32 lf
  | .governor ep b w => [2, 0, 0, 0] ++ zeros 4 ++ leBytes 8 ep ++ leBytes 2 b ++ leBytes 2 w ++ zeros 44
  | .generation ep gen => [3, 0, 0, 0] ++ zeros 4 ++ leBytes 8 ep ++ leBytes 4 gen ++ zeros 44

/-- A note item of 64 bytes; none when its KIND is not one of the three or a reserved field is not 0. -/
def NoteItem.ofBytes (b : Bytes) : Option NoteItem :=
  let ep := fieldLE b 8 8
  if slice b 1 3 ≠ zeros 3 then none
  else match fieldLE b 0 1 with
    | 1 => some (.leaf (fieldLE b 4 4) ep (slice b 16 16) (slice b 32 32))
    | 2 => if slice b 4 4 = zeros 4 ∧ slice b 20 44 = zeros 44 then some (.governor ep (fieldLE b 16 2) (fieldLE b 18 2)) else none
    | 3 => if slice b 4 4 = zeros 4 ∧ slice b 20 44 = zeros 44 then some (.generation ep (fieldLE b 16 4)) else none
    | _ => none

/-- Whether an item is a LEAF item, and its epoch. -/
def NoteItem.leafEpoch (i : NoteItem) : Option Nat :=
  match i with
  | .leaf _ ep _ _ => some ep
  | _ => none

/-- The note payload over the buffer's items (R376). -/
def notePayload (c : Channel) : Bytes :=
  let items := c.pair.buffer.map (·.1)
  let last := c.shard.epoch
  let first := ((items.filterMap NoteItem.leafEpoch).head?).getD (last + 1)
  leBytes 8 first ++ leBytes 8 last ++ padTo 16 c.shard.root ++ leBytes 2 items.length ++ zeros 2 ++ leBytes 4 c.shard.gen ++
  zeros 8 ++ (items.map NoteItem.toBytes).flatten

/-- What a note is applied to: nodes, epoch, B, W, GEN. -/
structure NoteBase where
  nodes : List (Nat × Bytes)
  epoch : Nat
  b : Nat
  w : Nat
  gen : Nat
  applied : List NoteItem := []
  deriving DecidableEq, Repr

/-- One item applied (R378). -/
def applyItem (h : Nat) (x : NoteBase) (i : NoteItem) : NoteBase :=
  match i with
  | .leaf meter ep bnd leaf =>
    if ep ≤ h then x
    else { x with nodes := treeSet x.nodes (groupOf meter) bnd, applied := x.applied ++ [.leaf meter ep bnd leaf] }
  | .governor _ b w => { x with b := b, w := w }
  | .generation _ g => { x with gen := g }

/-- A note applied to a base (R378): none inside when it changes nothing. A shadow, whose chunks were captured at
different epochs, is checked at its COMMIT only (R382). -/
def applyNote (checked : Bool) (p : Bytes) (x : NoteBase) : Except Fail (Option NoteBase) :=
  let first := fieldLE p 0 8
  let last := fieldLE p 8 8
  let items := (chunks 64 (p.drop 48)).map NoteItem.ofBytes
  if slice p 34 2 ≠ zeros 2 ∨ slice p 40 8 ≠ zeros 8 ∨ items.length ≠ fieldLE p 32 2 ∨ items.any (·.isNone) then .error ⟨0x0102, 32, 0⟩
  else if x.epoch + 1 < first then .error ⟨0x0601, 0, 0⟩
  else if last ≤ x.epoch then .ok none
  else
    let y := (items.filterMap id).foldl (applyItem x.epoch) x
    if checked ∧ treeRoot y.nodes ≠ slice p 16 16 then .error ⟨0x0203, 22, 0⟩ else .ok (some { y with epoch := last })

/-- The lowest chunk a staging still misses (R382, R383). -/
def missingChunk (s : Shadow) : Option Nat := [1, 2, 3, 4].find? fun k => !s.chunks.contains k

/-- The payload of an ACK for an epoch and its root (R378). -/
def ackPayload (epoch : Nat) (root : Bytes) : Bytes := leBytes 8 epoch ++ padTo 16 root ++ zeros 8

/-- No transaction is under way: what a message says of the shard, and what is staged of a snapshot, stands (R65, R379). -/
def pairQuiet (c : Channel) : Bool := c.jr.entries.all fun x => x.state != .committing

/-- STATE, the 128 bytes of chunk 0 (R381). -/
def chunkState (c : Channel) : Bytes :=
  leBytes 2 c.shard.shard ++ zeros 2 ++ leBytes 4 c.shard.promo ++ leBytes 4 c.shard.gen ++ leBytes 2 c.gov.budget ++
  leBytes 2 c.gov.window ++ padTo 32 c.shard.srk ++ padTo 16 c.shard.root ++ zeros 64

/-- The head of a chunk payload. -/
def chunkHead (snap index epoch : Nat) : Bytes := leBytes 4 snap ++ [byte index] ++ zeros 3 ++ leBytes 8 epoch

/-- The shadow a chunk 0 starts (R382). -/
def shadowOf (p : Bytes) : Shadow :=
  { snapId := fieldLE p 0 4, epoch := fieldLE p 8 8, shard := fieldLE p 16 2 % 1024, promo := fieldLE p 20 4
    gen := fieldLE p 24 4, b := fieldLE p 28 2, w := fieldLE p 30 2, srk := slice p 32 32 }

/-- The nodes of chunk `k` entered in a shadow. -/
def stageChunk (k : Nat) (p : Bytes) (s : Shadow) : Shadow :=
  let nodes := (chunks 16 (padTo 65536 (p.drop 16))).zipIdx.map fun x => (4096 * (k - 1) + x.2, x.1)
  { s with
    chunks := s.chunks ++ [k]
    nodes := nodes.foldl (fun t x => treeSet t x.1 x.2) s.nodes }

/-- The opcode's roles accept the channel's, with a peer to send to (R370). -/
def activePaired (c : Channel) : Bool := c.pair.role == .active && c.pair.peer.isSome

/-- The seconds left of SOLO_PERMIT (R393). -/
def soloSeconds (d : Device) (g : Governor) : Nat :=
  match g.solo with
  | none => 0
  | some none => 0xFFFFFFFF
  | some (some t) => secondsLeft t d.tick

/-- The 64 bytes of PAIR_STATUS (R393). -/
def pairStatusBytes (d : Device) (c : Channel) : Bytes :=
  let p := c.pair
  let peer := p.peer.getD (0, 0)
  let age := match p.lastBeat with
    | some (t, _) => min (d.tick - t) 0xFFFFFFFF
    | none => 0xFFFFFFFF
  let lag := ((p.unacked ++ p.buffer).head?.map fun i => min (d.tick - i.2) 0xFFFFFFFF).getD 0
  let mask := match p.shadow with
    | some s => 1 + ((s.chunks.map fun k => 2 ^ k).sum)
    | none => 0
  let snap := (p.shadow.map (·.snapId)).getD p.snapId
  [byte (roleCode p.role), byte (b2n p.syncLost + 2 * b2n p.shadow.isSome + 4 * b2n (c.gov.soloNow d.tick) + 8 * b2n (c.gov.hold d.tick))] ++
  leBytes 2 peer.1 ++ [byte peer.2, byte p.ackLag] ++ leBytes 2 p.buffer.length ++ leBytes 8 c.shard.epoch ++
  leBytes 8 c.shard.ackEpoch ++ leBytes 4 age ++ leBytes 4 lag ++ leBytes 4 snap ++ [byte mask] ++ zeros 3 ++
  leBytes 8 ((p.shadow.map (·.epoch)).getD 0) ++ leBytes 4 p.listSeq ++ leBytes 4 (soloSeconds d c.gov) ++ zeros 8

/-- Whether a list of members rises without repeats. -/
def rising : List Nat → Bool
  | a :: b :: l => a < b && rising (b :: l)
  | _ => true

/-- The members a revocation list names. -/
def listMembers (b : Bytes) : List Nat := (List.range (fieldLE b 8 2)).map fun k => fieldLE b (32 + 2 * k) 2

/-- The length of a revocation list before its signature blocks. -/
def listBody (b : Bytes) : Nat := 32 + (2 * fieldLE b 8 2 + 3) / 4 * 4

/-- The shape of a revocation list (R392). -/
def listShape (b : Bytes) : Bool :=
  let sigs := fieldLE b 2 1
  let n := fieldLE b 8 2
  1 ≤ sigs && sigs ≤ 16 && n ≤ 1024 && b.length == listBody b + 68 * sigs && fieldLE b 0 2 == 1 && fieldLE b 3 1 == 0 &&
  slice b 10 2 == zeros 2 && slice b 20 12 == zeros 12 && (listMembers b).all (fun m => m < 4096) && rising (listMembers b) &&
  slice b (32 + 2 * n) (listBody b - 32 - 2 * n) == zeros (listBody b - 32 - 2 * n) &&
  (List.range sigs).all (fun i => fieldLE b (listBody b + 68 * i) 1 < 16 && slice b (listBody b + 1 + 68 * i) 3 == zeros 3)

/-- The checks of R392 in order. -/
def listCheck (c : Channel) (b : Bytes) : Option Fail :=
  let blocks := sigBlocks b (listBody b) (fieldLE b 2 1)
  if !listShape b then some ⟨0x0401, 0, 0⟩
  else match c.keys.quorum with
    | none => some ⟨0x0401, 0, 0⟩
    | some q =>
      if slice b 12 8 ≠ padTo 8 q.id ∨ !quorumNamed q blocks ∨ !quorumVerifies q (b.take (listBody b)) blocks then some ⟨0x0401, 0, 0⟩
      else if fieldLE b 4 4 ≤ c.pair.listSeq then some ⟨0x0102, 32, 0⟩
      else none

end Sys2Proof.Machine
end

