-- ==== Sys2Proof/Machine/Resets.lean ====
section
/-! DEFINITION. The reset kinds and what each leaves of a channel (R69 to R72, R78, R304, R320, R331, R340, R357, R362, R547,
R548). -/

namespace Sys2Proof.Machine

/-- The reset kinds that reach a channel, in the order COMMIT_LIST numbers them (R79, R547). -/
inductive ResetKind where
  | cold
  | warm
  | flr
  | safety
  | bist
  | tamper
  deriving DecidableEq, Repr

/-- The code COMMIT_LIST reports. -/
def ResetKind.code : ResetKind → Nat
  | .cold => 0
  | .warm => 1
  | .flr => 2
  | .safety => 3
  | .bist => 4
  | .tamper => 5

/-- Whether the journal and the result stage survive (R69, R78). -/
def ResetKind.keepsJournal (k : ResetKind) : Bool := k != .cold && k != .tamper

/-- The ring pairs of a slice back at their reset values; RING_SEQ stays (R50). -/
def resetPairs (h : Slice) : Vector RingPair 4 :=
  Vector.ofFn fun i => { (({} : Slice).pairs.get i) with seqLast := (h.pairs.get i).seqLast, seqValid := (h.pairs.get i).seqValid }

/-- A slice after a reset kind: a function-level reset and a cold reset return its registers; every kind drops the writes
not yet acknowledged (R34, R36, R50, R74). -/
def Slice.reset (k : ResetKind) (h : Slice) : Slice :=
  match k with
  | .cold => {}
  | .flr => { pairs := resetPairs h }
  | _ => { h with sent := [] }

/-- A journal entry after a reset that keeps it (R70 to R74): every completion will carry REPLAYED; a CLAIMED job starts
over; staged writes and completions are sent again. -/
def JEntry.afterReset (flr : Bool) (e : JEntry) : JEntry :=
  let e := { e with replayed := true, posted := false, sentUpTo := 0, acked := 0 }
  match e.state with
  | .claimed => { e with reads := [], ready := none, writes := [], checked := false, refused := false, recheck := e.recheck || flr }
  | .committed => { e with recheck := e.recheck || (flr && !e.writes.isEmpty) }
  | .committing => { e with recheck := e.recheck || flr }
  | _ => e

/-- The journal after a reset kind. DESIGN CHOICE: the cursor starts at 0 after a cold or a tamper reset and is kept over the
others (log 39). -/
def Journal.reset (k : ResetKind) (j : Journal) : Journal :=
  if k.keepsJournal then
    { j with entries := j.entries.map (JEntry.afterReset (k = .flr)), lastReset := k.code }
  else { serial := if k = .cold then 0 else j.serial, lastReset := k.code }

/-- The image bound to later claims starts at once: jobs run again are bound afresh (R125). -/
def ImageArea.reset (keep : Bool) (a : ImageArea) : ImageArea :=
  { a with draining := [], loaded := if keep then a.loaded.map fun i => { i with since := 0, till := none } else [] }

/-- What a pair keeps outside the battery domain is lost (R373, R375, R381). -/
def Pair.reset (p : Pair) : Pair :=
  { p with
    snonce := [], pseq := 0, buffer := [], unacked := [], syncLost := true, lastNote := none, shadow := none
    lastBeat := none, beatTicks := [], overdue := false }

/-- The access table back at its reset contents; captures of memory errors and the bucket survive where they do (R331,
R337, R340). -/
def AccessTable.reset (k : ResetKind) (t : AccessTable) : AccessTable :=
  let z : AccessTable := { mgmt := t.mgmt }
  if k.keepsJournal then
    { z with
      eccCaddr := t.eccCaddr, eccCbit := t.eccCbit, eccUaddr := t.eccUaddr, eccUmaster := t.eccUmaster, eccUvalid := t.eccUvalid
      badWords := t.badWords, bucket := t.bucket, crossings := t.crossings, bucketThr := t.bucketThr, bucketLeak := t.bucketLeak
      leakTick := t.leakTick, scrubPasses := t.scrubPasses, scrubTick := t.scrubTick }
  else z

/-- A page power was lost under (R357). -/
def tornWord (unit boot : Nat) (b : NvBank) : NvBank :=
  match b.busy with
  | none => b
  | some k =>
    if k.cmd ≠ 1 ∧ k.cmd ≠ 2 then b
    else
      let n := Config.tornPage unit boot k.addr % 3
      if n = 0 then { b with words := b.words.filter fun w => w.1 != k.addr }
      else if n = 1 then b
      else { b with badWords := k.addr :: b.badWords }

/-- A bank after a reset kind (R357, R358, R362). -/
def nvReset (k : ResetKind) (unit boot : Nat) (b : NvBank) : NvBank :=
  let b := if k = .cold then tornWord unit boot b else b
  let b := b.reset
  let b := if k = .cold then { b with margin := 0, scrubPage := 0, scrubTick := none } else b
  if k.keepsJournal then b
  else
    let z : NvBank := {}
    { b with bucket := z.bucket, crossings := z.crossings, thr := z.thr, leak := z.leak, leakTick := z.leakTick
             uvalid := false, uaddr := 0 }

/-- The safety registers after a reset kind: every reset stops the watchdog; a cold one clears counts and latch (R465,
R467, R477, R548). -/
def Safety.reset (k : ResetKind) (s : Safety) : Safety :=
  if k = .cold then { bistTick := s.bistTick, bistNext := s.bistNext, repairs := s.repairs }
  else { s with wdogEn := false }

/-- A channel after a reset kind reached it (R547); it is held in RESET until it is released. -/
def channelReset (k : ResetKind) (ch : Ch) (d : Device) (c : Channel) : Channel :=
  let keep := k.keepsJournal
  let core : Kenten := { df := if keep then c.core.df else {} }
  let c := { c with
    host := c.host.reset k, bootStep := 0, ifEpoch := 0, image := none, notice := false
    port := if k = .cold then {} else c.port
    jr := c.jr.reset k, cache := [], tree := [], treeOk := false, held := false, ded := [], pair := c.pair.reset
    recipes := c.recipes.reset (k = .bist), programs := c.programs.reset (k = .bist)
    table := c.table.reset k, core := core
    pke := { errcnt := if keep then c.pke.errcnt else 0 }
    hash := {}, ce := { errcnt := if keep then c.ce.errcnt else 0 }
    rng := { alarms := if keep then c.rng.alarms else 0 }
    fu := {}, nv := nvReset k ch.val d.bootCount c.nv, sf := c.sf.reset k, updatePort := false, rootTries := 0, causes := 0, viewSeen := (0, 0)
    deep := false, mem := if keep then c.mem else [], patches := if keep then c.patches else [] }
  if k = .cold ∨ k = .flr then { c with state := .reset } else setChState .reset c

/-- Every channel changed, enabled and disabled alike: a tamper response (R445) and the loss of the battery domain. -/
def onAll (f : Ch → Device → Channel → Channel) (s : State) : State :=
  { s with chans := Vector.ofFn fun i => f i s.dev (s.chans.get i) }

/-- Every enabled channel changed; the others stay powered down (R4). -/
def onEvery (f : Ch → Device → Channel → Channel) (s : State) : State :=
  { s with chans := Vector.ofFn fun i => if s.dev.has i then f i s.dev (s.chans.get i) else s.chans.get i }

end Sys2Proof.Machine
end

