-- ==== Sys2Proof/Machine/Boot.lean ====
section
/-! DEFINITION. The steps of a channel boot: slot checks, memory test and repair, stores, root-load, the journal, the
table (R62, R69 to R72, R129, R152, R156, R173, R225, R236, R334, R405, R409, R464, R472 to R476, R551). -/

namespace Sys2Proof.Machine

/-- What the rest of the part tells a channel that boots. -/
structure BootEnv where
  /-- TP_TAMPERED bit of the channel. -/
  tampered : Bool
  chSvn : Nat
  /-- SHIP mode is in force (R449). -/
  ship : Bool := false

/-- The image a slot holds. -/
def FwSlots.image (f : FwSlots) (b : Bool) : Option FwImage := if b then f.b else f.a

/-- The boot waits for management's confirmation (R21): a slot's, while it is still marked TRIAL. -/
def Channel.needsConfirm (c : Channel) : Bool := c.confirm || (c.confirmSlot && c.fw.other == .trial)

/-- One slot's image changed. -/
def FwSlots.setImage (b : Bool) (i : Option FwImage) (f : FwSlots) : FwSlots := if b then { f with b := i } else { f with a := i }

/-- The check of R409 that an image fails first, numbered from 1. -/
def slotCheck (mgmt : Bool) (svn : Nat) (journal : Bool) (i : FwImage) : Option Nat :=
  let h := i.hdr
  if !i.sigOk then some 1
  else if !i.digestOk then some 2
  else if 0xB1 < h.minStep then some 3
  else if h.svn < svn then some 4
  else if (h.featReq.zipIdx.any fun p => p.1 &&& (featWord mgmt p.2).toNat != p.1) then some 5
  else if journal && !bit h.jformats 1 then some 6
  else none

/-- The slots to try, in order (R409). -/
def FwSlots.order (f : FwSlots) : List Bool :=
  let first := if f.other = .trial then !f.active else f.active
  [first, !first].filter fun b => (f.image b).isSome

/-- The slot that boots, and the failed checks met before it: slot and check. -/
def bootSlot (mgmt : Bool) (svn : Nat) (journal : Bool) (f : FwSlots) : List Bool → Option (Bool × FwImage) × List (Bool × Nat)
  | [] => (none, [])
  | b :: bs => match f.image b with
    | none => bootSlot mgmt svn journal f bs
    | some i => match slotCheck mgmt svn journal i with
      | none => (some (b, i), [])
      | some k => let r := bootSlot mgmt svn journal f bs; (r.1, (b, k) :: r.2)

/-- Spare rows of a bank: eight of an SRAM bank, four of engine memory (R473). -/
def bankSpares (bank : Nat) : Nat := if bank = 8 then 4 else 8

/-- A failing row met by the memory test (R474, R476). -/
def repairRow (ch : Ch) (d : Device) (bank row addr bitNo : Nat) (c : Channel) : Channel :=
  let first := !c.sf.mbFail
  let c := { c with sf := { c.sf with
    mbFail := true
    mbBank := if first then bank else c.sf.mbBank
    mbAddr := if first then addr / 8 * 8 else c.sf.mbAddr
    mbBit := if first then bitNo else c.sf.mbBit } }
  let used := c.sf.spares.getD bank 0
  if used < bankSpares bank then
    safetyCrumb d 0x0604 ch.val bank row bitNo { c with
      sf := { c.sf with
        mbRepaired := true, mbRepairs := min (c.sf.mbRepairs + 1) 15, spares := c.sf.spares.set bank (used + 1)
        repairs := c.sf.repairs ++ [⟨bank, used, row, bitNo, d.seconds⟩] }
      outSources := c.outSources ++ [55] }
  else
    safetyCrumb d 0x0605 ch.val bank row 0 { c with
      sf := { c.sf with mbUnrepairable := true }
      outSources := if c.sf.mbUnrepairable then c.outSources else c.outSources ++ [53] }

/-- A memory test run over its failing rows. -/
def memoryTest (ch : Ch) (d : Device) (rows : List (Fin 9 × Nat × Nat × Nat)) (c : Channel) : Channel :=
  let c := { c with sf := { c.sf with
    mbDone := true, mbFail := false, mbRepaired := false, mbUnrepairable := false, mbRepairs := 0, mbBank := 0, mbAddr := 0, mbBit := 0 } }
  rows.foldl (fun c r => repairRow ch d r.1.val r.2.1 r.2.2.1 r.2.2.2 c) c

/-- The bytes the memory test leaves: nothing after a cold or tamper reset, else the journal and the result stage (R69). -/
def testedMem (kept : Bool) (m : Mem) : Mem := if kept then m.filter fun x => 0x1C0000 ≤ x.1 && x.1 < 0x300000 else []

/-- The images of a store that are loaded at boot, and those dropped with their failing check (R129, R236). -/
def reloadStore (st : StoreArea) (accepts : Bytes → Option Check) (n : NvBank) (a : ImageArea) : ImageArea × List (Nat × Nat) :=
  let newest := (storeNewest (storeScan st n)).filter fun r => !r.removal
  let fails (r : StoreRec) : Option Nat := if sha384 r.image ≠ r.digest then some 0 else (accepts r.image).map (·.number)
  ({ a with
      loaded := (newest.filter fun r => (fails r).isNone).map fun r => { id := r.id, version := r.version, bytes := r.image, digest := r.digest }
      draining := [] },
    newest.filterMap fun r => (fails r).map fun n => (r.id, n))

/-- Both stores re-checked, a crumb for each image dropped. -/
def reloadStores (ch : Ch) (d : Device) (c : Channel) : Channel :=
  let (r, rb) := reloadStore recipeStore (recipeAdmit c.keys) c.nv c.recipes
  let (p, pb) := reloadStore settleStore (programAdmit c.keys) c.nv c.programs
  let c := { c with recipes := r, programs := p }
  let c := rb.foldl (fun c x => fileCrumb ch d 0x1600 x.1 x.2 0 0 c) c
  pb.foldl (fun c x => fileCrumb ch d 0x1601 x.1 x.2 0 0 c) c

/-- The private key slots loaded and checked (R173): a slot is faulty when its material fails the check, when its copy in the
parameter sectors does not authenticate (`bad`), and every one is without the key that wraps them; the other keys of the parameter
sectors cannot be read then (R446). Slots 16 to 24 hold public keys. -/
def checkKeySlots (ch : Ch) (d : Device) (bad : List Nat) (c : Channel) : Channel :=
  let fails (p : Nat × KeySlot) : Bool := decide (p.1 < 16) && (bad.contains p.1 || c.kek.isNone || !slotSound p.1 p.2.material)
  let mark (p : Nat × KeySlot) : Nat × KeySlot := if fails p then (p.1, { p.2 with faulty := true }) else p
  let c' := { c with keys := if c.kek.isNone then { slots := c.keys.slots.map mark } else { c.keys with slots := c.keys.slots.map mark } }
  (c'.keys.slots.filter fun p => p.2.faulty).foldl (fun c p => fileCrumb ch d 0x1402 p.1 0 0 0 c) c'

/-- Bytes of the journal and the stage that read otherwise than they were written. -/
def applyFlips (l : List (Nat × Byte)) (c : Channel) : Channel :=
  (l.filter fun x => 0x1C0000 ≤ x.1 && x.1 < 0x300000).foldl (fun c x => c.storeByte x.1 x.2) c

/-- The pass over the journal and the result stage, which the memory test leaves out after a reset that keeps them (R69): single-bit
errors are corrected, and an uncorrectable word is captured without a safety reaction (R336, R337). -/
def journalPass (ch : Ch) (d : Device) (seen : BootSeen) (c : Channel) : Channel :=
  let inside (a : Nat) : Bool := 0x1C0000 ≤ a && a < 0x300000
  let c := applyFlips seen.flips c
  let c := (seen.corrected.filter fun x => inside x.1).foldl (fun c x => sramCorrection ch.castSucc x.1 x.2 d c) c
  ((seen.uncorrectable.map fun a => a / 8 * 8).filter inside).foldl (fun c a => onTable (fun t => captureUncorr a 0 { t with
    badWords := if t.badWords.contains a then t.badWords else a :: t.badWords }) c) c

/-- A restart after a logic BIST cycle whose digests match and that has no TRIAL slot to take up (R411, R470). -/
def fastRestart (seen : BootSeen) (c : Channel) : Bool := c.jr.lastReset == 4 && !seen.digest && c.fw.other != .trial

/-- The firmware copy (R409): the slot chosen, or RECOVERY with none. -/
def firmwareCopy (ch : Ch) (d : Device) (env : BootEnv) (c : Channel) : Channel :=
  let (found, bad) := bootSlot false env.chSvn (!c.jr.entries.isEmpty) c.fw c.fw.order
  let c := bad.foldl (fun c x => fileCrumb ch d 0x1001 0x10 (b2n x.1) x.2 0 c) c
  match found with
  | some (b, i) => { c with
      fw := { c.fw with running := some b }, image := some i.hdr, ifEpoch := i.hdr.ifEpoch, mem := memStore c.mem 0 i.body }
  | none => setChState .recovery { c with fw := { c.fw with running := none } }

/-- The boot from ROM to the end of FW_COPY (R551). -/
def bootFirst (ch : Ch) (d : Device) (env : BootEnv) (seen : BootSeen) (c : Channel) : Channel :=
  if c.needsConfirm then setChState .waitMgmt c
  else
    let fast := fastRestart seen c
    let overdue := !fast && decide (c.sf.bistTick + 28800000 < d.tick)
    let c := { c with sf := { c.sf with debt := overdue } }
    match (if overdue then seen.signature else none) with
    | some (lo, hi) =>
      let c := latchFault ch d 0x0C 0 c
      safetyCrumb d 0x0603 ch.val lo hi 0 { c with outSources := c.outSources ++ [52] }
    | none =>
      let c := if overdue then { c with sf := { c.sf with bistTick := d.tick } } else c
      let kept := 1 ≤ c.jr.lastReset && c.jr.lastReset ≤ 4
      let c := if fast then c else memoryTest ch d seen.rows { c with
        mem := testedMem kept c.mem, patches := if kept then c.patches.filter fun p => 0x1C0000 ≤ p.1 && p.1 < 0x300000 else []
        table := { c.table with badWords := c.table.badWords.filter fun a => kept && 0x1C0000 ≤ a && a < 0x300000 } }
      let c := if kept then journalPass ch d seen c else c
      if !fast && c.sf.mbUnrepairable then latchFault ch d 0x0C 0 c
      else
        let c := finishRefresh spareSector { c with nv := c.nv.formatBank }
        let c := if fast then { c with
            image := (c.fw.running.bind c.fw.image).map (·.hdr)
            ifEpoch := ((c.fw.running.bind c.fw.image).map (·.hdr.ifEpoch)).getD 0 }
          else firmwareCopy ch d env c
        if c.state ≠ .booting then c
        else if seen.kat then reportSafety ch d 0x0B 0 c
        else
          let c := checkKeySlots ch d seen.slots c
          let c := if fast then c else reloadStores ch d c
          { c with bootStep := 3, rng := { c.rng with source := .proofing } }

/-- The newest root backup that the battery state is compared with (R156). -/
def comparedBackup (c : Channel) : Option RootBackup :=
  if c.shard.assigned then (newestBackup (c.nv.backups.filter fun b => b.2.shard == c.shard.shard + 0x8000)).map (·.2)
  else ((newestBackup c.nv.backups).map (·.2)).filter fun b => 0x8000 ≤ b.shard

/-- Battery state compared with the backups: a shard that is held, and a lost wrap counter resumed (R136, R156). -/
def compareBackups (ch : Ch) (d : Device) (c : Channel) : Channel :=
  match comparedBackup c with
  | none => c
  | some b =>
    let c := if !c.shard.assigned ∧ c.shard.wrapCtr = 0 then { c with shard := { c.shard with wrapCtr := (b.wrapCtr + 2 ^ 32) % 2 ^ 64 } } else c
    if c.shard.assigned ∧ b.epoch ≤ c.shard.epoch then c
    else fileCrumb ch d 0x1401 (c.shard.epoch % 2 ^ 32) (b.epoch % 2 ^ 32) 0 0 { c with held := true }

/-- The level-8 array root-load starts from: the checkpoint when the newest backup of the shard names it, at the battery epoch and by its
digest, else the tree image, which a locked window must hold (R152 step 1). -/
def treeSource (image : Option Bytes) (c : Channel) : Option (List (Nat × Bytes)) :=
  let fromImage := if c.host.win.holds c.shard.treeBase 262144 then image.map treeOfImage else none
  match comparedBackup c with
  | none => fromImage
  | some b => if b.ckptEpoch = c.shard.epoch ∧ b.ckptDigest = sha256 c.nv.checkpoint then some (treeOfImage c.nv.checkpoint) else fromImage

/-- The tree cache built again as R152 describes; as it stands when its source cannot be read. -/
def treeAgain (image : Option Bytes) (c : Channel) : Channel :=
  match treeSource image c with
  | none => c
  | some nodes => { c with tree := (treePatches c).foldl (fun t p => treeSet t p.2.1 p.2.2) nodes }

/-- One try of root-load (R152); the second part tells that the boot goes on. -/
def rootLoad (ch : Ch) (d : Device) (image : Option Bytes) (c : Channel) : Channel × Bool :=
  if !c.shard.assigned || c.held || c.pair.role == .standbyEmpty then (c, true)
  else match treeSource image c with
    | none => (c, false)
    | some nodes =>
      let t := (treePatches c).foldl (fun t p => treeSet t p.2.1 p.2.2) nodes
      if treeRoot t = c.shard.root then ({ c with tree := t, treeOk := true }, true)
      else
        let n := c.rootTries + 1
        (fileCrumb ch d 0x1400 (c.shard.epoch % 2 ^ 32) n 0 0 { c with rootTries := n }, false)

/-- Whether the battery transaction of an entry in COMMITTING was done (R70 step 3). -/
def txnDone (d : Device) (c : Channel) (e : JEntry) : Bool := c.shard.lastTxn == (d.bootCount, e.serial)

/-- The state that LAST_TXN decides for an entry in COMMITTING (R70 step 3). -/
def JEntry.resolved (done : Bool) (e : JEntry) : JEntry :=
  if e.state ≠ .committing then e
  else if done then
    let changed := !e.leafNew.isEmpty
    { e with
      state := if e.writes.isEmpty then .written else .committed, staged := true, ready := none
      cpl := { ((e.ready.map (·.cpl)).getD e.cpl) with epochLo := e.epoch % 2 ^ 32, epochValid := changed } }
  else { e with state := .claimed, ready := none, writes := [], slotIx := none, slotIx2 := none, stageLen := 0, epoch := 0
                reads := [], checked := false }

/-- The tree-cache path of the entry in COMMITTING from BND_NEW or BND_OLD; the cache is built again when its root, or with the
transaction done the entry's EPOCH, is not the battery's (R70 step 3). -/
def resolvePath (image : Option Bytes) (done : Bool) (e : JEntry) (c : Channel) : Channel :=
  if e.leafNew.isEmpty then c
  else
    let t := treeSet c.tree (groupOf e.sub.meter) ((if done then e.bndNew else e.bndOld).take 16)
    if treeRoot t = c.shard.root ∧ (done → e.epoch = c.shard.epoch) then { c with tree := t } else treeAgain image c

/-- Steps 3 and 4 of R70: the entry in COMMITTING, then the tree cache checked against the battery root. -/
def resolveCommitting (d : Device) (image : Option Bytes) (c : Channel) : Channel :=
  let serves := c.shard.assigned && !c.held && c.treeOk
  let c : Channel := match c.jr.entries.find? (fun e => e.state == .committing) with
    | none => c
    | some e =>
      let done := txnDone d c e
      let c := { c with jr := { c.jr with entries := c.jr.entries.map (JEntry.resolved done) } }
      if serves then resolvePath image done e c else c
  if serves ∧ treeRoot c.tree ≠ c.shard.root then treeAgain image c else c

/-- A job posted with SAFETY_HOLD after its commit: the commit slot stays held (R70, R464). -/
def holdCommitted (mech : Nat) (e : JEntry) : JEntry :=
  { e with
    state := .written, writes := [], sentUpTo := 0, acked := 0, stageLen := 0, staged := false, slotIx := none, slotIx2 := none
    cpl := { status := 0x0A00, detail := mech, epochLo := e.epoch % 2 ^ 32, epochValid := !e.leafNew.isEmpty || e.cpl.epochValid } }

/-- Whether the safety report names an entry (R305, R464, R466). -/
def namedBy (s : Safety) (t : AccessTable) (e : JEntry) : Bool :=
  let tagged := decide (2 ^ 31 ≤ s.tag) && s.tag % 4096 == e.jidx
  if s.mech = 4 then e.engaged.pke == some (s.info % 256) && e.engaged.pkeOp == some (s.info / 256 % 65536)
  else if s.mech = 3 then e.engaged.ctx == some (s.info % 8)
  else if s.mech = 6 then e.engaged.rng == some (s.info % 8)
  else if s.mech = 5 then e.engaged.hash == some (s.info % 4)
  else if s.mech = 7 then tagged && t.eccUmaster != 15
  else (s.mech == 1 || s.mech == 2 || s.mech == 8 || s.mech == 9 || s.mech == 0x0B) && tagged

/-- The jobs a safety report names, treated by the state of their entries (R464). -/
def treatNamed (c : Channel) : Channel :=
  if !c.sf.valid ∨ c.jr.lastReset ≠ 3 then c
  else
    let named (e : JEntry) : Bool := namedBy c.sf c.table e
    let c' := { c with
      sf := { c.sf with valid := false }
      core := { c.core with df := { c.core.df with valid := false } }
      jr := { c.jr with entries := c.jr.entries.map fun e => if named e && e.state == .committed then holdCommitted c.sf.mech e else e } }
    (c.jr.entries.filter fun e => named e && e.state == .claimed).foldl
      (fun x e => failJob e.jidx ⟨0x0A00, c.sf.mech, 0⟩ x) c'

/-- Whether the record in the stage of a committed job does not hash to LEAF_NEW (R70 step 5); only a byte that was stored over the
firmware's can make it so. -/
def stageTorn (c : Channel) (e : JEntry) : Bool :=
  let a := 0x1C0000 + 64 * e.stageOff
  let w := c.bytesAt a 224
  (e.writes.head?.any fun x => x.kind == .record) && c.patchedIn a 224 &&
    (unwrapBlock c.shard w).map (fun b => leafOf (MRec.ofBytes b) w) != some e.leafNew

/-- A COMMITTED job whose stage is lost or does not hash to LEAF_NEW (R70); the next writes renew the words that were lost. -/
def treatStage (c : Channel) : Channel :=
  let treat (e : JEntry) : JEntry :=
    if e.state ≠ .committed then e
    else if badIn c.table (0x1C0000 + 64 * e.stageOff) (roundUp e.stageLen 64) then holdCommitted 0x07 e
    else if stageTorn c e then holdCommitted 0x0B e
    else e
  { c with table := { c.table with badWords := [] }, jr := { c.jr with entries := c.jr.entries.map treat } }

/-- The first four rows of *Conserved quantities* for an entry: it alone has its index, its units of the stage are no other's, and the
entries of SQ1 to SQ3 keep within their credits (R559). -/
def inBooks (c : Channel) (e : JEntry) : Bool :=
  let others := c.jr.entries.erase e
  decide (e.jidx < 4096) && (others.all fun x => x.jidx != e.jidx) &&
  (e.stageLen == 0 || stageFree others e.stageOff (ceilDiv e.stageLen 64)) &&
  (e.queue == 0 || decide ((c.jr.entries.filter fun x => x.queue != 0).length ≤ 4032))

/-- The books checked at journal resolution: jobs whose counts are out of balance complete with SAFETY_HOLD under FIRMWARE_CHECK
(R559). -/
def treatBooks (c : Channel) : Channel :=
  let hold (e : JEntry) : JEntry := if e.state = .committed ∧ !inBooks c e then holdCommitted 0x0B e else e
  let c' := { c with jr := { c.jr with entries := c.jr.entries.map hold } }
  (c.jr.entries.filter fun e => e.state == .claimed && !inBooks c e).foldl (fun x e => failJob e.jidx ⟨0x0A00, 0x0B, 0⟩ x) c'

/-- No entry holds engine work after a reset (R466). -/
def noEngagement (c : Channel) : Channel := { c with jr := { c.jr with entries := c.jr.entries.map fun e => { e with engaged := {} } } }

/-- An entry of the table at the end of boot. -/
def bootEntry (lo hi perm : Nat) : AtEntry := { first := lo / 64, last := hi / 64, stagedFirst := lo / 64, stagedLast := hi / 64, perm := 2 ^ 16 + perm }

/-- *Firmware 3.2 table* (R334): rights of IS, IU, OS, OU, then CACHE and ORDER. -/
def firmwareTable : List AtEntry :=
  let p (is iu os ou cache order : Nat) : Nat := is + 8 * iu + 64 * os + 512 * ou + 4096 * cache + 16384 * order
  [bootEntry 0x200000 0x47FFFF (p 3 0 0 0 2 1), bootEntry 0x000000 0x07FFFF (p 5 5 0 0 1 1), bootEntry 0x1C0000 0x1FFFFF (p 3 0 0 0 2 1),
   bootEntry 0x190000 0x1BFFFF (p 3 0 0 0 2 0), bootEntry 0x150000 0x18FFFF (p 3 0 0 5 2 0), bootEntry 0x130000 0x13FFFF (p 3 0 0 1 2 0),
   bootEntry 0x140000 0x141FFF (p 3 0 0 3 2 0), bootEntry 0xF31100 0xF3113F (p 3 0 3 0 0 2), bootEntry 0xF00000 0xF9FFFF (p 3 0 0 0 0 2),
   bootEntry 0x100000 0x12FFFF (p 3 0 0 0 2 0), bootEntry 0x142000 0x14FFFF (p 3 0 0 0 2 0), bootEntry 0x800000 0x9FFFFF (p 1 0 0 0 1 0),
   bootEntry 0xFFFF0000 0xFFFFFFFF (p 5 0 0 0 1 2)]

/-- The table written and locked (R334). -/
def lockTable (t : AccessTable) : AccessTable :=
  { t with entries := firmwareTable ++ List.replicate 50 ({} : AtEntry) ++ [{ last := 0x3FFFFFF, stagedLast := 0x3FFFFFF, perm := 0x8007 }]
           lockAll := true }

/-- The key-encryption key of a channel that is not tampered and whose battery domain holds none, drawn from the key-generation
instance (R405, R451), with its wrapped copy while SHIP is in force (R449). -/
def bootKek (d : Device) (env : BootEnv) (c : Channel) : Channel :=
  if env.tampered ∨ c.kek.isSome ∨ (d.lifecycle ≠ 3 ∧ d.lifecycle ≠ 7) then c
  else
    let (k, c) := drawFrom 1 32 c
    { c with kek := some k, kekCopy := if env.ship then some k else c.kekCopy }

/-- The ATTEST key of a channel's first boot in FLEET_READY (R405), by KEYGEN (R175): D, X, Y. -/
def firstBootKeys (d : Device) (tampered : Bool) (c : Channel) : Channel :=
  if d.lifecycle ≠ 3 ∨ tampered ∨ (c.keys.slots.any fun p => p.1 == 5) then c
  else
    let (r, c) := drawFrom 1 56 c
    let k := scalarOf .p384 r
    { c with keys := { c.keys with slots := c.keys.slots ++ [(5, { material := beBytes 48 k ++ eccPublic .p384 k })] } }

/-- The state a boot ends in (R173, R405, R409, R444, R552). -/
def bootEnd (d : Device) (tampered : Bool) (c : Channel) : ChState :=
  if tampered then .tampered
  else if d.lifecycle ≠ 7 ∧ d.lifecycle ≠ 1 ∨ (c.keys.slots.any fun p => p.2.faulty) then .recovery
  else .ready

/-- The steps JOURNAL and LOCK, and the end of the boot (R551). -/
def bootLast (ch : Ch) (d : Device) (env : BootEnv) (image : Option Bytes) (micros : Nat) (c : Channel) : Channel :=
  let c := noEngagement (treatBooks (treatStage (treatNamed (resolveCommitting d image c))))
  let n := c.jr.entries.length
  let c := fileCrumb ch d 0x1200 c.jr.lost n c.jr.lastReset 0 { c with jr := { c.jr with replayed := n } }
  let c := newNonce (firstBootKeys d env.tampered (bootKek d env c))
  let c := { c with table := lockTable c.table, sf := { c.sf with wdogEn := true, wdogTick := d.tick }, bootStep := 7 }
  let c := fileCrumb ch d 0x1000 (b2n (c.fw.running == some true)) (fwWord c.image) c.jr.lastReset micros c
  let c := if c.jr.lastReset = 4 then safetyCrumb d 0x0602 ch.val micros 0 0 { c with
      sf := { c.sf with bistTick := d.tick }, outSources := c.outSources ++ [51] } else c
  setChState (bootEnd d env.tampered c) (allocStanding ch d c)

/-- ROOT_LOAD tried, and the rest of the boot when it succeeds. -/
def bootRoot (ch : Ch) (d : Device) (env : BootEnv) (image : Option Bytes) (micros : Nat) (c : Channel) : Channel :=
  let r := rootLoad ch d image c
  if r.2 then bootLast ch d env image micros r.1 else r.1

/-- The boot from CHECK on (R551): the journal's entry checks come before root-load (R70 step 1). -/
def bootSecond (ch : Ch) (d : Device) (env : BootEnv) (seen : BootSeen) (c : Channel) : Channel :=
  let fast := c.jr.lastReset == 4 && !seen.digest
  if !fast && seen.check then latchFault ch d 0x0C 0 c
  else
    let lost := c.jr.entries.filter (entryLost c)
    let c := { c with bootStep := 5, jr := { c.jr with entries := c.jr.entries.filter (fun e => !entryLost c e), lost := lost.length } }
    let c := lost.foldl (fun c e => fileCrumb ch d 0x1201 e.jidx 0 0 0 c) c
    bootRoot ch d env seen.image seen.micros (compareBackups ch d c)

end Sys2Proof.Machine
end

