-- ==== Sys2Proof/Machine/Crust.lean ====
section
/-! DEFINITION. The crust wires and the mesh loops of the tamper monitor: generators, comparison and trip rules (R433 to R435). -/

namespace Sys2Proof.Machine

/-- One step of a generator: x^16 + x^14 + x^13 + x^11 + 1. DESIGN CHOICE: the register shifts towards bit 0 and bit 0 is driven
(log 149). -/
def crustStep (r : BitVec 16) : BitVec 16 :=
  (r >>> 1) ||| (if r.getLsbD 0 ^^ r.getLsbD 2 ^^ r.getLsbD 3 ^^ r.getLsbD 5 then 0x8000 else 0)

/-- A generator after `n` steps. -/
def crustRun : Nat → BitVec 16 → BitVec 16
  | 0, r => r
  | n + 1, r => crustRun n (crustStep r)

/-- The bit a line carries `step` steps after a reseed; its second wire carries the complement. -/
def lineBit (reseed line step : Nat) : Bool := (crustRun step (Config.crustSeed reseed line)).getLsbD 0

/-- A line mismatches when either wire differs from what is expected; a mesh loop has one wire. -/
def lineDiffers (line : Nat) (expected a b : Bool) : Bool := a != expected || (line < 136 && b == expected)

/-- The samples at which a line is seen to mismatch, ascending: `first` is the number of the command's first sample, and the
generators stand `phase` steps after their reseed there. -/
def lineMisses (reseed phase first line : Nat) (l : List TamperSense) : List Nat :=
  (l.filterMap fun x => match x with
    | .wires n step a b => if n.val = line ∧ lineDiffers line (lineBit reseed line (phase + step)) a b then some (first + step) else none
    | .source .. => none).mergeSort (· ≤ ·)

/-- Mismatches of two samples within eight consecutive ones (R433). -/
def twoInEight : List Nat → Bool
  | a :: b :: l => decide (a < b ∧ b ≤ a + 7) || twoInEight (b :: l)
  | _ => false

/-- The lines of a source: eight pairs of a segment, or one loop. -/
def sourceLines (src : Nat) : List Nat := if src < 17 then (List.range 8).map (8 * src + ·) else [119 + src]

/-- The lines that a command's samples show, each once. -/
def seenLines (l : List TamperSense) : List Nat :=
  (l.filterMap fun x => match x with
    | .wires n .. => some n.val
    | .source .. => none).eraseDups

/-- The sources met by a set of lines whose rule is met, with the mask of the pairs as their detail; a loop's detail is 0. -/
def metByLines (lines : List Nat) : List (Nat × Nat) :=
  (List.range 21).filterMap fun src =>
    let hit := (sourceLines src).filter lines.contains
    if hit.isEmpty then none else some (src, if src < 17 then (hit.map fun n => 2 ^ (n % 8)).sum else 0)

/-- The other sources a command reports. -/
def metSources (l : List TamperSense) : List (Nat × Nat) :=
  l.filterMap fun x => match x with
    | .source src detail => if 20 < src then some (src, detail) else none
    | .wires .. => none

/-- Evaluates `n` samples with main power: what is met, and the monitor after them. The last mismatch of each line is kept, so that
a window of eight samples may span two commands. -/
def senseMain (l : List TamperSense) (n : Nat) (t : Tamper) : List (Nat × Nat) × Tamper :=
  let misses (k : Nat) : List Nat := lineMisses t.reseeds (t.samples - t.seedSample) t.samples k l
  let seen := (seenLines l).filter fun k => !(misses k).isEmpty
  let hit := seen.filter fun k => twoInEight (((t.missed.filter fun p => p.1 == k).map (·.2)) ++ misses k)
  (metByLines hit ++ metSources l,
    { t with samples := (t.samples + n) % 2 ^ 64
             missed := (seen.map fun k => (k, (misses k).getLastD 0)) ++ t.missed.filter fun p => !seen.contains p.1 })

/-- Evaluates one burst on battery, for which the generators are reseeded: a line is met by four mismatches of its 64 steps. -/
def senseBurst (l : List TamperSense) (t : Tamper) : List (Nat × Nat) × Tamper :=
  let t : Tamper := { t with reseeds := t.reseeds + 1, seedSample := t.samples }
  let steps := l.filter fun x => match x with
    | .wires _ step _ _ => decide (step < 64)
    | .source .. => true
  let hit := (seenLines steps).filter fun k => 4 ≤ ((lineMisses t.reseeds 0 0 k steps).eraseDups).length
  (metByLines hit ++ metSources l, { t with samples := (t.samples + 1) % 2 ^ 64, seedSample := t.samples + 1 })

/-- The generators reseeded (R434): the window of comparisons goes on. -/
def crustReseed (t : Tamper) : Tamper := { t with reseeds := t.reseeds + 1, seedSample := t.samples }

end Sys2Proof.Machine
end

