-- ==== Sys2Proof/Machine/MgmtOps.lean ====
section
/-! DEFINITION. What management's services share: crumbs, random bytes, mailbox messages, identity registers, and the
authorisations of the custodian quorum (R56 to R59, R404, R417, R537). -/

namespace Sys2Proof.Machine

/-- Management runs, from a slot or from its boot ROM, and is not held in reset. -/
def mgmtRuns (s : State) : Bool := s.dev.mgmtUp && !s.pw.mgHeld

/-- Management firmware runs: the recorder, the telemetry and the sideband are served (R399, R409, R428). -/
def mgmtServes (s : State) : Bool := mgmtRuns s && !s.mg.romOnly

/-- A crumb of management, its sensors, the tag, the cards or the recorder, handed to the recorder. -/
def mgCrumb (src code p0 p1 p2 p3 : Nat) (s : State) : State :=
  { s with log := { s.log with inbox := s.log.inbox ++ [⟨code, src, s.dev.seconds, s.dev.cycles, p0, p1, p2, p3⟩] } }

/-- Management changed. -/
def onMg (f : Mgmt → Mgmt) (s : State) : State := { s with mg := f s.mg }

/-- Two blocks of the link entropy source. -/
def mgBlocks (s : State) : List Bytes := [sha256 (freeBytes 16 s.mg.draws 128), sha256 (freeBytes 16 (s.mg.draws + 128) 128)]

/-- A generator of management made ready: instantiated, or reseeded once 2^20 requests have been counted (R317, R324). DESIGN CHOICE: the
link entropy source has its blocks at hand (log 151). -/
def mgReady (i : Fin 8) (s : State) : State :=
  let g := s.mgu.rng.inst.get i
  if g.state ≠ 0 ∧ g.count < 2 ^ 20 then s
  else
    let g := if g.state = 0 then g.instantiate 16 s.dev i.val (mgBlocks s) else ({ g with blocks := mgBlocks s } : Drbg).reseed
    onMg (fun m => { m with draws := m.draws + 256 }) { s with mgu := onInst i (fun _ => g) s.mgu }

/-- Random bytes of a generator of management: 0 serves firmware, 1 the tag and the card slots (R324). -/
def mgDraw (i : Fin 8) (n : Nat) (s : State) : Bytes × State :=
  let s := mgReady i s
  let r := drawFrom i n s.mgu
  (r.1, { s with mgu := r.2 })

/-- Function 0's slice changed. -/
def onFn0 (f : Fn0 → Fn0) (s : State) : State := { s with fn0 := f s.fn0 }

/-- The tamper monitor's status has changed: function 0's source `v`, and management's TAMPER source (R395, R454). -/
def tamperSource (v : Nat) (s : State) : State := raiseMg 8 (raiseFn0 v s)

/-- A mailbox message ends (R57, R58): the response when there is one, then MB_STAT and vector 0. DESIGN CHOICE: MB_RSP_LEN keeps
its value when no response is written (log 42). -/
def endMessage (status : Nat) (response : Option Bytes) (s : State) : State :=
  let s := onFn0 (fun f =>
    let sent := match response with
      | some b => f.sent ++ [⟨.response, 0, f.rsp.value.toNat, b⟩]
      | none => f.sent
    { f with
      sent := sent, phase := .idle, done := true, status := status, current := none
      rspData := response.getD f.rspData, rspLen := (response.map (·.length)).getD f.rspLen }) s
  raiseFn0 0 s

/-- The header of a response (R58). DESIGN CHOICE: FLAGS is 0, since no command gives its response any (log 42). -/
def responseHead (cmd mseq tag len : Nat) : Bytes :=
  leBytes 2 cmd ++ zeros 2 ++ leBytes 2 mseq ++ leBytes 2 len ++ leBytes 4 tag ++ zeros 4

/-- Ends the message in progress with SUCCESS and a payload. -/
def answer (payload : Bytes) (s : State) : State :=
  match s.fn0.current with
  | some (cmd, _, mseq, tag, _) => endMessage 0 (some (responseHead cmd mseq tag payload.length ++ payload)) s
  | none => s

/-- Ends the message in progress with another status; the response is the header alone. -/
def refuse (status : Nat) (s : State) : State :=
  match s.fn0.current with
  | some (cmd, _, mseq, tag, _) => endMessage status (some (responseHead cmd mseq tag 0)) s
  | none => s

/-- Runs a mailbox command's meaning when management has taken up a message that carries it. -/
def onCommand (code : Nat) (f : Bytes → State → State) (s : State) : State :=
  match s.fn0.current with
  | some (cmd, _, _, _, payload) => if cmd = code ∧ mgmtRuns s then f payload s else s
  | none => s

/-- The slot run as R518 to R520 say: recovery at 3.3 V and default speed, or the fastest mode the card offers. SDR50 and
SDR104 need a tuning window. -/
def runSd (x : SdSeen) (recovery : Bool) (d : SdHost) : SdHost :=
  let v18 := !recovery && x.s18a && (decide (x.uhs.val < 2) || x.window.isSome)
  let tuned := v18 && decide (2 ≤ x.uhs.val)
  { d with
    recovery := recovery, bus4 := !recovery
    mode := if v18 then x.uhs.val + 2 else if !recovery && (x.s18a || x.highSpeed) then 1 else 0
    v18 := v18, tuned := tuned, tap := if tuned then x.window.getD 0 else 0 }

/-- DEV_ID to DEV_SERIAL as management BAR0 shows them (R32); MG_FWVER and DEV_MEMBER.INDEX read 0 until management firmware has
booted. -/
def devIdentity (s : State) : Bytes :=
  leBytes 4 (0x0880 + 65536 * s.dev.enabled + 2 ^ 24 * b2n Config.gradeE) ++ leBytes 4 0xB1B1 ++ leBytes 4 (fwWord s.mg.image) ++
  leBytes 4 s.dev.lifecycle ++ leBytes 4 (2 ^ s.dev.enabled - 1) ++ leBytes 4 ((if s.mg.image.isSome then s.dev.member else 0) + 4096 * b2n s.dev.memberValid) ++
  leBytes 8 Config.serial.toNat

/-- The challenge an authorisation must carry: TAMPER_CHALLENGE's for kinds 0x11 to 0x13, AUTH_CHALLENGE's for its own
purpose (R537). -/
def challengeFor (s : State) (kind : Nat) : Option (Bytes × Nat) :=
  if kind = 0x10 ∨ kind = 0x14 then (s.mg.auth.filter fun p => p.1 == kind).map (·.2) else s.tp.challenge

/-- The shape of an authorisation of a kind. -/
def authShape (kind : Nat) (b : Bytes) : Bool :=
  let sigs := fieldLE b 3 1
  1 ≤ sigs && sigs ≤ 16 && b.length == 64 + 68 * sigs && fieldLE b 0 2 == 2 && fieldLE b 2 1 == kind &&
  (kind == 0x11 || kind == 0x12 || fieldLE b 36 4 == 0) && (if kind = 0x11 then fieldLE b 40 4 < 2 ^ 17 else fieldLE b 40 4 == 0) &&
  slice b 44 20 == zeros 20 &&
  (List.range sigs).all (fun i => fieldLE b (64 + 68 * i) 1 < 16 && slice b (65 + 68 * i) 3 == zeros 3)

/-- The checks of R537 in the order of R109. -/
def authOk (kind : Nat) (b : Bytes) (s : State) : Bool :=
  let blocks := sigBlocks b 64 (fieldLE b 3 1)
  authShape kind b &&
  (match challengeFor s kind with
   | some (n, t) => n == slice b 12 16 && s.dev.tick < t + 900000
   | none => false) &&
  (match s.mg.quorum with
   | some q => slice b 4 8 == leBytes 8 Config.serial.toNat && slice b 28 8 == padTo 8 q.id && quorumNamed q blocks &&
       quorumVerifies q (b.take 64) blocks
   | none => false)

/-- The mask of the cards that signed. -/
def cardMask (b : Bytes) : Nat := ((sigBlocks b 64 (fieldLE b 3 1)).foldl (fun m x => setBit m x.1 true) 0)

/-- An authorisation used: its challenge is spent and AUTHORISATION_USED filed (R537, R538). -/
def useAuth (kind : Nat) (b : Bytes) (s : State) : State :=
  let s := if kind = 0x10 ∨ kind = 0x14 then onMg (fun m => { m with auth := none }) s
    else { s with tp := { s.tp with challenge := none } }
  mgCrumb 0x10 0x0A03 kind (cardMask b) 0 0 s

/-- Whether management can serve its commands: a booted image, or the few its boot ROM serves (R404, R409). -/
def romServes (code : Nat) : Bool := code == 0x0001 || (0x0030 ≤ code && code ≤ 0x0037)

/-- The listed mailbox commands (R404). -/
def mailboxCommands : List Nat :=
  [0x0001, 0x0010, 0x0011, 0x0020, 0x0030, 0x0031, 0x0032, 0x0033, 0x0034, 0x0035, 0x0036, 0x0037, 0x0040,
   0x0050, 0x0051, 0x0052, 0x0053, 0x0054, 0x0060, 0x0061, 0x0062, 0x0063, 0x0064, 0x0065, 0x0066,
   0x0070, 0x0071, 0x0072, 0x0073, 0x0074, 0x0075, 0x0080, 0x0081, 0x0082, 0x0083,
   0x0090, 0x0091, 0x0092, 0x0093, 0x0094, 0x0095, 0x0096, 0x0097, 0x0098, 0x0099]

/-- MAILBOX_GO: GO set, and the hearth's two checks (R57, R58). DESIGN CHOICE: a faulted function 0, whose message could not be
answered, ignores the write (R34 names doorbells; log 42). -/
def mailboxGo (s : State) : State :=
  let f := s.fn0
  if f.phase = .waiting ∨ f.faulted then s
  else if f.reqLen < 16 ∨ 4096 < f.reqLen then endMessage 0x0105 none s
  else if ¬ (f.win.lock ∧ f.win.holds f.req.value.toNat 4096 ∧ f.win.holds f.rsp.value.toNat 4096) then endMessage 0x0103 none s
  else onFn0 (fun f => { f with phase := .waiting }) s

/-- MAILBOX_TAKE_UP: management reads the request and checks its header (R58, R404). -/
def mailboxTakeUp (request : Option Bytes) (s : State) : State :=
  if s.fn0.phase ≠ .waiting ∨ s.fn0.current.isSome ∨ ¬ mgmtRuns s then s
  else match request with
    | none => endMessage 0x0109 none s
    | some r =>
      let b := padTo s.fn0.reqLen r
      let cmd := fieldLE b 0 2
      let s := onFn0 (fun f => { f with current := some (cmd, fieldLE b 2 2, fieldLE b 4 2, fieldLE b 8 4, b.drop 16) }) (raiseMg 2 s)
      if fieldLE b 6 2 ≠ s.fn0.reqLen - 16 ∨ slice b 12 4 ≠ zeros 4 then refuse 0x0102 s
      else if !mailboxCommands.contains cmd then refuse 0x0100 s
      else if s.mg.romOnly ∧ !romServes cmd then refuse 0x0A03 s
      else s

/-- MAILBOX_TIMEOUT (R59). -/
def mailboxTimeout (s : State) : State :=
  if s.fn0.phase = .waiting ∧ s.fn0.current.isNone then endMessage 0x0A03 none s else s

/-- MAILBOX_GO. -/
def execMailboxGo (s : State) : Host.Outcome State Fault Refusal := .next (mailboxGo s)

/-- MAILBOX_TAKE_UP. -/
def execMailboxTakeUp (request : Option Bytes) (s : State) : Host.Outcome State Fault Refusal := .next (mailboxTakeUp request s)

/-- MAILBOX_TIMEOUT. -/
def execMailboxTimeout (s : State) : Host.Outcome State Fault Refusal := .next (mailboxTimeout s)

end Sys2Proof.Machine
end

