-- ==== Sys2Proof/Machine/TamperOps.lean ====
section
/-! DEFINITION. The management reset, and the tamper monitor's trips and responses (R427, R403, R437, R440 to R449, R535,
R547). -/

namespace Sys2Proof.Machine

/-- A bank whose update session is lost: a TRIAL slot will not boot again (R412, R413). -/
def FwSlots.noTrial (f : FwSlots) : FwSlots := if f.other = .trial then { f with other := .empty } else f

/-- The update session lost at a management reset or a loss of power before commit (R413). -/
def loseSession (s : State) : State :=
  if s.mg.update.state = 0 then s
  else
    let s := onEvery (fun _ _ c => { c with fw := c.fw.noTrial, updatePort := false }) s
    onMg (fun m => { m with fw := m.fw.noTrial, update := {} }) s

/-- The ceremony session ends without installing (R535, R538): 1 command, 2 timeout, 3 reset, 4 tamper. -/
def endCeremony (cause : Nat) (s : State) : State :=
  match s.cards.session with
  | none => s
  | some x =>
    raiseFn0 62 (mgCrumb 0x10 0x0A01 x.kind x.shares.length cause 0 { s with cards := { s.cards with session := none } })

/-- A management reset (R547): core, SRAM and access table; the mailbox message in progress ends MGMT_UNAVAILABLE; an
endpoint ID, a freeze's hold buffer and function 0's registers stay. `cold` loses MCTP state too. An activation keeps the
update session (R411). -/
def managementReset (k : ResetKind) (activation : Bool) (s : State) : State :=
  let s := if s.fn0.phase = .waiting ∨ s.fn0.current.isSome then endMessage 0x0A03 none s else s
  let s := endCeremony 3 (if activation then s else loseSession s)
  let side : Sideband := { addr := s.mg.side.nextAddr, rate := s.mg.side.nextRate, nextAddr := s.mg.side.nextAddr, nextRate := s.mg.side.nextRate
                           eid := s.mg.side.eid, tid := s.mg.side.tid, failures := s.mg.side.failures }
  let thaw (l : LogState) : LogState :=
    { l with draining := l.draining || l.frozen, frozen := false, freezeMs := if l.frozen then s.dev.tick - l.freezeTick else l.freezeMs }
  let s := onMg (fun m => { m with
    image := none, romOnly := false, sensors := m.sensors.map (fun x => { thr := x.thr }), tmSeq := 0, tmIrq := false
    record := zeros 256, side := side, blow := none, incompat := 0, auth := none }) s
  let u := s.mgu
  { s with
    mgu := { channelReset k 0 s.dev u with
      nv := nvReset k 16 s.dev.bootCount u.nv, state := u.state, jr := u.jr, fw := u.fw, keys := u.keys, host := u.host }
    dev := { s.dev with mgmtUp := false }
    log := { s.log with rolling := thaw s.log.rolling, pinned := thaw s.log.pinned, logSel := false, irqNew := false }
    tp := { s.tp with challenge := none, since := 0 }
    nf := { s.nf with irqEn := false, memAddr := 0 }
    cards := { sd := { present := s.cards.sd.present, objects := s.cards.sd.objects, volume := s.cards.sd.volume, errors := s.cards.sd.errors, seen := s.cards.sd.seen }
               sc := { present := s.cards.sc.present } } }

/-- A tamper source that names a channel: its crust segment, or a machine of that channel (R432, R437). Machines are
numbered in the order of *Critical state machines*: 0 to 15 channel states, 16 to 31 world controllers, 32 to 47
lockstep controls, then management's world controller, the sequencer, the safety controller, the lifecycle decoder, the two
ends of the die link (the logic die's first), the battery transaction controller and the monitor's control. -/
def sourceChannel (src detail : Nat) : Option Nat :=
  if src < 16 then some src
  else if src = 28 ∧ detail < 48 then some (detail % 16)
  else none

/-- The scope of a trip as a mask: channels, and bit 16 for management (R443). What names a channel that is not enabled
covers the device (R4). -/
def scopeMask (d : Device) (t : Tamper) (src detail : Nat) : Nat :=
  if bit t.policy src then 0x1FFFF
  else match sourceChannel src detail with
    | some n => if n < d.enabled then 2 ^ n else 0x1FFFF
    | none => 0x1FFFF

/-- What the sticky flags in a mask cover: an INVALID_STATE flag does not say which machine, and covers the device. -/
def stickyCover (d : Device) (t : Tamper) (mask : Nat) : Nat :=
  (List.range 32).foldl (fun m k => if bit mask k then m ||| scopeMask d t k 48 else m) 0

/-- Sources watched on battery (R432): of the machines, the die link's end on the keep die and the battery transaction
controller. -/
def onBattery (src detail : Nat) : Bool := src ≤ 20 || src == 23 || src == 24 || (src == 28 && (detail == 53 || detail == 54)) || src == 29

/-- What the battery domain holds for a channel, zeroized (R444 step 1); the wrapped copy of its key goes with it (R449). -/
def zeroizeBattery (flash : Bool) (c : Channel) : Channel :=
  { c with
    kek := none, kekCopy := if flash then none else c.kekCopy, shard := {}, gov := {}
    pair := { c.pair with role := .none, peer := none, ackLag := 0, bindShard := 0, bindTreeBase := 0 } }

/-- A response covering a channel with main power: keys, journal and memory gone, the channel held in reset (R78, R444). -/
def respondChannel (ch : Ch) (d : Device) (c : Channel) : Channel :=
  let c := channelReset .tamper ch d (zeroizeBattery true c)
  raiseSource 18 (setFault 5 0 0 c)

/-- Management's keys zeroized (R445). -/
def respondMgmt (flash : Bool) (s : State) : State :=
  { s with
    mg := { s.mg with kek := none, kekCopy := if flash then none else s.mg.kekCopy, dik := none, fbk := none }
    nf := { s.nf with kt := none, kn := none, wrapped := false, session := none } }

/-- The logic die's own part of a device-scope response: link, hearth registers and management are reset; the channels'
slices go back to their reset values, fatal bits included (R34, R445, R547). -/
def dieReset (s : State) : State :=
  let s := managementReset .tamper false s
  let s := onAll (fun _ _ c => { c with host := c.host.reset .flr }) s
  { s with fn0 := {}, pw := { s.pw with link := false, frames := (0, 0), linkKey := [] } }

/-- The update session enters a state: UPDATE_SESSION filed, source 3 at TRIAL and FAILED (R410, R412). -/
def sessionTo (st : Nat) (s : State) : State :=
  let u := s.mg.update
  let s := mgCrumb 0x10 0x1E00 st u.component (u.mask % 65536) 0 (onMg (fun m => { m with update := { m.update with state := st } }) s)
  if st = 4 ∨ st = 5 then raiseFn0 3 s else s

/-- The session becomes FAILED: no target takes up its TRIAL slot any more (R412). -/
def sessionFailed (s : State) : State :=
  let u := s.mg.update
  let s := onEvery (fun ch _ c => if u.component = 0x10 ∧ bit u.mask ch.val then { c with fw := c.fw.noTrial } else c) s
  sessionTo 5 (onMg (fun m => if u.component = 1 then { m with fw := m.fw.noTrial } else m) s)

/-- The response to a mask of channels and management (R444, R445). -/
def respond (mask : Nat) (s : State) : State :=
  let dev := bit mask 16
  let s := endCeremony 4 s
  let s := if s.pw.main then
      let s := if dev then dieReset (respondMgmt true s) else s
      let s := onAll (fun ch d c => if bit mask ch.val then respondChannel ch d c else c) s
      { s with tp := { s.tp with clearing := s.tp.clearing ||| mask } }
    else
      let s := onAll (fun ch _ c => if bit mask ch.val then zeroizeBattery false c else c) s
      if dev then respondMgmt false s else s
  let s : State := { s with tp := { s.tp with tampered := s.tp.tampered ||| mask } }
  if s.mg.update.state ≠ 0 ∧ s.mg.update.state ≠ 5 ∧ s.mg.update.mask &&& mask ≠ 0 then sessionFailed s else s

/-- A tamper crumb: to the always-on queue, or on battery to the battery queue of 16 (R442). -/
def tamperCrumb (code p0 p1 p2 p3 : Nat) (s : State) : State :=
  let x : Crumb := ⟨code, 0x12, s.dev.seconds, s.dev.cycles, p0, p1, p2, p3⟩
  if s.pw.main then aonCrumb x s
  else if s.tp.queue.length < 16 then { s with tp := { s.tp with queue := s.tp.queue ++ [x] } }
  else { s with tp := { s.tp with drops := s.tp.drops + 1 } }

/-- A source's flag, count, episode and first record (R440). -/
def tripSource (d : Device) (src : Nat) (t : Tamper) : Tamper :=
  { t with
    sticky := setBit t.sticky src true, live := setBit t.live src true, since := setBit t.since src true
    trips := t.trips.modify src fun n => min (n + 1) 0xFFFF
    first := if t.sticky = 0 then some (src, d.seconds, d.tick) else t.first }

/-- The sources whose rule is met in one sample, ascending, with their details; those in an episode are not new (R440,
R441). -/
def tripSample (met : List (Nat × Nat)) (s : State) : State :=
  let new := (met.filter fun p => p.1 < 32 && !bit s.tp.live p.1).mergeSort fun a b => a.1 ≤ b.1
  if new.isEmpty then s
  else
    let union := new.foldl (fun m p => m ||| scopeMask s.dev s.tp p.1 p.2) 0
    let starts := new.foldl (fun m p =>
      let x := scopeMask s.dev s.tp p.1 p.2
      if x &&& s.tp.clearing = x then m else m ||| x) 0
    let scopes := new.map fun p => (p.1, p.2, b2n (scopeMask s.dev s.tp p.1 p.2 == 0x1FFFF))
    let t := new.foldl (fun t p => tripSource s.dev p.1 t) s.tp
    let s : State := { s with tp := t, nf := { s.nf with tripped := true } }
    let s := scopes.foldl (fun s p =>
      tamperCrumb p.1 (p.2.2 + 256 * (p.2.1 % 256)) union (s.tp.samples % 2 ^ 32) (s.dev.tick % 2 ^ 32) s) s
    let s := if starts = 0 then s else respond starts s
    if s.pw.main then tamperSource 25 (raiseFn0 24 s) else s

/-- `n` samples with main power evaluated, and the trips they show; `watched` are the sources looked at. -/
def mainSamples (l : List TamperSense) (n : Nat) (watched : Nat × Nat → Bool) (s : State) : State :=
  let r := senseMain l n s.tp
  tripSample (r.1.filter watched) { s with tp := r.2 }

/-- `n` more samples evaluated that show nothing on the wires. -/
def countSamples (n : Nat) (s : State) : State := { s with tp := { s.tp with samples := (s.tp.samples + n) % 2 ^ 64 } }

end Sys2Proof.Machine
end

