-- ==== Sys2Proof/Machine/Power.lean ====
section
/-! DEFINITION. Power, link, resets, sleep and clocks (R8 to R12, R18, R21, R35, R436, R447 to R450, R462, R539 to R552). -/

namespace Sys2Proof.Machine

/-- The battery domain has lost its contents: cell gone without main power (R22, R419, R448, R449). -/
def loseBattery (s : State) : State :=
  let s := onAll (fun _ _ c => { c with kek := none, shard := {}, gov := {}, sf := { c.sf with bistTick := 0, bistNext := 0 }
                                        pair := { c.pair with role := .none, peer := none, ackLag := 0, bindShard := 0, bindTreeBase := 0 } }) s
  { s with
    mg := { s.mg with kek := none }
    nf := { s.nf with ring := [], writeIx := 0, wrappedRing := false, runs := [], lastTick := 0, tripped := false }
    dev := { s.dev with tick := 0, seconds := 0, cycles := 0, bootCount := 0 }
    tp := { removalArmed := s.tp.removalArmed, ship := s.tp.ship, marks := s.tp.marks, battery := false } }

/-- The cell leaves without main power, or main power fails without a cell (R448): a mark in SECURE mode when removal
detection is armed. -/
def cellGone (s : State) : State :=
  let mark := s.tp.removalArmed && !s.tp.ship
  let s := loseBattery s
  if mark then { s with tp := { s.tp with marks := min (s.tp.marks + 1) 16 } } else s

/-- The counts of the battery domain at an application of main power: advanced, or resumed from management's copy (R419). -/
def countsAtPower (s : State) : State :=
  let crumb (code p0 p1 : Nat) (s : State) : State := mgCrumb 0x19 code p0 p1 0 0 s
  let s := { s with dev := { s.dev with bootCount := (s.dev.bootCount + 1) % 2 ^ 32 } }
  if s.tp.battery then
    let n := (s.dev.cycles + 1) % 2 ^ 24
    let s := { s with dev := { s.dev with cycles := n } }
    if n = 0 then crumb 0x0C04 0 0 s else s
  else
    let (sec, cyc, tick) := s.mg.copy.getD (0, 0, 0)
    let s := { s with
      dev := { s.dev with seconds := (sec + 3600) % 2 ^ 32, cycles := (cyc + 1) % 2 ^ 24, tick := tick + 3600000 } }
    crumb 0x0C03 s.dev.seconds s.dev.cycles s

/-- Copies of keys a set flag or a new mark covers are erased, then the keys of an empty battery domain are restored in
SHIP mode (R449); a mark newer than the bank's count sets its flags (R448). -/
def keysAtPower (s : State) : State :=
  let full := s.tp.marks = 16 ∧ ¬ s.tp.battery ∧ s.tp.removalArmed ∧ ¬ s.tp.ship
  let newMark := decide (s.mg.marksKnown < s.tp.marks) || decide full
  let cover := stickyCover s.dev s.tp s.tp.sticky ||| (if newMark then 0x1FFFF else s.tp.tampered)
  let s := onEvery (fun ch _ c => if bit cover ch.val then { c with kekCopy := none } else c) s
  let s := if bit cover 16 then onMg (fun m => { m with kekCopy := none }) s else s
  let s := if !s.tp.battery ∧ s.tp.ship then
      onMg (fun m => { m with kek := m.kekCopy }) (onEvery (fun _ _ c => { c with kek := c.kekCopy }) s)
    else s
  let s := { s with tp := { s.tp with battery := true } }
  if newMark then
    let s := { s with
      tp := { s.tp with sticky := setBit s.tp.sticky 29 true, tampered := 0x1FFFF }
      mg := { s.mg with marksKnown := s.tp.marks } }
    tamperSource 30 (mgCrumb 0x12 0x0021 s.tp.marks 0 0 0 s)
  else s

/-- The device safe state (R461): every channel latched with mechanism DEVICE; function 0 source 54. -/
def deviceSafeState (cause : Nat) (s : State) : State :=
  if s.dev.deviceSafe then s
  else
    let s := { s with dev := { s.dev with deviceSafe := true } }
    let s := s.enabledChannels.foldl (fun s ch => onChanS ch (fun ch d c =>
      let c := latchFault ch d 0x0D 0 c
      setFault 4 0 0 (setChState .fault { c with
        outCrumbs := [], sf := { c.sf with latched := true }, core := { c.core with halted := true } })) s) s
    raiseFn0 54 (aonCrumb ⟨0x0606, 0x13, s.dev.seconds, s.dev.cycles, cause, 0, 0, 0⟩
      (aonCrumb ⟨0x040D, 0x13, s.dev.seconds, s.dev.cycles, 0xFF, 0, 0, 0⟩ s))

/-- MAIN_POWER_APPLY: a cold reset (R547) and the first steps of the power-up sequence (R549). -/
def powerApply (start : StartUp) (s : State) : State :=
  if s.pw.main then s
  else
    let refill (p : Nat × ClassBucket) : Nat × ClassBucket := (p.1, { p.2 with tokens := p.2.cap, suppressed := 0, total := 0 })
    let s := { s with
      aon := {}, fn0 := {}
      log := { s.log with
        inbox := [], lost := 0, suppressed := 0, overrun := false, cursor := 0
        classes := s.log.classes.map refill
        rolling := { s.log.rolling with pending := [], held := [], dropped := 0, frozen := false, draining := false, expired := false }
        pinned := { s.log.pinned with pending := [], held := [], dropped := 0, frozen := false, draining := false, expired := false } } }
    let s := onEvery (fun ch d c => channelReset .cold ch d c) (managementReset .cold false { s with fn0 := {} })
    let s := onMg (fun m => { m with side := { addr := m.side.addr, rate := m.side.rate, nextAddr := m.side.nextAddr, nextRate := m.side.nextRate } }) s
    let s := keysAtPower (countsAtPower s)
    let s := { s with
      dev := { s.dev with mgmtUp := false, hearthUp := false, deviceSafe := false }
      pw := { main := true, refclk := s.pw.refclk, perst := true, selfTest := start.selfTest, entropy := start.entropy, keyed := s.pw.keyed }
      tp := { s.tp with armed := false, clearing := 0, cellTick := s.dev.tick }
      nf := { s.nf with runStart := true } }
    if start.selfTest then s else deviceSafeState 3 s

/-- The blow of a lifecycle bit that a fall of power cuts (R406): the majority read gives the old state or the new one. -/
def blowCut (s : State) : State :=
  match s.mg.blow with
  | none => s
  | some t =>
    if !Config.blowLands s.dev.bootCount then s
    else
      onEvery (fun _ _ c => { (if t = 0xF then zeroizeBattery true c else c) with confirm := true })
        { s with dev := { s.dev with lifecycle := t }, pw := { s.pw with warmDue := true } }

/-- SUPPLY_FALL: every channel and management held in reset at once (R436). -/
def supplyFall (s : State) : State :=
  if !s.pw.main ∨ s.pw.fallen then s
  else
    let s := onEvery (fun ch d c => channelReset .warm ch d c) (managementReset .warm false (blowCut s))
    { s with pw := { s.pw with fallen := true, mgHeld := true } }

/-- SUPPLY_RECOVER: SUPPLY_LOW trips, with the rail in its detail (R436). -/
def supplyRecover (rail : Nat) (s : State) : State :=
  if !s.pw.fallen then s
  else
    let s := { s with pw := { s.pw with fallen := false, mgHeld := !s.tp.armed } }
    tripSample [(22, rail)] (countSamples 1 s)

/-- MAIN_POWER_LOSS (R436): only the battery domain goes on, and it too is lost without a cell. -/
def powerLoss (s : State) : State :=
  if !s.pw.fallen then s
  else
    let s := onEvery (fun ch d c => { channelReset .cold ch d c with host := {} }) s
    let s := { s with
      dev := { s.dev with mgmtUp := false, hearthUp := false }
      pw := { s.pw with main := false, fallen := false, link := false, linkKey := [], hpLog := false, pcieUp := false, crs := true, mgHeld := true, crystal := false, selfTest := false }
      tp := { s.tp with armed := false, clearing := 0 } }
    if s.tp.cell then s else cellGone s

/-- Training done: the link key is derived afresh from the pairing secret and a nonce of each die, and both frame counters start
at zero (R9, R10). Without the logic die's nonce, whose source has failed its start-up tests, there is no key and no link. The
derivation is not given. -/
def linkTrain (s : State) : State :=
  if !s.pw.main ∨ !s.pw.selfTest ∨ s.pw.link ∨ s.pw.fallen ∨ !s.pw.entropy then s
  else
    let k := 16 * s.pw.keyed
    let logic := freeBytes 19 k 16
    let keep := freeBytes 18 k 16
    { s with pw := { s.pw with
      link := true, keyed := s.pw.keyed + 1, nonces := (logic, keep), frames := (0, 0)
      linkKey := padTo 16 (Config.linkKdf Config.pairingSecret logic keep) } }

/-- Training failed (R12): the always-on domain records it for the event recorder, and the hearth answers configuration requests
all the same. The code and parameters of the crumb are not stated. -/
def linkFailed (s : State) : State :=
  if !s.pw.main ∨ s.pw.link then s
  else
    let n := s.pw.linkFails
    let field (k : Nat) : Nat := (Config.linkFailCrumb n k).toNat
    aonCrumb ⟨field 0 % 65536, field 1 % 256, s.dev.seconds, s.dev.cycles, field 2, field 3, field 4, field 5⟩
      { s with pw := { s.pw with linkFails := n + 1, hpLog := true } }

/-- The IV of a frame (R9): the field of direction bit and port number, then the direction's frame counter. Where the two stand in
the field is not given. -/
def linkIv (toKeep : Bool) (port : Nat) (counter : Nat) : Bytes := beBytes 4 (Config.linkField toKeep port).toNat ++ beBytes 8 counter

/-- The frame counter of a direction. -/
def Power.counter (p : Power) (toKeep : Bool) : Nat := if toKeep then p.frames.1 else p.frames.2

/-- A frame of up to 256 bytes of payload verifies: its 128-bit tag under AES-GCM-128 (R9). DEDUCED: no further bytes are
authenticated. -/
def frameVerifies (toKeep : Bool) (f : LinkFrame) (p : Power) : Bool :=
  decide (f.data.length ≤ 256) && decide (f.tag.length = 16) &&
  (gcmDecrypt p.linkKey (linkIv toKeep f.port.toNat (p.counter toKeep)) [] f.data f.tag).isSome

/-- A frame of the link arrives (R9, R11): a tag that fails discards it and trips the die-link fault source. -/
def linkFrame (toKeep : Bool) (frame : LinkFrame) (s : State) : State :=
  if !s.pw.link then s
  else if frameVerifies toKeep frame s.pw then
    let f := s.pw.frames
    { s with pw := { s.pw with frames := if toKeep then (f.1 + 1, f.2) else (f.1, f.2 + 1) } }
  else tripSample [(27, b2n toKeep)] (countSamples 1 s)

/-- TAMPER_ARM (R442, R450): the battery queue is handed over, and ARMED is set whatever trips while arming. -/
def tamperArm (met : List TamperSense) (micros : Nat) (s : State) : State :=
  if !s.pw.main ∨ !s.pw.link ∨ s.tp.armed then s
  else
    let q := s.tp.queue
    let drops := s.tp.drops
    let s := { s with tp := { crustReseed s.tp with missed := [], queue := [], drops := 0, checks := s.tp.checks + 1 } }
    let s := q.foldl (fun s x => aonCrumb x s) s
    let s := if drops = 0 then s else tamperCrumb 0x0020 drops 0 0 0 s
    let s := mainSamples met 256 (fun _ => true) s
    let s := { s with tp := { s.tp with armed := true }, pw := { s.pw with mgHeld := !s.pw.refclk, hpLog := true } }
    tamperCrumb 0x0205 micros s.tp.live 0 0 s

/-- A target channel that was reset before VERIFIED ends the session (R413). -/
def sessionReset (ch : Ch) (s : State) : State :=
  let u := s.mg.update
  if u.state = 1 ∧ u.component = 0x10 ∧ bit u.mask ch.val then sessionFailed s else s

/-- CHANNEL_RESET_RELEASE (R12, R24, R549, R552): a latched channel stays in FAULT (R465). -/
def channelRelease (ch : Ch) (s : State) : State :=
  let c := s.chan ch
  if !s.dev.has ch ∨ (c.state ≠ .reset ∧ c.state ≠ .waitLink) ∨ !s.pw.main ∨ s.pw.fallen ∨ s.dev.lifecycle = 0 then s
  else if c.sf.latched then setChan s ch (setChState .fault c)
  else if !s.pw.link then setChan s ch (setChState .waitLink c)
  else if !s.tp.armed ∨ !s.pw.refclk ∨ bit s.tp.clearing ch.val then s
  else sessionReset ch <| setChan s ch (setChState .booting { c with bootStep := 0, bootTick := s.dev.tick })

/-- What the rest of the part tells a channel that boots. -/
def bootEnv (ch : Ch) (s : State) : BootEnv := { tampered := bit s.tp.tampered ch.val, chSvn := s.mg.chSvn, ship := s.tp.ship }

/-- Whether two images work together (R414). -/
def compatible (c m : FwHeader) : Bool :=
  m.otherMin ≤ c.ifEpoch && c.ifEpoch ≤ m.otherMax && c.otherMin ≤ m.ifEpoch && m.ifEpoch ≤ c.otherMax

/-- Management checks a channel's image against its own (R414, R416): source 5 when one becomes incompatible. -/
def checkCompat (ch : Ch) (s : State) : State :=
  match s.mg.image, (s.chan ch).image with
  | some m, some c =>
    let bad := !compatible c m
    let was := bit s.mg.incompat ch.val
    let s := onMg (fun m => { m with incompat := setBit m.incompat ch.val bad }) s
    if bad && !was then raiseFn0 5 s else s
  | _, _ => s

/-- A target runs the slot that is marked TRIAL. -/
def FwSlots.onTrial (f : FwSlots) : Bool := f.other == .trial && f.running == some (!f.active)

/-- Every target of the session has reached READY on its TRIAL slot: the session is in TRIAL (R410). -/
def sessionArrived (s : State) : State :=
  let u := s.mg.update
  if u.state = 3 ∧ u.arrived = u.mask ∧ u.mask ≠ 0 then sessionTo 4 s else s

/-- After a boot step of a channel: management's checks, and the arrival of an update target. -/
def afterBoot (ch : Ch) (s : State) : State :=
  let c := s.chan ch
  if c.state ≠ .ready ∧ c.state ≠ .recovery ∧ c.state ≠ .tampered then s
  else
    let s := if s.dev.mgmtUp then checkCompat ch s else s
    let u := s.mg.update
    if c.state = .ready ∧ c.fw.onTrial ∧ u.component = 0x10 ∧ u.state = 3 ∧ bit u.mask ch.val then
      sessionArrived (onMg (fun m => { m with update := { m.update with arrived := setBit m.update.arrived ch.val true } }) s)
    else s

/-- Management, when its firmware runs, verifies the new slot or the new lifecycle state and confirms it to a channel that waits for
it (R21); a slot that fails its checks is not booted, and its session fails (R409, R412). -/
def confirmBoot (ch : Ch) (s : State) : State :=
  let c := s.chan ch
  if !c.needsConfirm ∨ !mgmtServes s then s
  else
    let bad := c.confirmSlot && ((c.fw.image (!c.fw.active)).bind (slotCheck false s.mg.chSvn (!c.jr.entries.isEmpty))).isSome
    let s := onChan ch (fun _ _ c => { c with confirm := false, confirmSlot := false }) s
    if bad then sessionFailed s else s

/-- CHANNEL_BOOT: from ROM to the end of FW_COPY, and, after proofing, from CHECK to the end (R551). -/
def channelBoot (ch : Ch) (seen : BootSeen) (s : State) : State :=
  let s := if (s.chan ch).state = .booting then confirmBoot ch s else s
  let env := bootEnv ch s
  afterBoot ch (onChanS ch (fun ch d c =>
    if c.state ≠ .booting then c
    else if c.bootStep < 3 then bootFirst ch d env seen c
    else if c.bootStep = 4 then bootSecond ch d env seen c
    else c) s)

/-- ROOT_LOAD_RETRY (R152). -/
def rootRetry (ch : Ch) (image : Option Bytes) (flips : List (Nat × Byte)) (micros : Nat) (s : State) : State :=
  let env := bootEnv ch s
  afterBoot ch (onChanS ch (fun ch d c =>
    if c.state = .booting ∧ c.bootStep = 5 then bootRoot ch d env image micros (applyFlips flips c) else c) s)

/-- WAIT_MGMT_RETRY (R21). -/
def waitMgmtRetry (ch : Ch) (s : State) : State :=
  if (s.chan ch).state = .waitMgmt ∧ mgmtServes s then
    onChan ch (fun _ _ c => setChState .booting { c with bootStep := 0 }) (confirmBoot ch s)
  else s

/-- WARM_RESET: once a lifecycle bit has been blown (R406, R547). -/
def warmReset (s : State) : State :=
  if !s.pw.main ∨ !s.pw.warmDue then s
  else
    let s := managementReset .warm false s
    let s := onEvery (fun ch d c => channelReset .warm ch d c) s
    { s with pw := { s.pw with warmDue := false } }

/-- The hearth's crumb of a function reset (R431 table). -/
def functionCrumb (fn : Nat) (s : State) : State := raiseMg 3 (mgCrumb 0x11 0x1002 fn 0 0 0 s)

/-- A function-level reset of a channel function (R35, R71). -/
def flrChannel (ch : Ch) (s : State) : State :=
  functionCrumb (ch.val + 1) (onChan ch (fun ch d c => channelReset .flr ch d c) s)

/-- A function-level reset of function 0 (R35): the registers return to reset; a message in progress ends MGMT_ABORTED, which
MB_STAT shows. DESIGN CHOICE: MB_STAT keeps that end over the reset that makes it (log 42). -/
def flrMgmt (s : State) : State :=
  let z : Fn0 :=
    if s.fn0.phase = .waiting ∨ s.fn0.current.isSome then { status := (endMessage 0x0A04 none s).fn0.status, done := true } else {}
  functionCrumb 0 { s with fn0 := z }

/-- PERST_ASSERT: a function-level reset of every function and of the hearth's shared logic (R547). -/
def perstAssert (s : State) : State :=
  if !s.pw.main ∨ s.pw.perst then s
  else
    let s := s.enabledChannels.foldl (fun s ch => flrChannel ch s) (flrMgmt s)
    { s with pw := { s.pw with perst := true, pcieUp := false, crs := true }, dev := { s.dev with hearthUp := false } }

/-- PERST_DEASSERT: HP_PHY is powered and the link trains (R549, R550). -/
def perstDeassert (s : State) : State :=
  if !s.pw.main ∨ !s.pw.perst then s
  else { raiseMg 3 s with pw := { s.pw with perst := false, pcieUp := true }, dev := { s.dev with hearthUp := true } }

/-- CONFIG_REQUEST: answered once the configuration space is loaded and the link is up, retried until then (R550); a function that
is not enumerated is not there (R3, R4). -/
def configRequest (fn : Fin 17) (s : State) : State :=
  if s.dev.enabled < fn.val then s else { s with pw := { s.pw with crs := !(s.pw.hpLog && s.pw.pcieUp) } }

/-- A function enters or leaves D3hot (R546). -/
def setD3hot (fn : Fin 17) (on : Bool) (s : State) : State :=
  if h : fn.val = 0 then { s with fn0 := { s.fn0 with d3hot := on } }
  else onChan ⟨fn.val - 1, by omega⟩ (fun _ _ c => { c with host := { c.host with d3hot := on } }) s

/-- A fault isolated to one function's slice (R18, R34). What CH_FAULT_INFO captures beside the kind of a mover or MSI-X fault is not
stated: the event brings any value. -/
def sliceFault (fn : Fin 17) (fault : SliceError) (s : State) : State :=
  let s := raiseMg 3 s
  if h : fn.val = 0 then { s with fn0 := { s.fn0 with faulted := true } }
  else onChan ⟨fn.val - 1, by omega⟩ (fun _ _ c => setFault fault.kind.val fault.value.toNat fault.pair.val c) s

/-- QUIESCED: no job in flight and no ring with an unclaimed entry (R33). -/
def quiesced (c : Channel) : Bool := c.jr.entries.isEmpty && c.host.pairs.toList.all fun p => p.unclaimed == 0

/-- No engine message, batch, request or flash command runs (R543). -/
def enginesIdle (c : Channel) : Bool :=
  c.pke.running.isNone && c.pke.queue.isEmpty && c.hash.lane.isEmpty && c.hash.main.isEmpty && !c.fu.busy && c.nv.busy.isNone &&
  (c.ce.cxs.toList.all fun x => x.st != .opened && x.fifo.isEmpty) && (c.rng.inst.toList.all fun g => g.current.isNone)

/-- SLEEP_ENTRY: QUIESCED has held for `quiet` units of 100 µs (R543). -/
def sleepEntry (quiet : Nat) (d : Device) (c : Channel) : Channel :=
  if c.state = .ready ∧ c.host.sleepOk ∧ quiesced c ∧ c.host.idle ≤ quiet ∧ enginesIdle c ∧ ¬ c.notice then
    setChState .asleep { c with sleepTick := d.tick }
  else c

/-- DEEP_SLEEP_ENTRY (R313, R320, R544): engines cleared and powered down after 1 s asleep. -/
def deepSleep (d : Device) (c : Channel) : Channel :=
  if c.state = .asleep ∧ ¬ c.deep ∧ c.sleepTick + 1000 ≤ d.tick then
    { c with
      deep := true
      ce := { errcnt := c.ce.errcnt }, pke := { errcnt := c.pke.errcnt }, hash := {}
      rng := { c.rng with
        source := .off, inst := Vector.replicate 8 {}, run := 0, rctRun := 0, aptPos := 0, aptCnt := 0, samples := [], raw := 0
        tpDigest := zeros 32 } }
  else c

/-- CHANNEL_WAKE: an enabled pending source of an asleep channel (R313, R544); without a reference its PLL does not lock
(R542). -/
def channelWake (refclk : Bool) (ch : Ch) (d : Device) (c : Channel) : Channel :=
  if c.state ≠ .asleep then c
  else if !refclk then reportSafety ch d 0x09 0 c
  else
    let c := if c.deep then allocStanding ch d c else c
    setChState .ready { raiseCause 18 c with deep := false, rng := { c.rng with source := .proofing, proofOk := false, again := 0 } }

/-- Whether a channel's clocks run (R542). -/
def awake (st : ChState) : Bool := st == .ready || st == .recovery || st == .booting || st == .bist || st == .tampered

/-- REFCLK_LOSS: every awake channel reports CLOCK and management is held in a management reset (R542). -/
def refclkLoss (s : State) : State :=
  if !s.pw.main ∨ !s.pw.refclk then s
  else
    let s := (List.finRange 16).foldl (fun s ch =>
      onChanS ch (fun ch d c => if awake c.state then reportSafety ch d 0x09 0 c else c) s) s
    let s := managementReset .warm false s
    { s with pw := { s.pw with refclk := false, mgHeld := true } }

/-- REFCLK_RETURN: the reference has been back for 1 ms (R542). -/
def refclkReturn (s : State) : State :=
  if s.pw.refclk then s else { s with pw := { s.pw with refclk := true, mgHeld := !s.tp.armed || s.pw.fallen } }

/-- CRYSTAL_LOSS: the RC oscillator takes over, and management files SENSOR_WARN for sensor 32 (R541). -/
def crystalLoss (s : State) : State :=
  if !s.pw.crystal then s
  else
    let s := { s with pw := { s.pw with crystal := false } }
    if mgmtRuns s then mgCrumb 0x18 0x2200 32 0 0 0 s else s

/-- CELL_INSERT (R447, R454). -/
def cellInsert (s : State) : State :=
  if !s.pw.main ∨ s.tp.cell then s else tamperSource 29 { s with tp := { s.tp with cell := true, cellTick := s.dev.tick } }

/-- MAIN_POWER_APPLY: what the start-up tests find. -/
def execMainPowerApply (start : StartUp) (s : State) : Host.Outcome State Fault Refusal := .next (powerApply start s)

/-- SUPPLY_FALL. -/
def execSupplyFall (s : State) : Host.Outcome State Fault Refusal := .next (supplyFall s)

/-- SUPPLY_RECOVER. -/
def execSupplyRecover (rail : Byte) (s : State) : Host.Outcome State Fault Refusal := .next (supplyRecover rail.toNat s)

/-- MAIN_POWER_LOSS. -/
def execMainPowerLoss (s : State) : Host.Outcome State Fault Refusal := .next (powerLoss s)

/-- LINK_TRAIN. -/
def execLinkTrain (s : State) : Host.Outcome State Fault Refusal := .next (linkTrain s)

/-- LINK_TRAIN_TIMEOUT. -/
def execLinkTrainTimeout (s : State) : Host.Outcome State Fault Refusal := .next (linkFailed s)

/-- LINK_TRAIN_RETRY. -/
def execLinkTrainRetry (trained : Bool) (s : State) : Host.Outcome State Fault Refusal :=
  .next (if trained then linkTrain s else linkFailed s)

/-- LINK_FRAME_RECEIVE: the direction and the frame. -/
def execLinkFrameReceive (toKeep : Bool) (frame : LinkFrame) (s : State) : Host.Outcome State Fault Refusal :=
  .next (linkFrame toKeep frame s)

/-- TAMPER_ARM: the sources met while arming with their details, and the time it took. -/
def execTamperArm (met : List TamperSense) (micros : Nat) (s : State) : Host.Outcome State Fault Refusal := .next (tamperArm met micros s)

/-- CHANNEL_RESET_RELEASE. -/
def execChannelResetRelease (ch : Ch) (s : State) : Host.Outcome State Fault Refusal := .next (channelRelease ch s)

/-- CHANNEL_BOOT. -/
def execChannelBoot (ch : Ch) (seen : BootSeen) (s : State) : Host.Outcome State Fault Refusal := .next (channelBoot ch seen s)

/-- ROOT_LOAD_RETRY. -/
def execRootLoadRetry (ch : Ch) (image : Option Bytes) (flips : List (Nat × Byte)) (micros : Nat) (s : State) :
    Host.Outcome State Fault Refusal :=
  .next (rootRetry ch image flips micros s)

/-- WAIT_MGMT_RETRY. -/
def execWaitMgmtRetry (ch : Ch) (s : State) : Host.Outcome State Fault Refusal := .next (waitMgmtRetry ch s)

/-- WARM_RESET. -/
def execWarmReset (s : State) : Host.Outcome State Fault Refusal := .next (warmReset s)

/-- PERST_ASSERT. -/
def execPerstAssert (s : State) : Host.Outcome State Fault Refusal := .next (perstAssert s)

/-- PERST_DEASSERT. -/
def execPerstDeassert (s : State) : Host.Outcome State Fault Refusal := .next (perstDeassert s)

/-- CONFIG_REQUEST. -/
def execConfigRequest (fn : Fin 17) (s : State) : Host.Outcome State Fault Refusal := .next (configRequest fn s)

/-- FUNCTION_LEVEL_RESET: reaches the function over the PCI Express link. -/
def execFunctionLevelReset (ch : Ch) (s : State) : Host.Outcome State Fault Refusal :=
  .next (if s.pw.pcieUp && s.dev.has ch then flrChannel ch s else s)

/-- FLR_MGMT_FUNCTION. -/
def execFlrMgmtFunction (s : State) : Host.Outcome State Fault Refusal := .next (if s.pw.pcieUp then flrMgmt s else s)

/-- D3HOT_ENTRY. -/
def execD3hotEntry (fn : Fin 17) (s : State) : Host.Outcome State Fault Refusal := .next (setD3hot fn true s)

/-- D0_RETURN. -/
def execD0Return (fn : Fin 17) (s : State) : Host.Outcome State Fault Refusal := .next (setD3hot fn false s)

/-- HEARTH_SLICE_FAULT. -/
def execHearthSliceFault (fn : Fin 17) (fault : SliceError) (s : State) : Host.Outcome State Fault Refusal :=
  .next (sliceFault fn fault s)

/-- The link goes down for every function (R18): nothing is transmitted, acknowledged or answered. -/
def hearthDown (s : State) : State := { raiseMg 3 s with dev := { s.dev with hearthUp := false }, pw := { s.pw with pcieUp := false, crs := true } }

/-- The hearth's shared logic and its link work again (R18). -/
def hearthRecover (s : State) : State :=
  if s.pw.main && !s.pw.perst then { raiseMg 3 s with dev := { s.dev with hearthUp := true }, pw := { s.pw with pcieUp := true } } else s

/-- HEARTH_LINK_DOWN. -/
def execHearthLinkDown (s : State) : Host.Outcome State Fault Refusal := .next (hearthDown s)

/-- HEARTH_RECOVER. -/
def execHearthRecover (s : State) : Host.Outcome State Fault Refusal := .next (hearthRecover s)

/-- SLEEP_ENTRY. -/
def execSleepEntry (ch : Ch) (quiet : Nat) (s : State) : Host.Outcome State Fault Refusal := .next (onChan ch (fun _ d c => sleepEntry quiet d c) s)

/-- DEEP_SLEEP_ENTRY. -/
def execDeepSleepEntry (ch : Ch) (s : State) : Host.Outcome State Fault Refusal := .next (onChan ch (fun _ d c => deepSleep d c) s)

/-- CHANNEL_WAKE. -/
def execChannelWake (ch : Ch) (s : State) : Host.Outcome State Fault Refusal :=
  .next (onChanS ch (channelWake s.pw.refclk) s)

/-- CRYSTAL_SWITCH. -/
def execCrystalSwitch (s : State) : Host.Outcome State Fault Refusal :=
  .next (if s.pw.main then { s with pw := { s.pw with crystal := true } } else s)

/-- CRYSTAL_LOSS. -/
def execCrystalLoss (s : State) : Host.Outcome State Fault Refusal := .next (crystalLoss s)

/-- REFCLK_LOSS. -/
def execRefclkLoss (s : State) : Host.Outcome State Fault Refusal := .next (refclkLoss s)

/-- REFCLK_RETURN. -/
def execRefclkReturn (s : State) : Host.Outcome State Fault Refusal := .next (refclkReturn s)

/-- PLL_LOCK_TIMEOUT: a CLOCK report in every case (R542). -/
def execPllLockTimeout (ch : Ch) (s : State) : Host.Outcome State Fault Refusal :=
  .next (onChanS ch (fun ch d c => reportSafety ch d 0x09 0 c) s)

/-- CELL_INSERT. -/
def execCellInsert (s : State) : Host.Outcome State Fault Refusal := .next (cellInsert s)

end Sys2Proof.Machine
end

