-- ==== Sys2Proof/Machine/Recorder.lean ====
section
/-! DEFINITION. The event recorder (R20, R363, R417 to R431). -/

namespace Sys2Proof.Machine

/-- A crumb as stored: CRC over bytes 0 to 27, MARK last (R417). -/
def Crumb.toBytes (suppressed : Nat) (x : Crumb) : Bytes :=
  let b := leBytes 2 x.code ++ [byte x.source, byte (min suppressed 255)] ++ leBytes 4 x.seconds ++ leBytes 3 x.cycles ++ [0] ++
    leBytes 4 x.p0 ++ leBytes 4 x.p1 ++ leBytes 4 x.p2 ++ leBytes 4 x.p3
  b ++ leBytes 2 (crc16 b) ++ [0x5A, 0xA5]

/-- A stored slot is intact (R425). -/
def slotIntact (b : Bytes) : Bool := b.length == 32 && slice b 30 2 == [0x5A, 0xA5] && fieldLE b 28 2 == crc16 (b.take 28)

/-- The class of a crumb code (R417). -/
def crumbClass (code : Nat) : Nat := code / 512

/-- Slots of a log: 48 sectors of the rolling log, 4 of the pinned one (R423, R424). -/
def logCapacity (pinned : Bool) : Nat := if pinned then 8192 else 98304

/-- A log of the recorder. -/
def State.logOf (s : State) (pinned : Bool) : LogState := if pinned then s.log.pinned else s.log.rolling

/-- A log changed. -/
def onLog (pinned : Bool) (f : LogState → LogState) (s : State) : State :=
  { s with log := if pinned then { s.log with pinned := f s.log.pinned } else { s.log with rolling := f s.log.rolling } }

/-- PINNED_FULL (R424). -/
def LogState.full (l : LogState) : Bool := 8192 ≤ l.next - l.oldest

/-- PINNED_75 (R424). -/
def LogState.full75 (l : LogState) : Bool := 6144 ≤ l.next - l.oldest

/-- The segment at the write point with its slots that are not empty, by index; the write point goes to the next segment. -/
def LogState.segment (seg : List (Nat × Bytes)) (l : LogState) : LogState :=
  { l with slots := l.slots ++ seg.map (fun p => (l.next + p.1, p.2)), next := l.next + 4 }

/-- Slots programmed at the write point. -/
def LogState.program (bs : List Bytes) (l : LogState) : LogState := l.segment (bs.zipIdx.map fun p => (p.2, p.1))

/-- SECTOR_START written when the write point stands at the start of a sector (R422). -/
def openSector (pinned : Bool) (d : Device) (l : LogState) : LogState :=
  if l.next % 2048 = 0 then
    l.program [Crumb.toBytes 0 ⟨0x0C00, 0x19, d.seconds, d.cycles, l.next / 2048, l.next, b2n pinned, 0⟩]
  else l

/-- The oldest sector erased when fewer than 512 erased slots remain (R423). -/
def LogState.roll (l : LogState) : LogState :=
  if 98304 < l.next - l.oldest + 512 then
    { l with oldest := l.oldest + 2048, slots := l.slots.filter fun p => l.oldest + 2048 ≤ p.1 }
  else l

/-- The pending segment programmed, and what follows from the log's new length (R422 to R424, R431). -/
def flushLog (pinned : Bool) (s : State) : State :=
  let l := s.logOf pinned
  if l.pending.isEmpty ∨ l.frozen then s
  else
    let l0 := openSector pinned s.dev l
    let l1 := { l0.program l0.pending with pending := [] }
    if pinned then
      let s' := onLog true (fun _ => l1) s
      let s' := if l1.full75 && !l.full75 then raiseFn0 18 s' else s'
      if l1.full && !l.full then raiseFn0 17 s' else s'
    else
      let l2 := l1.roll
      let s' := onLog false (fun _ => l2) s
      if l2.oldest = l1.oldest then s' else raiseFn0 19 s'

/-- Source 16, at most once per second (R428). -/
def raiseNew (s : State) : State :=
  if s.log.irqNew ∧ s.log.irqSecond ≠ s.dev.seconds + 1 then
    raiseFn0 16 { s with log := { s.log with irqSecond := s.dev.seconds + 1 } }
  else s

/-- A stored crumb enters a log's pending segment, which is programmed when it is full, or at once for a pinned class
(R422). -/
def fileInto (pinned now : Bool) (b : Bytes) (s : State) : State :=
  let l := s.logOf pinned
  if pinned && l.full then s
  else
    let s := onLog pinned (fun l => { l with
      pending := l.pending ++ [b], pendTick := if l.pending.isEmpty then s.dev.tick else l.pendTick }) s
    let s := raiseNew s
    if now ∨ 4 ≤ (s.logOf pinned).pending.length then flushLog pinned s else s

/-- The newest held crumb of an unpinned class taken out; the list is given newest first. -/
def dropNewestLoose : List (Bool × Bytes) → Option (List (Bool × Bytes))
  | [] => none
  | x :: xs => if x.1 then (dropNewestLoose xs).map (x :: ·) else some xs

/-- A crumb bound for a frozen log waits in the hold buffer (R426). -/
def holdCrumb (pin : Bool) (b : Bytes) (l : LogState) : LogState :=
  if l.held.length < 64 then { l with held := l.held ++ [(pin, b)] }
  else
    let l := { l with dropped := l.dropped + 1 }
    if pin then match dropNewestLoose l.held.reverse with
      | some r => { l with held := r.reverse ++ [(pin, b)] }
      | none => l
    else l

/-- An accepted crumb on its way into one log. -/
def toLog (pinned pin : Bool) (b : Bytes) (s : State) : State :=
  let l := s.logOf pinned
  if l.frozen || l.draining then onLog pinned (holdCrumb pin b) s else fileInto pinned pin b s

/-- The bucket of a class; none for the recorder's own class and the reserved ones. -/
def classBucket (s : State) (cls : Nat) : Option ClassBucket := (s.log.classes.find? fun p => p.1 == cls).map (·.2)

/-- A class's bucket changed. -/
def onClass (cls : Nat) (f : ClassBucket → ClassBucket) (s : State) : State :=
  let change (p : Nat × ClassBucket) : Nat × ClassBucket := if p.1 = cls then (p.1, f p.2) else p
  { s with log := { s.log with classes := s.log.classes.map change } }

/-- A crumb accepted or suppressed on arrival (R420), and filed. -/
def acceptCrumb (x : Crumb) (s : State) : State :=
  let cls := crumbClass x.code
  let file (sup : Nat) (s : State) : State :=
    let b := x.toBytes sup
    let pin := decide (cls ≤ 5)
    let s := if pin then toLog true true b s else s
    toLog false pin b s
  match classBucket s cls with
  | none => file 0 s
  | some k =>
    if k.tokens = 0 then
      let s := onClass cls (fun k => { k with suppressed := k.suppressed + 1, total := min (k.total + 1) 0xFFFFFFFF }) s
      { s with log := { s.log with suppressed := min (s.log.suppressed + 1) 0xFFFFFFFF } }
    else file k.suppressed (onClass cls (fun k => { k with tokens := k.tokens - 1, suppressed := 0 }) s)

/-- CRUMB_ACCEPT: the oldest crumb handed to the recorder (R418). -/
def takeCrumb (s : State) : State :=
  if !mgmtServes s then s
  else match s.log.inbox with
    | [] => s
    | x :: rest => acceptCrumb x { s with log := { s.log with inbox := rest } }

/-- Whether a pending segment is 4 s old (R422). -/
def LogState.stale (tick : Nat) (l : LogState) : Bool := !l.pending.isEmpty && decide (l.pendTick + 4000 ≤ tick)

/-- SEGMENT_FLUSH_TIMEOUT. -/
def segmentTimeout (s : State) : State :=
  if !mgmtServes s then s
  else
    let one (p : Bool) (s : State) : State := if (s.logOf p).stale s.dev.tick then flushLog p s else s
    one true (one false s)

/-- The four sectors of the pinned log erased; its sequences go on from the next sector (R422, R424). -/
def clearPinned (qset : Nat) (s : State) : State :=
  let l := s.log.pinned
  let start := roundUp l.next 2048
  let fresh : LogState := { oldest := start, next := start, freezeTick := l.freezeTick, dropped := l.dropped, expired := l.expired }
  let s := onLog true (fun _ => openSector true s.dev fresh) s
  let x : Crumb := ⟨0x0C06, 0x19, s.dev.seconds, s.dev.cycles, l.next - l.oldest, qset, 0, 0⟩
  fileInto true true (x.toBytes 0) s

/-- The end of a freeze: held crumbs filed in order, LOST_DURING_FREEZE, and the erase that was deferred (R427). -/
def drainLog (pinned : Bool) (ms : Nat) (s : State) : State :=
  let l := s.logOf pinned
  let s := onLog pinned (fun l => { l with frozen := false, draining := false, held := [], dropped := 0, clearDue := none, freezeMs := 0 }) s
  let s := l.held.foldl (fun s p => fileInto pinned p.1 p.2 s) s
  let s := if l.dropped = 0 then s
    else
      let x : Crumb := ⟨0x0C01, 0x19, s.dev.seconds, s.dev.cycles, l.dropped, l.held.length, ms, 0⟩
      let s := fileInto pinned false (x.toBytes 0) s
      raiseFn0 21 { s with log := { s.log with lost := min (s.log.lost + l.dropped) 0xFFFFFFFF } }
  let s := flushLog pinned s
  match l.clearDue with
  | some q => clearPinned q s
  | none => s

/-- FREEZE on the selected log (R426). -/
def freezeLog (s : State) : State :=
  onLog s.log.logSel (fun l => if l.frozen || l.draining then l else { l with frozen := true, freezeTick := s.dev.tick }) s

/-- UNFREEZE on the selected log (R427). -/
def unfreezeLog (s : State) : State :=
  let l := s.logOf s.log.logSel
  if l.frozen then drainLog s.log.logSel (s.dev.tick - l.freezeTick) s else s

/-- A write of EV_CTRL (R428): LOG and IRQ_NEW first, then FREEZE, then UNFREEZE. -/
def evCtrlWrite (v : Word) (s : State) : State :=
  if !mgmtServes s then s
  else
    let sel := v.getLsbD 0
    let s := { s with log := { s.log with
      logSel := sel, irqNew := v.getLsbD 3, cursor := if sel = s.log.logSel then s.log.cursor else (s.logOf sel).oldest } }
    let s := if v.getLsbD 1 then freezeLog s else s
    if v.getLsbD 2 then unfreezeLog s else s

/-- A write of EV_STAT: OVERRUN and FREEZE_EXPIRED are cleared by 1. -/
def evStatWrite (v : Word) (s : State) : State :=
  if !mgmtServes s then s
  else
    let s := if v.getLsbD 1 then { s with log := { s.log with overrun := false } } else s
    if v.getLsbD 4 then onLog s.log.logSel (fun l => { l with expired := false }) s else s

/-- FREEZE_EXPIRY of the logs frozen for 10 s (R427). -/
def freezeExpiry (s : State) : State :=
  if !mgmtServes s then s
  else
    let one (p : Bool) (s : State) : State :=
      let l := s.logOf p
      if l.frozen ∧ l.freezeTick + 10000 ≤ s.dev.tick then
        raiseFn0 20 (drainLog p (s.dev.tick - l.freezeTick) (onLog p (fun l => { l with expired := true }) s))
      else s
    one true (one false s)

/-- The slots of a log from a sequence on that are not empty. -/
def LogState.from (l : LogState) (seq : Nat) : List (Nat × Bytes) := l.slots.filter fun p => seq ≤ p.1

/-- A read of a word of EV_DATA (R429): a cursor below EV_OLDEST moves there, and the last word advances it. -/
def evDataRead (word : Nat) (s : State) : State :=
  if !mgmtServes s then s
  else
    let l := s.logOf s.log.logSel
    let s := if s.log.cursor < l.oldest then { s with log := { s.log with cursor := l.oldest, overrun := true } } else s
    if word ≠ 7 ∨ l.next ≤ s.log.cursor then s
    else
      let seq : Nat := match l.from (s.log.cursor + 1) with
        | p :: _ => p.1
        | [] => l.next
      { s with log := { s.log with cursor := seq } }

/-- CLASS_GET: the class in byte 0; CAPACITY, PERIOD, tokens and suppressed total at 4, 8, 12 and 16. -/
def classGet (p : Bytes) (s : State) : State :=
  match classBucket s (fieldLE p 0 1) with
  | some k => answer ([byte (fieldLE p 0 1)] ++ zeros 3 ++ leBytes 4 k.cap ++ leBytes 4 k.period ++ leBytes 4 k.tokens ++ leBytes 4 k.total) s
  | none => refuse 0x0102 s

/-- Whether the sum of 1/PERIOD over the classes is at most 1 per second (R421). -/
def periodsOk (ps : List Nat) : Bool :=
  let all := ps.foldl (· * ·) 1
  decide ((ps.map fun p => all / p).sum ≤ all)

/-- CLASS_SET (R421): CAPACITY at 4, PERIOD at 8. -/
def classSet (p : Bytes) (s : State) : State :=
  let cls := fieldLE p 0 1
  let cap := fieldLE p 4 4
  let per := fieldLE p 8 4
  let periods := (s.log.classes.filter fun x => x.1 != cls).map (·.2.period)
  if (classBucket s cls).isNone ∨ cap = 0 ∨ 255 < cap ∨ per = 0 ∨ 86400 < per ∨ (cls ≤ 5 ∧ 300 < per) ∨ !periodsOk (per :: periods) then
    refuse 0x0102 s
  else answer [] (onClass cls (fun k => { k with cap := cap, period := per, tokens := min k.tokens cap }) s)

/-- LOG_READ (R430). -/
def logRead (p : Bytes) (s : State) : State :=
  let n := fieldLE p 8 2
  let start := fieldLE p 4 4
  if 1 < fieldLE p 0 1 ∨ n = 0 ∨ 127 < n then refuse 0x0102 s
  else
    let l := s.logOf (fieldLE p 0 1 == 1)
    let at0 := max start l.oldest
    let got := (l.from at0).take n
    let next := if got.length = n then (got.getLast?.map fun x => x.1 + 1).getD at0 else max at0 l.next
    answer (leBytes 2 got.length ++ leBytes 2 (b2n (start < l.oldest)) ++ leBytes 4 next ++ zeros 8 ++ (got.map (·.2)).flatten) s

/-- EV_CTRL to EV_SECONDS as the event window shows them (R428). -/
def evWindow (s : State) : Bytes :=
  let l := s.logOf s.log.logSel
  let left := if l.frozen then l.freezeTick + 10000 - s.dev.tick else 0
  let stat := b2n l.frozen + 2 * b2n s.log.overrun + 4 * b2n s.log.pinned.full + 8 * b2n s.log.pinned.full75 + 16 * b2n l.expired +
    32 * b2n l.draining + 256 * l.held.length + 65536 * left
  leBytes 4 (b2n s.log.logSel + 8 * b2n s.log.irqNew) ++ leBytes 4 stat ++ leBytes 4 s.log.cursor ++ leBytes 4 l.oldest ++
  leBytes 4 l.next ++ leBytes 4 s.log.lost ++ leBytes 4 s.log.suppressed ++ leBytes 4 s.dev.cycles ++ leBytes 4 s.dev.seconds

/-- PINNED_CLEAR (R424): deferred while the pinned log is frozen (R426, R427). -/
def pinnedClear (p : Bytes) (s : State) : State :=
  if !authOk 0x14 p s then refuse 0x0B05 s
  else
    let q := fieldLE p 28 4
    let s := useAuth 0x14 p s
    answer [] (if s.log.pinned.frozen ∨ s.log.pinned.draining then onLog true (fun l => { l with clearDue := some q }) s else clearPinned q s)

/-- The recorder at a management boot (R425, R427): torn slots found at the write points, a drain that waits, the first
sectors opened, the cursor loaded. A sector whose SECTOR_START is torn holds nothing and is opened again. -/
def recorderBoot (tornRolling tornPinned : List Bytes) (s : State) : State :=
  let scan (pinned : Bool) (bs : List Bytes) (s : State) : State :=
    let seg := ((bs.take 4).zipIdx.map fun p => (p.2, p.1)).filter fun p => p.2.length == 32 && p.2 != List.replicate 32 0xFF
    let torn := seg.filter fun p => !slotIntact p.2
    let l := s.logOf pinned
    if torn.isEmpty ∨ l.next % 2048 = 0 then s
    else mgCrumb 0x19 0x0C05 (b2n pinned) torn.length (l.next + ((torn.map (·.1)).headD 0)) 0 (onLog pinned (fun l => l.segment seg) s)
  let start (pinned : Bool) (s : State) : State := if (s.logOf pinned).next = 0 then onLog pinned (openSector pinned s.dev) s else s
  let drain (pinned : Bool) (s : State) : State :=
    let l := s.logOf pinned
    if l.draining then drainLog pinned l.freezeMs s else s
  let s := start true (start false (scan true tornPinned (scan false tornRolling s)))
  let s := drain true (drain false s)
  { s with log := { s.log with cursor := s.log.rolling.oldest } }

/-- A channel's event port delivered: held crumbs in order, then PORT_DROP (R20, R416). -/
def deliverPort (ch : Ch) (s : State) : State :=
  let c := s.chan ch
  if !s.dev.has ch ∨ !mgmtServes s ∨ bit s.mg.incompat ch.val then s
  else
    let s := { s with log := { s.log with inbox := s.log.inbox ++ c.port.held } }
    let s := setChan s ch { c with port := {} }
    if c.port.drops = 0 then s else mgCrumb ch.val 0x0C02 ch.val c.port.drops 0 0 s

/-- The always-on queue delivered: held crumbs in order, then AON_DROP. -/
def deliverAon (s : State) : State :=
  if !mgmtServes s then s
  else
    let q := s.aon
    let s := { s with aon := {}, log := { s.log with inbox := s.log.inbox ++ q.held } }
    if q.drops = 0 then s else mgCrumb 0x19 0x0C07 q.drops 0 0 0 s

/-- CRUMB_ACCEPT. -/
def execCrumbAccept (s : State) : Host.Outcome State Fault Refusal := .next (takeCrumb s)

/-- SEGMENT_FLUSH_TIMEOUT. -/
def execSegmentFlushTimeout (s : State) : Host.Outcome State Fault Refusal := .next (segmentTimeout s)

/-- CLASS_TOKEN_REFILL: a class's PERIOD has passed. -/
def execClassTokenRefill (cls : Nat) (s : State) : Host.Outcome State Fault Refusal :=
  .next (onClass cls (fun k => { k with tokens := min (k.tokens + 1) k.cap }) s)

/-- OPERATING_SECOND: SECONDS counts while main power is present. -/
def execOperatingSecond (s : State) : Host.Outcome State Fault Refusal :=
  .next (if s.pw.main then { s with dev := { s.dev with seconds := (s.dev.seconds + 1) % 2 ^ 32 } } else s)

/-- COUNTER_COPY: both counts and the battery tick go to management's parameter sectors. -/
def execCounterCopy (s : State) : Host.Outcome State Fault Refusal :=
  .next (if mgmtServes s then onMg (fun m => { m with copy := some (s.dev.seconds, s.dev.cycles, s.dev.tick) }) s else s)

/-- FREEZE: a write of EV_CTRL with FREEZE set. -/
def execFreeze (value : Word) (s : State) : Host.Outcome State Fault Refusal := .next (evCtrlWrite (value ||| 2) s)

/-- UNFREEZE: a write of EV_CTRL with UNFREEZE set. -/
def execUnfreeze (value : Word) (s : State) : Host.Outcome State Fault Refusal := .next (evCtrlWrite (value ||| 4) s)

/-- FREEZE_EXPIRY. -/
def execFreezeExpiry (s : State) : Host.Outcome State Fault Refusal := .next (freezeExpiry s)

/-- EV_LOG_SELECT: a write of EV_CTRL. -/
def execEvLogSelect (value : Word) (s : State) : Host.Outcome State Fault Refusal := .next (evCtrlWrite value s)

/-- EV_DATA_READ: a read of one of the eight words. -/
def execEvDataRead (word : Fin 8) (s : State) : Host.Outcome State Fault Refusal := .next (evDataRead word.val s)

/-- CLASS_GET. -/
def execClassGet (s : State) : Host.Outcome State Fault Refusal := .next (onCommand 0x0050 classGet s)

/-- CLASS_SET. -/
def execClassSet (s : State) : Host.Outcome State Fault Refusal := .next (onCommand 0x0051 classSet s)

/-- LOG_READ. -/
def execLogRead (s : State) : Host.Outcome State Fault Refusal := .next (onCommand 0x0052 logRead s)

/-- STATS: EV_CTRL to EV_SECONDS in their order. -/
def execStats (s : State) : Host.Outcome State Fault Refusal := .next (onCommand 0x0053 (fun _ s => answer (evWindow s) s) s)

/-- PINNED_CLEAR. -/
def execPinnedClear (s : State) : Host.Outcome State Fault Refusal := .next (onCommand 0x0054 pinnedClear s)

/-- EVENT_PORT_CRUMB: the channel's firmware writes a crumb. -/
def execEventPortCrumb (ch : Ch) (code : Half) (p0 p1 p2 p3 : Word) (s : State) : Host.Outcome State Fault Refusal :=
  .next (onChan ch (fun ch d c => fileCrumb ch d code.toNat p0.toNat p1.toNat p2.toNat p3.toNat c) s)

/-- EVENT_PORT_DELIVER. -/
def execEventPortDeliver (ch : Ch) (s : State) : Host.Outcome State Fault Refusal := .next (deliverPort ch s)

/-- AON_QUEUE_DELIVER. -/
def execAonQueueDeliver (s : State) : Host.Outcome State Fault Refusal := .next (deliverAon s)

end Sys2Proof.Machine
end

