-- ==== Sys2Proof/Machine/TagOps.lean ====
section
/-! DEFINITION. What the tag's commands share: frames, replies, counter records, tag memory, the transit ring, and what
management keeps of it (R492 to R517). -/

namespace Sys2Proof.Machine

/-- The tag changed. -/
def onTag (f : Tag → Tag) (s : State) : State := { s with nf := f s.nf }

/-- UID: DEV_SERIAL, fused into the keep die (R496). -/
def tagUid : Bytes := leBytes 8 Config.serial.toNat

/-- The CRC of a frame appended, low byte first (R492). -/
def withCrc (b : Bytes) : Bytes := b ++ leBytes 2 (crc16 b)

/-- A reader frame of a command: at most 128 bytes, its CRC good, its body after the command byte; none when it is not
one. -/
def frameBody (code : Nat) (f : Bytes) : Option Bytes :=
  let b := f.take (f.length - 2)
  if 3 ≤ f.length ∧ f.length ≤ 128 ∧ f.drop (f.length - 2) = leBytes 2 (crc16 b) ∧ fieldLE b 0 1 = code then some (b.drop 1) else none

/-- An immediate reply, at T1. -/
def replyNow (b : Bytes) (t : Tag) : Tag := { t with sent := withCrc b }

/-- A deferred reply with its T_D in µs (R493). -/
def replyBy (td : Nat) (b : Bytes) (t : Tag) : Tag := { t with reply := some (withCrc b, td) }

/-- The handle as sent. -/
def Tag.handleBytes (t : Tag) : Bytes := leBytes 2 t.handle

/-- The error reply (R498). -/
def errorReply (code : Nat) (t : Tag) : Tag := replyNow (t.handleBytes ++ [byte code]) t

/-- A reader frame of a command reaches a tag that is not preparing a reply (R493); its body. -/
def onFrame (code : Nat) (f : Bytes) (g : Bytes → State → State) (s : State) : State :=
  if !s.nf.field ∨ s.nf.reply.isSome then s
  else match frameBody code f with
    | some b => g b s
    | none => s

/-- States that hold a handle. -/
def Tag.held (t : Tag) : Bool := t.st == .active || t.st == .opened || t.st == .secured

/-- A frame that carries the tag's own handle, in a state that holds one: its body after the handle, the exchange of
AUTH_START that the frame may follow, and the tag with none. In another state than those listed it answers STATE (R498);
a READY tag that has replied in its slot takes no ACK after it (R494). -/
def onHandle (code : Nat) (states : List TagState) (f : Bytes) (g : Bytes → Option (Bytes × Bytes) → State → State) (s : State) : State :=
  onFrame code f (fun b s =>
    if !s.nf.held then onTag (fun t => { t with replied := false }) s
    else if fieldLE b 0 2 ≠ s.nf.handle ∨ b.length < 2 then s
    else
      let a := s.nf.auth
      let s := onTag (fun t => { t with auth := none }) s
      if states.contains s.nf.st then g (b.drop 2) a s else onTag (errorReply 0xE1) s) s

/-- A counter record as stored (R506). -/
def TagCount.toBytes (c : TagCount) : Bytes :=
  let b := leBytes 4 c.seq ++ leBytes 2 c.inv ++ leBytes 2 c.authFails ++ leBytes 2 c.dtFails ++ zeros 2 ++ leBytes 8 c.nonce ++
    leBytes 4 c.authTotal ++ leBytes 4 c.noteSeq ++ zeros 2
  b ++ leBytes 2 (crc16 b)

/-- A new counter record in the other copy (R507). -/
def countTo (f : TagCount → TagCount) (t : Tag) : Tag :=
  let n := f t.count
  { t with older := t.count, count := { n with seq := (t.count.seq + 1) % 2 ^ 32 } }

/-- The tag's 4 KiB memory as NF_MEM_DATA and the mailbox show it: the key area reads 0 (R506, R515). -/
def Tag.memory (t : Tag) : Bytes :=
  let a := if t.count.seq % 2 = 0 then t.count else t.older
  let b := if t.count.seq % 2 = 0 then t.older else t.count
  padTo 64 t.identity ++ a.toBytes ++ b.toBytes ++ zeros 128 ++ padTo 256 t.compat ++ (t.notes.map (padTo 128)).flatten

/-- K_T and K_N unwrap: KEY_OK (R500). -/
def keyOk (s : State) : Bool := s.tp.battery && s.mg.kek.isSome && s.nf.wrapped && s.nf.kt.isSome && s.nf.kn.isSome

/-- A transit sample by index; an empty slot reads 0xFFFF. -/
def Tag.sample (t : Tag) (i : Nat) : Nat := ((t.ring.find? fun p => p.1 == i % 4096).map (·.2)).getD 0xFFFF

/-- A ring slot written. -/
def ringSet (i v : Nat) : List (Nat × Nat) → List (Nat × Nat)
  | [] => [(i, v)]
  | p :: ps => if i < p.1 then (i, v) :: p :: ps else if i = p.1 then (i, v) :: ps else p :: ringSet i v ps

/-- The header and data of READ_TRANSIT (R513). -/
def transitData (start n : Nat) (s : State) : Bytes :=
  let t := s.nf
  let head := leBytes 2 t.writeIx ++ [byte (b2n t.wrappedRing + 2 * b2n (!s.tp.battery)), byte t.runs.length] ++ leBytes 8 t.lastTick
  if n = 0 then head ++ (t.runs.map fun r => leBytes 2 r.1 ++ leBytes 8 r.2).flatten ++ ones (160 - 10 * t.runs.length)
  else head ++ ((List.range n).map fun k => leBytes 2 (t.sample (start + k))).flatten

/-- Slot of the newest committed note. -/
def newestNote (t : Tag) : Option Nat :=
  t.notes.findIdx? fun n => fieldLE n 127 1 == 0xA5 && fieldLE n 80 4 == t.count.noteSeq

/-- An interrupt bit of NF_IRQ. -/
def tagIrq (n : Nat) (t : Tag) : Tag := { t with irq := setBit t.irq n true }

/-- An event of the tag that management files and signals while it runs (R516, R517): its crumb, its source, and the copy
of the counter record brought up to date. -/
def tagEvent (crumb : Option (Nat × Nat × Nat × Nat)) (source : Option Nat) (s : State) : State :=
  if !mgmtServes s then s
  else
    let s := onTag (fun t => { t with copied := t.count }) s
    let s := match crumb with
      | some (code, p0, p1, p2) => mgCrumb 0x15 code p0 p1 p2 0 s
      | none => s
    match source with
    | some v => raiseFn0 v s
    | none => s

/-- The identity block as management writes it (R506). -/
def identityBlock (s : State) : Bytes :=
  let b := tagUid ++ leBytes 2 0x0880 ++ [byte s.dev.enabled, byte (b2n Config.gradeE), byte s.dev.lifecycle] ++ zeros 3 ++ leBytes 4 (fwWord s.mg.image) ++
    leBytes 2 s.dev.member ++ [byte s.tp.marks, 0] ++ leBytes 4 s.dev.seconds ++ leBytes 3 s.dev.cycles ++ zeros 31
  b ++ leBytes 2 (crc16 b)

/-- Management writes the identity block, at each boot and each lifecycle change. -/
def writeIdentity (s : State) : State := onTag (fun t => { t with identity := identityBlock s }) s

/-- OFFLINE_SUMMARY at a management boot (R517). -/
def offlineSummary (s : State) : State :=
  let c := s.nf.count
  let k := s.nf.copied
  let sessions := c.authTotal - k.authTotal
  let fails := c.authFails - k.authFails
  let dt := c.dtFails - k.dtFails
  let notes := c.noteSeq - k.noteSeq
  if sessions + fails + dt + notes = 0 then s
  else mgCrumb 0x15 0x2805 sessions fails dt notes (onTag (fun t => { t with copied := t.count }) s)

/-- NF_STAT (R515). -/
def nfStat (s : State) : Nat :=
  let t := s.nf
  let st : Nat := match t.st with
    | .idle => 0
    | .ready => 1
    | .active => 2
    | .halted => 3
    | .opened => 4
    | .secured => 5
  b2n t.field + 2 * b2n t.session.isSome + 4 * b2n (keyOk s) + 8 * b2n s.tp.battery + 16 * st + 128 * b2n t.wake

end Sys2Proof.Machine
end

