-- ==== Sys2Proof/Machine/Sensors.lean ====
section
/-! DEFINITION. Management's sensors, telemetry and history (R397 to R400). -/

namespace Sys2Proof.Machine

/-- Nominal value of a sensor from 20 on: mV of a supply, Hz of a clock (R397). -/
def sensorNominal (n : Nat) : Int :=
  if n ≤ 23 then 750
  else if n ≤ 25 then 850
  else if n = 26 then 900
  else if n = 27 then 1200
  else if n = 28 then 1800
  else if n = 29 then 3300
  else if n = 30 then 1200
  else if n = 31 then 2500
  else if n = 32 then 32768
  else if n = 33 then 100000000
  else if n = 34 then 200000000
  else 400000000

/-- Default thresholds (R398): 10 °C inside the ordered range, ±5 % of nominal, ±1 % for clocks; a fraction of a unit is
taken away from nominal. -/
def defaultThreshold (n : Nat) : Int × Int :=
  if n < 20 then if Config.gradeE then (160, 1360) else (-480, 1520)
  else
    let k : Int := if n < 32 then 5 else 1
    let v := sensorNominal n
    (v * (100 - k) / 100, (v * (100 + k) + 99) / 100)

/-- The thresholds in force. -/
def Sensor.threshold (n : Nat) (x : Sensor) : Int × Int := x.thr.getD (defaultThreshold n)

/-- Whether a sample lies back inside by 2 °C, 1 % or 0.2 % of nominal (R398). -/
def backInside (n : Nat) (t : Int × Int) (v : Int) : Bool :=
  if n < 20 then decide (t.1 + 32 ≤ v ∧ v ≤ t.2 - 32)
  else
    let k : Int := if n < 32 then 10 else 2
    decide (sensorNominal n * k ≤ 1000 * (v - t.1) ∧ sensorNominal n * k ≤ 1000 * (t.2 - v))

/-- A value as the history keeps it: signed ppm from nominal for a clock, within 16 bits (R400). -/
def historyValue (n : Nat) (v : Int) : Int :=
  let x := if n < 32 then v else (v - sensorNominal n) * 1000000 / sensorNominal n
  max (-32768) (min 32767 x)

/-- The thresholds a sample is at or beyond: 5 the low one, 8 the high one, 1 none. -/
def sensorSide (t : Int × Int) (v : Int) : Nat := if v ≤ t.1 then 5 else if t.2 ≤ v then 8 else 1

/-- One sensor sampled (R397, R398). -/
def sampleSensor (n : Nat) (v : Int) (x : Sensor) : Sensor :=
  let t := x.threshold n
  let side := sensorSide t v
  let warn := side != 1 || (x.warn && !backInside n t v)
  let st := if side ≠ 1 then side else if warn then x.pldm else 1
  let h := historyValue n v
  { x with
    sample := v, warn := warn, pldm := st, pldmPrev := if st = x.pldm then x.pldmPrev else x.pldm
    low := if x.count = 0 then h else min x.low h, high := if x.count = 0 then h else max x.high h
    sum := x.sum + h, count := x.count + 1 }

/-- A signed value in `n` bytes, little-endian. -/
def leInt (n : Nat) (v : Int) : Bytes := leBytes n (v % (2 ^ (8 * n) : Nat)).toNat

/-- SMB_ALERT_N deasserts once every WARN bit is clear and the sideband has read the sensor state (R398). -/
def settleAlert (s : State) : State :=
  let sd := s.mg.side
  if sd.alert ∧ sd.alertRead ∧ ¬ (s.mg.sensors.any fun x => x.warn) then
    onMg (fun m => { m with side := { m.side with alert := false, alertRead := false } }) s
  else s

/-- A WARN bit has been set: crumb, source 2, SMB_ALERT_N. -/
def sensorWarned (n : Nat) (x : Sensor) (s : State) : State :=
  let t := x.threshold n
  let p2 := if x.sample ≤ t.1 then t.1 else t.2
  let s := mgCrumb 0x18 0x2200 n (x.sample % 4294967296).toNat (p2 % 4294967296).toNat 0 s
  raiseFn0 2 (onMg (fun m => { m with side := { m.side with alert := true, alertRead := false } }) s)

/-- SENSOR_SAMPLE: the 36 values read. -/
def sensorSample (values : List Int) (s : State) : State :=
  if !mgmtServes s then s
  else
    let old := s.mg.sensors
    let step (p : Sensor × Nat) : Sensor := match values[p.2]? with
      | some v => sampleSensor p.2 v p.1
      | none => p.1
    let new := old.zipIdx.map step
    let s := onMg (fun m => { m with sensors := new }) (raiseMg 7 s)
    settleAlert (((old.zip new).zipIdx.filter fun p => p.1.2.warn && !p.1.1.warn).foldl (fun s p => sensorWarned p.2 p.1.2 s) s)

/-- WARN bits of all sensors. -/
def warnBits (m : Mgmt) : Nat := m.sensors.zipIdx.foldl (fun w p => if p.1.warn then setBit w p.2 true else w) 0

/-- The telemetry record (R399); the entries of an incompatible channel read 0 (R416). -/
def telemetryRecord (number : Nat) (s : State) : Bytes :=
  let shown (p : Channel × Nat) (v : Nat) : Nat := if bit s.mg.incompat p.2 then 0 else v
  let chans := s.chans.toList.zipIdx
  let b := leBytes 4 number ++ leBytes 4 s.dev.seconds ++ leBytes 3 s.dev.cycles ++ [byte s.dev.lifecycle] ++
    ((s.mg.sensors.take 32).map fun x => leInt 2 x.sample).flatten ++ ((s.mg.sensors.drop 32).map fun x => leInt 4 x.sample).flatten ++
    leBytes 8 (warnBits s.mg) ++ (chans.map fun p => byte (shown p (chStateCode p.1.state))) ++
    (chans.map fun p => leBytes 2 (shown p p.1.jr.entries.length)).flatten ++
    [byte s.mg.update.state, byte (b2n (s.mg.incompat != 0))] ++ leBytes 2 s.mg.incompat ++ zeros 100
  b ++ leBytes 4 (crc32 b)

/-- TELEMETRY_PUBLISH. -/
def publishTelemetry (s : State) : State :=
  if !mgmtServes s then s
  else
    let seq := (s.mg.tmSeq + 2) % 2 ^ 32
    let r := telemetryRecord (seq / 2) s
    let s := onMg (fun m => { m with tmSeq := seq, record := r }) s
    if s.mg.tmIrq then raiseFn0 1 s else s

/-- The history entry of one sensor: minimum, maximum, mean over the interval. -/
def historyEntry (x : Sensor) : Bytes :=
  leInt 2 x.low ++ leInt 2 x.high ++ leInt 2 (if x.count = 0 then 0 else x.sum / x.count)

/-- SENSOR_HISTORY_APPEND (R400): a filled sector has the other one erased. -/
def appendHistory (s : State) : State :=
  if !mgmtServes s then s
  else
    let b := padTo 508 (s.mg.record.take 11 ++ (s.mg.sensors.map historyEntry).flatten)
    let all := (b ++ leBytes 4 (crc32 b)) :: s.mg.history
    let fresh (x : Sensor) : Sensor := { x with low := 0, high := 0, sum := 0, count := 0 }
    onMg (fun m => { m with
      history := if 256 ≤ all.length then all.take 128 else all
      sensors := m.sensors.map fresh }) s

/-- A signed 32-bit value of a payload. -/
def fieldInt (p : Bytes) (off : Nat) : Int := (BitVec.ofNat 32 (fieldLE p off 4)).toInt

/-- SENSOR_CONFIG: the sensor in byte 0, low and high threshold at 4 and 8, in the unit of telemetry. -/
def sensorConfig (p : Bytes) (s : State) : State :=
  let n := fieldLE p 0 1
  if 36 ≤ n ∨ fieldInt p 8 ≤ fieldInt p 4 then refuse 0x0102 s
  else answer [] (onMg (fun m => { m with sensors := m.sensors.modify n fun x => { x with thr := some (fieldInt p 4, fieldInt p 8) } }) s)

/-- SENSOR_HISTORY: the skip count at 0; the response holds the count at 0 and the records from 16. -/
def sensorHistory (p : Bytes) (s : State) : State :=
  let got := (s.mg.history.drop (fieldLE p 0 4)).take 7
  answer (leBytes 2 got.length ++ zeros 14 ++ got.flatten) s

/-- SENSOR_SAMPLE. -/
def execSensorSample (values : List Int) (s : State) : Host.Outcome State Fault Refusal := .next (sensorSample values s)

/-- TELEMETRY_PUBLISH. -/
def execTelemetryPublish (s : State) : Host.Outcome State Fault Refusal := .next (publishTelemetry s)

/-- SENSOR_HISTORY_APPEND. -/
def execSensorHistoryAppend (s : State) : Host.Outcome State Fault Refusal := .next (appendHistory s)

/-- SENSOR_CONFIG. -/
def execSensorConfig (s : State) : Host.Outcome State Fault Refusal := .next (onCommand 0x0010 sensorConfig s)

/-- SENSOR_HISTORY. -/
def execSensorHistory (s : State) : Host.Outcome State Fault Refusal := .next (onCommand 0x0011 sensorHistory s)

end Sys2Proof.Machine
end

