-- ==== Sys2Proof/Machine/Update.lean ====
section
/-! DEFINITION. Firmware update over the mailbox, and what it shares with PLDM (R23, R408 to R415). -/

namespace Sys2Proof.Machine

/-- The header, body and signature of an image as written. -/
def parseHeader (b : Bytes) : FwHeader :=
  { component := fieldLE b 6 2, major := fieldLE b 8 1, minor := fieldLE b 9 1, build := fieldLE b 10 2, ifEpoch := fieldLE b 12 2
    otherMin := fieldLE b 14 2, otherMax := fieldLE b 16 2, jformats := fieldLE b 18 2, svn := fieldLE b 20 4, len := fieldLE b 24 4
    featReq := (List.range 7).map fun k => fieldLE b (32 + 4 * k) 4, minStep := fieldLE b 60 1 }

/-- Whether the fixed parts of a header are as R408 lays them out. -/
def headerShape (component : Nat) (b : Bytes) : Bool :=
  slice b 0 4 == ascii "TFWI" && fieldLE b 4 2 == 1 && fieldLE b 6 2 == component && fieldLE b 20 4 ≤ 64 &&
  b.length == 256 + fieldLE b 24 4 + 96 && slice b 28 4 == zeros 4 && slice b 61 3 == zeros 3 && slice b 112 144 == zeros 144

/-- A written image: its header, its signature over the header, its digest over the body. -/
def parseImage (component : Nat) (b : Bytes) : FwImage :=
  let n := fieldLE b 24 4
  let body := slice b 256 n
  { hdr := parseHeader b
    sigOk := headerShape component b && ecdsaVerify .p384 Config.firmwareKey (sha384 (slice b 0 256)) (slice b (256 + n) 96)
    digestOk := sha384 body == slice b 64 48
    body := body }

/-- The checks of UPDATE_VERIFY: those of R409, the fuse count and the journal excepted, then the running images of the
other component (R410, R414, R415). -/
def verifyImage (component : Nat) (i : FwImage) (s : State) : Option Nat :=
  let h := i.hdr
  let missing := h.featReq.zipIdx.any fun p => p.1 &&& (featWord (component == 1) p.2).toNat != p.1
  if !i.sigOk ∨ !i.digestOk then some 0x0B00
  else if 0xB1 < h.minStep ∨ missing then some 0x0B02
  else
    let ok := if component = 1 then s.chans.toList.all fun c => (c.image.map fun x => compatible x h).getD true
      else (s.mg.image.map fun m => compatible h m).getD true
    if ok then none else some 0x0B02

/-- The channels a session names. -/
def targets (u : UpdateSession) (ch : Ch) : Bool := u.component == 0x10 && bit u.mask ch.val

/-- The slot that is not ACTIVE loses its image. -/
def FwSlots.eraseOther (f : FwSlots) : FwSlots := { f.setImage (!f.active) none with other := .empty }

/-- The slots of every target of the session changed. -/
def onTargets (f : FwSlots → FwSlots) (s : State) : State :=
  let u := s.mg.update
  let s := onEvery (fun ch _ c => if targets u ch then { c with fw := f c.fw } else c) s
  if u.component = 1 then onMg (fun m => { m with fw := f m.fw }) s else s

/-- The banks of the channels of a mask or of management, with their slots, changed over the update ports (R23, R394). -/
def onPorts (component mask : Nat) (f : FwSlots → NvBank → NvBank) (s : State) : State :=
  let s := onEvery (fun ch _ c => if component = 0x10 ∧ bit mask ch.val then { c with nv := f c.fw c.nv } else c) s
  if component = 1 then { s with mgu := { s.mgu with nv := f s.mg.fw s.mgu.nv } } else s

/-- A bank whose own command runs, or whose erase is suspended: programs and erases of the port wait behind it (R366). -/
def NvBank.occupied (b : NvBank) : Bool := b.busy.isSome || b.susp.isSome

def portsWait (component mask : Nat) (s : State) : Bool :=
  if component = 1 then s.mgu.nv.occupied
  else (List.finRange 16).any fun ch => s.dev.has ch && bit mask ch.val && (s.chan ch).nv.occupied

/-- A port operation waits: NV_STAT.PORT shows it (R366, R367). -/
def portWaits (component mask : Nat) (s : State) : State := onPorts component mask (fun _ b => { b with port := b.occupied }) s

/-- A port operation ends (R395). -/
def portEnds (component mask : Nat) (f : FwSlots → NvBank → NvBank) (s : State) : State :=
  raiseMg 18 (onPorts component mask (fun w b => { f w b with port := false }) s)

/-- Every target channel's update port is open to management and no target is TAMPERED (R410). -/
def portsOpen (component mask : Nat) (s : State) : Bool :=
  component == 1 || (List.finRange 16).all fun ch =>
    !bit mask ch.val || ((s.chan ch).updatePort && (s.chan ch).state != .tampered && !bit s.tp.tampered ch.val)

/-- Management requests update grants of the channels whose ports are closed (R23, R291). -/
def requestPorts (mask : Nat) (s : State) : State :=
  onEvery (fun ch _ c => if bit mask ch.val && !c.updatePort then raiseCause 15 c else c) s

/-- The largest image of a component. -/
def imageMax (component : Nat) : Nat := if component = 1 then 262144 else 524288

/-- A session opened, its targets' inactive slots erased; the status when it cannot be. -/
def openSession (pldm : Bool) (component mask len : Nat) (s : State) : Nat × State :=
  if (s.mg.update.state ≠ 0 ∧ s.mg.update.state ≠ 5) ∨ (s.mg.update.pldm ∧ !pldm) then (0x0B03, s)
  else if s.mg.romOnly ∧ component ≠ 1 then (0x0A03, s)
  else if (component ≠ 1 ∧ component ≠ 0x10) ∨ (component = 0x10 ∧ mask = 0) then (0x0102, s)
  else if len < 352 ∨ imageMax component < len then (0x0105, s)
  else if !portsOpen component mask s then (0x0B04, requestPorts mask s)
  else
    let u : UpdateSession := { pldm := pldm, component := component, mask := if component = 1 then 0x10000 else mask, length := len
                               compNamed := pldm, maxTransfer := s.mg.update.maxTransfer, agent := s.mg.update.agent, pldmState := s.mg.update.pldmState, pldmPrev := s.mg.update.pldmPrev }
    let s := portEnds component mask (fun w b => b.eraseSlot (component == 1) (!w.active)) s
    (0, sessionTo 1 (onTargets FwSlots.eraseOther (onMg (fun m => { m with update := u }) s)))

/-- The next piece of the image written: each page of the slots is programmed once its bytes are there. -/
def writePiece (b : Bytes) (s : State) : State :=
  let u := s.mg.update
  let s := portEnds u.component u.mask (fun w n => n.writeSlot (u.component == 1) (!w.active) u.length u.data.length (u.data ++ b)) s
  onMg (fun m => { m with update := { m.update with data := m.update.data ++ b } }) s

/-- The image that a target's slot reads back (R410). -/
def slotImage (u : UpdateSession) (w : FwSlots) (n : NvBank) : FwImage :=
  parseImage u.component (n.readSlot (u.component == 1) (!w.active) u.length)

/-- The images of the targets' slots. -/
def slotImages (u : UpdateSession) (s : State) : List FwImage :=
  if u.component = 1 then [slotImage u s.mg.fw s.mgu.nv]
  else (s.enabledChannels.filter (targets u)).map fun ch => slotImage u (s.chan ch).fw (s.chan ch).nv

/-- A verified image entered as the PENDING one. -/
def FwSlots.setPending (i : FwImage) (w : FwSlots) : FwSlots := { w.setImage (!w.active) (some i) with other := .pending }

/-- Each written slot read back and checked: VERIFIED with the slots PENDING, or FAILED with a status. -/
def verifySession (s : State) : Nat × State :=
  let u := s.mg.update
  match (slotImages u s).findSome? fun i => verifyImage u.component i s with
  | some n => (n, sessionFailed s)
  | none =>
    let s := onEvery (fun ch _ c => if targets u ch then { c with fw := c.fw.setPending (slotImage u c.fw c.nv) } else c) s
    (0, sessionTo 2 (onMg (fun m => if u.component = 1 then { m with fw := m.fw.setPending (slotImage u m.fw s.mgu.nv) } else m) s))

/-- The verified slots marked TRIAL; a channel's first boot of one needs management's confirmation (R21, R410). -/
def markTrial (s : State) : State :=
  let u := s.mg.update
  let s := onTargets (fun f => { f with other := .trial }) s
  let s := onEvery (fun ch _ c => if targets u ch then { c with confirmSlot := true } else c) s
  sessionTo 3 (onMg (fun m => { m with update := { m.update with arrived := 0 } }) s)

/-- Management takes up its TRIAL slot at once (R411). -/
def takeUpOwn (s : State) : State := if s.mg.update.component = 1 then managementReset .warm true s else s

/-- The session ended, the written slots EMPTY. -/
def abortSession (s : State) : State :=
  let s := sessionTo 0 (onTargets FwSlots.eraseOther s)
  onMg (fun m => { m with update := {} }) s

/-- SVN of the image in a target's TRIAL slot. -/
def FwSlots.trialSvn (f : FwSlots) : Nat := ((f.image (!f.active)).map (·.hdr.svn)).getD 0

/-- SVN of the session's image. -/
def sessionSvn (s : State) : Nat :=
  let u := s.mg.update
  if u.component = 1 then s.mg.fw.trialSvn
  else (((List.finRange 16).filter (targets u)).map fun ch => (s.chan ch).fw.trialSvn).foldl max 0

/-- Whether an enabled channel outside the mask runs an image of lower SVN than the one that raises CH_SVN (R410). -/
def svnHeld (s : State) : Bool :=
  let u := s.mg.update
  let n := sessionSvn s
  u.component == 0x10 && s.mg.chSvn < n && (List.finRange 16).any fun ch =>
    !bit u.mask ch.val && (((s.chan ch).image.map fun h => decide (h.svn < n)).getD false)

/-- The TRIAL slots made ACTIVE, the fuses raised (R410). -/
def commitSession (s : State) : State :=
  let n := sessionSvn s
  let u := s.mg.update
  let s := onTargets (fun f => { f with active := !f.active, other := .empty }) s
  let s := onMg (fun m => if u.component = 1 then { m with mgSvn := max m.mgSvn n } else { m with chSvn := max m.chSvn n }) s
  onMg (fun m => { m with update := {} }) (sessionTo 0 s)

/-- A mailbox command of the session: PLDM's is another path (R410). -/
def onMailboxSession (states : List Nat) (f : State → State) (s : State) : State :=
  if s.mg.update.pldm ∨ !states.contains s.mg.update.state then refuse 0x0B03 s else f s

/-- The answer a status gives. -/
def answerStatus (r : Nat × State) : State := if r.1 = 0 then answer [] r.2 else refuse r.1 r.2

/-- UPDATE_BEGIN: component at 0, mask at 2, image length at 4. -/
def updateBegin (p : Bytes) (s : State) : State :=
  let r := openSession false (fieldLE p 0 2) (fieldLE p 2 2) (fieldLE p 4 4) s
  if r.1 = 0 ∧ portsWait (fieldLE p 0 2) (fieldLE p 2 2) s then portWaits (fieldLE p 0 2) (fieldLE p 2 2) s else answerStatus r

/-- UPDATE_DATA: the offset at 0, the piece from 16. -/
def updateData (p : Bytes) (s : State) : State :=
  let u := s.mg.update
  let b := p.drop 16
  onMailboxSession [1] (fun s =>
    if fieldLE p 0 4 ≠ u.data.length then refuse 0x0B03 s
    else if b.isEmpty ∨ u.length < u.data.length + b.length then refuse 0x0105 s
    else if !portsOpen u.component u.mask s then refuse 0x0B04 s
    else if portsWait u.component u.mask s then portWaits u.component u.mask s
    else answer [] (writePiece b s)) s

/-- UPDATE_VERIFY. -/
def updateVerify (_ : Bytes) (s : State) : State :=
  let u := s.mg.update
  onMailboxSession [1] (fun s =>
    if u.data.length ≠ u.length then refuse 0x0B03 s
    else if !portsOpen u.component u.mask s then refuse 0x0B04 s
    else if portsWait u.component u.mask s then portWaits u.component u.mask s
    else answerStatus (verifySession s)) s

/-- UPDATE_ACTIVATE. -/
def updateActivate (_ : Bytes) (s : State) : State :=
  onMailboxSession [2] (fun s => takeUpOwn (answer [] (markTrial s))) s

/-- UPDATE_COMMIT. -/
def updateCommit (_ : Bytes) (s : State) : State :=
  onMailboxSession [4] (fun s => if svnHeld s then refuse 0x0B03 s else answer [] (commitSession s)) s

/-- UPDATE_REVERT: the slots are PENDING again, so that the next reset of each target boots its old slot. -/
def updateRevert (_ : Bytes) (s : State) : State :=
  onMailboxSession [3, 4] (fun s => answer [] (sessionTo 2 (onTargets (fun f => { f with other := .pending }) s))) s

/-- UPDATE_ABORT. -/
def updateAbort (_ : Bytes) (s : State) : State := onMailboxSession [1, 2, 3, 4, 5] (fun s => answer [] (abortSession s)) s

/-- UPDATE_STATUS: state at 0, path at 1, component at 2, mask at 4, length at 8, bytes received at 12, targets arrived at
16. -/
def updateStatus (_ : Bytes) (s : State) : State :=
  let u := s.mg.update
  answer ([byte u.state, byte (b2n u.pldm)] ++ leBytes 2 u.component ++ leBytes 4 u.mask ++ leBytes 4 u.length ++ leBytes 4 u.data.length ++
    leBytes 4 u.arrived) s

/-- Whether a channel of the session has failed its trial (R412): it has begun to boot since the activation, and is not
READY on its TRIAL slot 2 s after leaving reset, or has entered FAULT, RECOVERY or a double fault. -/
def channelTrialFailed (d : Device) (c : Channel) : Bool :=
  !c.confirmSlot && c.fw.other == .trial &&
  (c.state == .fault || c.state == .recovery || c.core.df.valid ||
    (decide (c.bootTick + 2000 ≤ d.tick) && !(c.state == .ready && c.fw.onTrial)))

/-- The same of management's own image. -/
def mgmtTrialFailed (s : State) : Bool :=
  s.mg.fw.other == .trial &&
  ((mgmtRuns s && !s.mg.fw.onTrial) || s.mgu.core.df.valid || (!mgmtRuns s && decide (s.mg.bootTick + 2000 ≤ s.dev.tick)))

/-- TRIAL_BOOT_TIMEOUT: 0 to 15 a channel, 16 management. A channel boots its old slot after a warm reset of its own. -/
def trialTimeout (t : Core) (s : State) : State :=
  let u := s.mg.update
  if u.state ≠ 3 ∧ u.state ≠ 4 ∨ !bit u.mask t.val then s
  else if h : t.val < 16 then
    let ch : Ch := ⟨t.val, h⟩
    if channelTrialFailed s.dev (s.chan ch) then
      onChan ch (fun ch d c => if c.state = .fault then c else channelReset .warm ch d c) (sessionFailed s)
    else s
  else if mgmtTrialFailed s then sessionFailed (managementReset .warm true s)
  else s

/-- UPDATE_PORT_GRANT (R23): the channel's firmware grants an update request. -/
def grantPort (ch : Ch) (s : State) : State :=
  let c := s.chan ch
  if s.dev.has ch ∧ (c.state = .ready ∨ c.state = .recovery) ∧ mgmtRuns s ∧ !bit s.tp.tampered ch.val then setChan s ch { dropCause 15 c with updatePort := true } else s

/-- UPDATE_PORT_GRANT. -/
def execUpdatePortGrant (ch : Ch) (s : State) : Host.Outcome State Fault Refusal := .next (grantPort ch s)

/-- UPDATE_PORT_REVOKE. -/
def execUpdatePortRevoke (ch : Ch) (s : State) : Host.Outcome State Fault Refusal :=
  .next (onChan ch (fun _ _ c => { c with updatePort := false }) s)

/-- UPDATE_BEGIN. -/
def execUpdateBegin (s : State) : Host.Outcome State Fault Refusal := .next (onCommand 0x0030 updateBegin s)

/-- UPDATE_DATA. -/
def execUpdateData (s : State) : Host.Outcome State Fault Refusal := .next (onCommand 0x0031 updateData s)

/-- UPDATE_VERIFY. -/
def execUpdateVerify (s : State) : Host.Outcome State Fault Refusal := .next (onCommand 0x0032 updateVerify s)

/-- UPDATE_ACTIVATE. -/
def execUpdateActivate (s : State) : Host.Outcome State Fault Refusal := .next (onCommand 0x0033 updateActivate s)

/-- UPDATE_COMMIT. -/
def execUpdateCommit (s : State) : Host.Outcome State Fault Refusal := .next (onCommand 0x0034 updateCommit s)

/-- UPDATE_REVERT. -/
def execUpdateRevert (s : State) : Host.Outcome State Fault Refusal := .next (onCommand 0x0035 updateRevert s)

/-- UPDATE_ABORT. -/
def execUpdateAbort (s : State) : Host.Outcome State Fault Refusal := .next (onCommand 0x0036 updateAbort s)

/-- UPDATE_STATUS. -/
def execUpdateStatus (s : State) : Host.Outcome State Fault Refusal := .next (onCommand 0x0037 updateStatus s)

/-- TRIAL_BOOT_TIMEOUT. -/
def execTrialBootTimeout (target : Core) (s : State) : Host.Outcome State Fault Refusal := .next (trialTimeout target s)

end Sys2Proof.Machine
end

