-- ==== Sys2Proof/Machine/Management.lean ====
section
/-! DEFINITION. Management's boot and resets, its identity commands and the lifecycle (R394, R404 to R407, R409, R547). -/

namespace Sys2Proof.Machine

/-- Management firmware's access table: one entry a row of *Management physical map*, locked (R394). -/
def managementTable (t : AccessTable) : AccessTable :=
  let p (rights cache order : Nat) : Nat := rights + 4096 * cache + 16384 * order
  { t with
    entries := [bootEntry 0x000000 0x0FFFFF (p 5 1 1), bootEntry 0x100000 0x1FFFFF (p 3 2 0), bootEntry 0x800000 0xBFFFFF (p 1 1 0),
      bootEntry 0xF00000 0xFBFFFF (p 3 0 2), bootEntry 0xFFFF0000 0xFFFFFFFF (p 5 1 2)] ++ List.replicate 58 ({} : AtEntry) ++
      [{ last := 0x3FFFFFF, stagedLast := 0x3FFFFFF, perm := 0x8007 }]
    lockAll := true }

/-- A slot's failed check of management's image filed. -/
def filesSlots (bad : List (Bool × Nat)) (s : State) : State := bad.foldl (fun s x => mgCrumb 0x10 0x1001 1 (b2n x.1) x.2 0 s) s

/-- Management runs the image of a slot: its table, the recorder, the compatibility of every channel, the SD slot in
normal service (R519), the arrival of its own TRIAL slot. -/
def mgmtStart (slot : Bool) (i : FwImage) (torn0 torn1 : List Bytes) (s : State) : State :=
  let normal (d : SdHost) : SdHost := match d.seen with
    | some x => runSd x false d
    | none => d
  let s : State := { s with cards := { s.cards with sd := normal s.cards.sd } }
  let s := onMg (fun m => { m with
    fw := { m.fw with running := some slot }, image := some i.hdr, copy := some (s.dev.seconds, s.dev.cycles, s.dev.tick) }) s
  let s : State := { s with mgu := { s.mgu with mem := memStore s.mgu.mem 0 i.body, table := managementTable s.mgu.table, image := some i.hdr } }
  let s := mgReady 1 (mgReady 0 s)
  let s := offlineSummary (writeIdentity (recorderBoot torn0 torn1 s))
  let s := (List.finRange 16).foldl (fun s ch => checkCompat ch s) s
  let u := s.mg.update
  if s.mg.fw.onTrial ∧ u.component = 1 ∧ u.state = 3 then
    sessionArrived (onMg (fun m => { m with update := { m.update with arrived := u.mask } }) s)
  else s

/-- Management stays in its boot ROM recovery (R409). -/
def stayInRom (s : State) : State := onMg (fun m => { m with fw := { m.fw with running := none }, image := none, romOnly := true }) s

/-- MANAGEMENT_BOOT (R8, R409, R520): its bank is reached over the link. It takes a slot that passes its checks, or a recovery
object of the SD card written to the inactive slot, or the boot ROM. -/
def mgmtBoot (torn0 torn1 : List Bytes) (s : State) : State :=
  if !s.pw.main ∨ s.pw.mgHeld ∨ !s.pw.link ∨ s.dev.mgmtUp then s
  else
    let (found, bad) := bootSlot true s.mg.mgSvn false s.mg.fw s.mg.fw.order
    let s := filesSlots bad { s with dev := { s.dev with mgmtUp := true } }
    let s := onMg (fun m => { m with bootTick := s.dev.tick }) s
    match found with
    | some (b, i) => mgmtStart b i torn0 torn1 s
    | none => match (s.cards.sd.objects.find? fun o => o.1 == 1).map fun o => parseImage 1 o.2 with
      | some i =>
        let slot := !s.mg.fw.active
        let s := onMg (fun m => { m with fw := m.fw.setImage slot (some i) }) s
        match slotCheck true s.mg.mgSvn false i with
        | none => mgmtStart slot i torn0 torn1 s
        | some k => stayInRom (filesSlots [(slot, k)] s)
      | none => stayInRom s

/-- A version register of a slot. -/
def slotWord (i : Option FwImage) : Bytes := leBytes 4 (fwWord (i.map (·.hdr)))

/-- GET_INFO: DEV_ID to DEV_SERIAL, MG_FWVER, CH_FWVER and CH_IFEPOCH by channel, the slots of management and of each
channel, MG_SVN and CH_SVN. -/
def getInfo (_ : Bytes) (s : State) : State :=
  let cs := s.chans.toList
  answer (devIdentity s ++ leBytes 4 (fwWord s.mg.image) ++ (cs.map fun c => leBytes 4 (fwWord c.image) ++ leBytes 4 c.ifEpoch).flatten ++
    slotWord s.mg.fw.a ++ slotWord s.mg.fw.b ++ (cs.map fun c => slotWord c.fw.a ++ slotWord c.fw.b).flatten ++
    leBytes 4 s.mg.mgSvn ++ leBytes 4 s.mg.chSvn) s

/-- SIDEBAND_CONFIG: the 7-bit address at 0, the rate at 1: 0 100 kHz, 1 400 kHz, 2 1 MHz. -/
def sidebandConfig (p : Bytes) (s : State) : State :=
  if 127 < fieldLE p 0 1 ∨ 2 < fieldLE p 1 1 then refuse 0x0102 s
  else answer [] (onMg (fun m => { m with side := { m.side with nextAddr := fieldLE p 0 1, nextRate := fieldLE p 1 1 } }) s)

/-- A channel holds its FRK and its head-end keys (R406). -/
def holdsFleetKeys (c : Channel) : Bool :=
  c.keys.frk.isSome && [0, 1, 2, 3].all fun n => c.keys.slots.any fun p => p.1 == n && !p.2.faulty

/-- The conditions of a transition (R406). -/
def advanceAllowed (target : Nat) (authorisation : Bytes) (s : State) : Bool :=
  (s.dev.lifecycle == 3 && target == 7 && s.dev.memberValid && (s.enabledChannels.all fun ch => holdsFleetKeys (s.chan ch)) && s.tp.tampered % 65536 == 0 &&
    s.chans.toList.all fun c => c.state != .tampered) ||
  (s.dev.lifecycle == 7 && target == 0xF && authOk 0x10 authorisation s)

/-- LIFECYCLE_ADVANCE: the target at 0, an authorisation from 4; the message is answered when the blow is verified. -/
def lifecycleAdvance (p : Bytes) (s : State) : State :=
  let t := fieldLE p 0 1
  if s.mg.blow.isSome then s
  else if !advanceAllowed t (p.drop 4) s then refuse 0x0B05 s
  else
    let s := if t = 0xF then useAuth 0x10 (p.drop 4) s else s
    onMg (fun m => { m with blow := some t }) s

/-- A channel at the move to RETIRED (R407): zeroized as a tamper response would. -/
def retireChannel (ch : Ch) (d : Device) (c : Channel) : Channel := channelReset .tamper ch d (zeroizeBattery true c)

/-- LIFECYCLE_BLOW_DONE (R406, R407). -/
def blowDone (s : State) : State :=
  match s.mg.blow with
  | none => s
  | some t =>
    let old := s.dev.lifecycle
    let s := { onMg (fun m => { m with blow := none }) s with dev := { s.dev with lifecycle := t }, pw := { s.pw with warmDue := true } }
    let s := raiseFn0 4 (mgCrumb 0x10 0x0800 old t 0 0 s)
    let s := if t = 0xF then onEvery retireChannel s else s
    let s := writeIdentity (onEvery (fun _ _ c => { c with confirm := true }) s)
    match s.fn0.current with
    | some (0x0040, _) => answer [] s
    | _ => s

/-- MANAGEMENT_BOOT: torn slots met at the write points of the rolling and the pinned log. -/
def execManagementBoot (torn0 torn1 : List Bytes) (s : State) : Host.Outcome State Fault Refusal := .next (mgmtBoot torn0 torn1 s)

/-- MANAGEMENT_RESET: the causes of *Reset kinds* are the sender's. -/
def execManagementReset (s : State) : Host.Outcome State Fault Refusal :=
  .next (if s.pw.main then managementReset .warm false s else s)

/-- MGMT_WATCHDOG_EXPIRY. -/
def execMgmtWatchdogExpiry (s : State) : Host.Outcome State Fault Refusal :=
  .next (if mgmtRuns s then managementReset .warm false s else s)

/-- GET_INFO. -/
def execGetInfo (s : State) : Host.Outcome State Fault Refusal := .next (onCommand 0x0001 getInfo s)

/-- SIDEBAND_CONFIG. -/
def execSidebandConfig (s : State) : Host.Outcome State Fault Refusal := .next (onCommand 0x0020 sidebandConfig s)

/-- LIFECYCLE_ADVANCE. -/
def execLifecycleAdvance (s : State) : Host.Outcome State Fault Refusal := .next (onCommand 0x0040 lifecycleAdvance s)

/-- LIFECYCLE_BLOW_DONE. -/
def execLifecycleBlowDone (s : State) : Host.Outcome State Fault Refusal := .next (blowDone s)

end Sys2Proof.Machine
end

