-- ==== Sys2Proof/Machine/Sideband.lean ====
section
/-! DEFINITION. The sideband: MCTP packets over SMBus and PCIe VDM, MCTP control, PLDM base and PLDM monitoring (R398, R401 to
R403). The formats are those of DSP0236, DSP0240 and DSP0248. -/

namespace Sys2Proof.Machine

/-- The sideband's state changed. -/
def onSide (f : Sideband → Sideband) (s : State) : State := onMg (fun m => { m with side := f m.side }) s

/-- What a request asks: MCTP control command, or PLDM type and command. -/
inductive SideCmd where
  | control (cmd : Nat)
  | pldm (type cmd : Nat)
  deriving DecidableEq, Repr

/-- The command of a message that is a request. -/
def SideMsg.cmd (m : SideMsg) : Option SideCmd :=
  let b := m.bytes
  if !bit (fieldLE b 1 1) 7 then none
  else if fieldLE b 0 1 = 0 then some (.control (fieldLE b 2 1))
  else if fieldLE b 0 1 = 1 then some (.pldm (fieldLE b 2 1 % 64) (fieldLE b 3 1))
  else none

/-- MCTP control commands supported (R401). -/
def controlCommands : List Nat := [1, 2, 3, 4, 5]

/-- PLDM types supported (R401). -/
def pldmTypes : List Nat := [0, 2, 5]

/-- PLDM commands supported, by type (R401, *PLDM firmware update*). -/
def pldmCommands (type : Nat) : List Nat :=
  if type = 0 then [1, 2, 3, 4, 5]
  else if type = 2 then [0x11, 0x21, 0x50, 0x51]
  else if type = 5 then [0x01, 0x02, 0x10, 0x13, 0x14, 0x15, 0x16, 0x17, 0x18, 0x1A, 0x1B, 0x1C, 0x1D]
  else []

/-- Whether a request is one the part answers itself. -/
def SideCmd.served : SideCmd → Bool
  | .control c => controlCommands.contains c
  | .pldm t c => (pldmCommands t).contains c && !(t == 5 && [0x15, 0x16, 0x17, 0x18].contains c)

/-- The bytes of a request after its command. -/
def SideMsg.payload (m : SideMsg) : Bytes := m.bytes.drop (if fieldLE m.bytes 0 1 = 0 then 3 else 4)

/-- The response to a request: its header with Rq clear, a completion code, the body. -/
def SideMsg.reply (m : SideMsg) (cc : Nat) (body : Bytes) : SideMsg :=
  let n := if fieldLE m.bytes 0 1 = 0 then 3 else 4
  let head := patch (m.bytes.take n) 1 [byte (fieldLE m.bytes 1 1 % 128)]
  { m with tag := m.tag % 8, seq := 0, bytes := head ++ [byte cc] ++ body }

/-- A message put on the bus. -/
def sendSide (m : SideMsg) (s : State) : State := onSide (fun d => { d with out := d.out ++ [m], retries := 0 }) s

/-- Whether two packets belong to one message. -/
def SideMsg.sameFlow (a b : SideMsg) : Bool := a.vdm == b.vdm && a.addr == b.addr && a.eid == b.eid && a.tag == b.tag

/-- A whole message received: a request waits its turn; one for a command not supported is answered with
ERROR_UNSUPPORTED_CMD; other message types and responses are dropped. -/
def messageReceived (m : SideMsg) (s : State) : State :=
  match m.cmd with
  | some c => if c.served then onSide (fun d => { d with requests := d.requests ++ [m] }) s else sendSide (m.reply 5 []) s
  | none => s

/-- An MCTP packet: transport header of 4 bytes, then 1 to 64 bytes (R401, R403). -/
def packetReceived (vdm : Bool) (addr : Nat) (pecOk : Bool) (p : Bytes) (s : State) : State :=
  let dst := fieldLE p 1 1
  let f := fieldLE p 3 1
  let body := p.drop 4
  let som := bit f 7
  let eom := bit f 6
  let seq := bits f 5 4
  let x : SideMsg := { vdm := vdm, addr := addr, eid := fieldLE p 2 1, tag := f % 16, seq := seq, bytes := body }
  if !mgmtServes s ∨ !pecOk ∨ fieldLE p 0 1 % 16 ≠ 1 ∨ (dst ≠ 0 ∧ dst ≠ s.mg.side.eid) ∨ body.isEmpty ∨ 64 < body.length then s
  else if !eom ∧ body.length ≠ 64 then s
  else
    let s := if vdm then s else raiseMg 5 s
    let old := s.mg.side.building.find? fun m => m.sameFlow x
    let s := onSide (fun d => { d with building := d.building.filter fun m => !m.sameFlow x }) s
    let whole : Option SideMsg :=
      if som then some x
      else match old with
        | some m => if seq = (m.seq + 1) % 4 then some { x with bytes := m.bytes ++ body } else none
        | none => none
    match whole with
    | none => s
    | some m => if eom then messageReceived m s else onSide (fun d => { d with building := d.building ++ [m] }) s

/-- Serves the request in front when it carries a command (R403): one at a time, in arrival order. -/
def onRequest (c : SideCmd) (f : SideMsg → Bytes → State → State) (s : State) : State :=
  match s.mg.side.requests with
  | m :: rest => if m.cmd = some c ∧ mgmtServes s then f m m.payload (onSide (fun d => { d with requests := rest }) s) else s
  | [] => s

/-- A request answered from the state, which it leaves as it is. -/
def answerSide (c : SideCmd) (f : Bytes → State → Nat × Bytes) (s : State) : State :=
  onRequest c (fun m p s => let r := f p s; sendSide (m.reply r.1 r.2) s) s

/-- Set Endpoint ID: operations set and force; EIDs 0 and 0xFF are no endpoints. -/
def setEid (m : SideMsg) (p : Bytes) (s : State) : State :=
  let e := fieldLE p 1 1
  if 2 ≤ fieldLE p 0 1 % 4 ∨ e = 0 ∨ e = 255 then sendSide (m.reply 2 []) s
  else sendSide (m.reply 0 [0, byte e, 0]) (onSide (fun d => { d with eid := e }) s)

/-- SetTID. -/
def setTid (m : SideMsg) (p : Bytes) (s : State) : State :=
  let t := fieldLE p 0 1
  if t = 0 ∨ t = 255 then sendSide (m.reply 2 []) s
  else sendSide (m.reply 0 []) (onSide (fun d => { d with tid := t }) s)

/-- Bits of a list of numbers, in `n` bytes. -/
def bitmap (n : Nat) (xs : List Nat) : Bytes := leBytes n (xs.foldl (fun m x => setBit m x true) 0)

/-- GetSensorReading of sensor ID 1 to 36; it counts as the sideband's reading of the sensor state (R398). -/
def sensorReading (m : SideMsg) (p : Bytes) (s : State) : State :=
  let id := fieldLE p 0 2
  match (if id = 0 then none else s.mg.sensors[id - 1]?) with
  | some x =>
    let s := sendSide (m.reply 0 ([5, 0, 0, byte x.pldm, byte x.pldmPrev, byte x.pldm] ++ leInt 4 x.sample)) s
    settleAlert (onSide (fun d => { d with alertRead := true }) s)
  | none => sendSide (m.reply 0x80 []) s

/-- GetStateSensorReadings of a channel state (IDs 64 to 79) or the lifecycle (ID 80). -/
def stateReading (p : Bytes) (s : State) : Nat × Bytes :=
  let id := fieldLE p 0 2
  let show1 (v : Nat) : Nat × Bytes := (0, [1, 0, byte v, byte v, byte v])
  if id = 80 then show1 s.dev.lifecycle
  else if id < 64 then (0x80, [])
  else match s.chans.toList[id - 64]? with
    | some c => show1 (chStateCode c.state)
    | none => (0x80, [])

/-- The body of a numeric sensor PDR of sensor `n`, with its thresholds as the warning limits. -/
def numericPdr (n : Nat) (x : Sensor) : Bytes :=
  let unit : Bytes := if n < 20 then [2, 0] else if n < 32 then [5, 0xFD] else [20, 0]
  let resolution := if n < 20 then 0x3D800000 else 0x3F800000
  let t := x.threshold n
  zeros 2 ++ leBytes 2 (n + 1) ++ zeros 6 ++ [0, 0] ++ unit ++ [0, 0, 0, 0, 0, 0, 0, 1, 5] ++ leBytes 4 resolution ++ zeros 4 ++
  zeros 2 ++ [0, 0] ++ zeros 4 ++ [0x09, 0] ++ zeros 8 ++ leInt 4 (2147483647) ++ leInt 4 (-2147483648) ++ [5, 0x18] ++ zeros 12 ++
  leInt 4 t.2 ++ leInt 4 t.1

/-- The body of a state sensor PDR. -/
def statePdr (id setId states : Nat) : Bytes :=
  zeros 2 ++ leBytes 2 id ++ zeros 6 ++ [0, 0, 1] ++ leBytes 2 setId ++ [2] ++ leBytes 2 states

/-- The PDRs in record order: 36 numeric sensors, 16 channel states, the lifecycle. -/
def pdrs (s : State) : List Bytes :=
  let head (k type : Nat) (b : Bytes) : Bytes := leBytes 4 k ++ [1, byte type, 0, 0] ++ leBytes 2 b.length ++ b
  (s.mg.sensors.zipIdx.map fun p => head (p.2 + 1) 2 (numericPdr p.2 p.1)) ++
  ((List.range 16).map fun k => head (37 + k) 4 (statePdr (64 + k) 0x8000 0x07FE)) ++ [head 53 4 (statePdr 80 0x8001 0x808B)]

/-- GetPDRRepositoryInfo. -/
def pdrInfo (_ : Bytes) (s : State) : Nat × Bytes :=
  let all := pdrs s
  let sizes := all.map (·.length)
  (0, [0] ++ zeros 26 ++ leBytes 4 all.length ++ leBytes 4 sizes.sum ++ leBytes 4 (sizes.foldl max 0) ++ [0])

/-- GetPDR: a record in one part, handle 0 the first. -/
def getPdr (p : Bytes) (s : State) : Nat × Bytes :=
  let k := max 1 (fieldLE p 0 4)
  let all := pdrs s
  match all[k - 1]? with
  | some b =>
    let want := b.take (fieldLE p 9 2)
    (0, leBytes 4 (if k < all.length then k + 1 else 0) ++ zeros 4 ++ [5] ++ leBytes 2 want.length ++ want)
  | none => (0x82, [])

/-- SMBUS_RETRY: the packet being sent got no acknowledgement; the third failure drops its message (R402). -/
def smbusRetry (s : State) : State :=
  let d := s.mg.side
  match d.out.reverse.find? fun m => !m.vdm with
  | none => s
  | some m =>
    if !mgmtServes s then s
    else if d.retries + 1 < 3 then onSide (fun d => { d with retries := d.retries + 1 }) s
    else
      let s := onSide (fun d => { d with retries := 0, failures := d.failures + 1, out := (d.out.reverse.erase m).reverse }) (raiseMg 5 s)
      raiseFn0 8 (mgCrumb 0x10 0x2000 m.addr s.mg.side.failures 0 0 s)

/-- SMBUS_TIMEOUT: the bus is released; a packet in progress is given up with the message it belongs to. -/
def smbusTimeout (s : State) : State :=
  onSide (fun d => { d with building := d.building.filter fun m => m.vdm }) s

/-- SMBUS_RETRY. -/
def execSmbusRetry (s : State) : Host.Outcome State Fault Refusal := .next (smbusRetry s)

/-- SMBUS_PACKET_RECEIVE: over VDM or SMBus, the sender's bus address, whether the PEC held, the MCTP packet. -/
def execSmbusPacketReceive (vdm : Bool) (addr : Byte) (pecOk : Bool) (packet : Bytes) (s : State) : Host.Outcome State Fault Refusal :=
  .next (packetReceived vdm addr.toNat (vdm || pecOk) packet s)

/-- SMBUS_TIMEOUT. -/
def execSmbusTimeout (s : State) : Host.Outcome State Fault Refusal := .next (smbusTimeout s)

/-- SET_ENDPOINT_ID. -/
def execSetEndpointId (s : State) : Host.Outcome State Fault Refusal := .next (onRequest (.control 1) setEid s)

/-- GET_ENDPOINT_ID. -/
def execGetEndpointId (s : State) : Host.Outcome State Fault Refusal :=
  .next (answerSide (.control 2) (fun _ s => (0, [byte s.mg.side.eid, 0, 0])) s)

/-- GET_ENDPOINT_UUID: DEV_SERIAL in the last eight bytes. -/
def execGetEndpointUuid (s : State) : Host.Outcome State Fault Refusal :=
  .next (answerSide (.control 3) (fun _ _ => (0, zeros 8 ++ beBytes 8 Config.serial.toNat)) s)

/-- GET_MCTP_VERSION_SUPPORT: 1.3.1 for the base and control, 1.0.0 for PLDM. -/
def execGetMctpVersionSupport (s : State) : Host.Outcome State Fault Refusal :=
  .next (answerSide (.control 4) (fun p _ =>
    let t := fieldLE p 0 1
    if t = 255 ∨ t = 0 then (0, [1, 0xF1, 0xF3, 0xF1, 0]) else if t = 1 then (0, [1, 0xF1, 0xF0, 0xF0, 0]) else (0x80, [])) s)

/-- GET_MESSAGE_TYPE_SUPPORT. -/
def execGetMessageTypeSupport (s : State) : Host.Outcome State Fault Refusal :=
  .next (answerSide (.control 5) (fun _ _ => (0, [1, 1])) s)

/-- GETTID. -/
def execGettid (s : State) : Host.Outcome State Fault Refusal :=
  .next (answerSide (.pldm 0 2) (fun _ s => (0, [byte s.mg.side.tid])) s)

/-- SETTID. -/
def execSettid (s : State) : Host.Outcome State Fault Refusal := .next (onRequest (.pldm 0 1) setTid s)

/-- GETPLDMVERSION: 1.0.0 with its CRC-32. -/
def execGetpldmversion (s : State) : Host.Outcome State Fault Refusal :=
  .next (answerSide (.pldm 0 3) (fun p _ =>
    let v : Bytes := [0, 0xF0, 0xF0, 0xF1]
    if pldmTypes.contains (fieldLE p 5 1) then (0, zeros 4 ++ [5] ++ v ++ leBytes 4 (crc32 v)) else (0x83, [])) s)

/-- GETPLDMTYPES. -/
def execGetpldmtypes (s : State) : Host.Outcome State Fault Refusal :=
  .next (answerSide (.pldm 0 4) (fun _ _ => (0, bitmap 8 pldmTypes)) s)

/-- GETPLDMCOMMANDS. -/
def execGetpldmcommands (s : State) : Host.Outcome State Fault Refusal :=
  .next (answerSide (.pldm 0 5) (fun p _ =>
    let t := fieldLE p 0 1
    if pldmTypes.contains t then (0, bitmap 32 (pldmCommands t)) else (0x83, [])) s)

/-- GETSENSORREADING. -/
def execGetsensorreading (s : State) : Host.Outcome State Fault Refusal := .next (onRequest (.pldm 2 0x11) sensorReading s)

/-- GETSTATESENSORREADINGS. -/
def execGetstatesensorreadings (s : State) : Host.Outcome State Fault Refusal := .next (answerSide (.pldm 2 0x21) stateReading s)

/-- GETPDRREPOSITORYINFO. -/
def execGetpdrrepositoryinfo (s : State) : Host.Outcome State Fault Refusal := .next (answerSide (.pldm 2 0x50) pdrInfo s)

/-- GETPDR. -/
def execGetpdr (s : State) : Host.Outcome State Fault Refusal := .next (answerSide (.pldm 2 0x51) getPdr s)

end Sys2Proof.Machine
end

