-- ==== Sys2Proof/Machine/Pldm.lean ====
section
/-! DEFINITION. Firmware update over PLDM (R401, R410, R411): the firmware-device side of DSP0267. -/

namespace Sys2Proof.Machine

/-- The state GetStatus shows: 0 IDLE, 1 LEARN COMPONENTS, 2 READY XFER, 3 DOWNLOAD, 4 VERIFY, 5 APPLY, 6 ACTIVATE. -/
def pldmTo (n : Nat) (s : State) : State :=
  onMg (fun m => { m with update := { m.update with pldmState := n, pldmPrev := m.update.pldmState } }) s

/-- A request of the part to the update agent. -/
def askAgent (cmd : Nat) (body : Bytes) (s : State) : State :=
  let a := s.mg.update.agent
  sendSide { vdm := a.1, addr := a.2.1, eid := a.2.2, tag := 8, bytes := [1, 0x80, 5, byte cmd] ++ body } s

/-- Whether a component can be updated. -/
def componentOk (n : Nat) : Bool := n == 1 || n == 0x10

/-- QueryDeviceIdentifiers: vendor and device ID, and DEV_SERIAL as a vendor-defined descriptor. -/
def deviceIdentifiers (_ : Bytes) (_ : State) : Nat × Bytes :=
  let d : Bytes := leBytes 2 0 ++ leBytes 2 2 ++ leBytes 2 Config.vendorId.toNat ++ leBytes 2 0x0100 ++ leBytes 2 2 ++ leBytes 2 0x0880 ++
    leBytes 2 0xFFFF ++ leBytes 2 16 ++ [1, 6] ++ ascii "SERIAL" ++ leBytes 8 Config.serial.toNat
  (0, leBytes 4 d.length ++ [3] ++ d)

/-- An entry of the component parameter table: active and pending version words as comparison stamps, empty strings. -/
def componentParams (id : Nat) (active pending : Option FwHeader) : Bytes :=
  leBytes 2 0x000A ++ leBytes 2 id ++ [0] ++ leBytes 4 (fwWord active) ++ [0, 0] ++ zeros 8 ++ leBytes 4 (fwWord pending) ++ [0, 0] ++
  zeros 8 ++ leBytes 2 2 ++ zeros 4

/-- The image of a bank that waits to be activated. -/
def FwSlots.waiting (f : FwSlots) : Option FwHeader := if f.other = .empty then none else (f.image (!f.active)).map (·.hdr)

/-- GetFirmwareParameters. -/
def firmwareParameters (_ : Bytes) (s : State) : Nat × Bytes :=
  let c := s.chan 0
  (0, zeros 4 ++ leBytes 2 2 ++ [0, 0, 0, 0] ++ componentParams 1 s.mg.image s.mg.fw.waiting ++ componentParams 0x10 c.image c.fw.waiting)

/-- RequestUpdate. -/
def requestUpdate (m : SideMsg) (p : Bytes) (s : State) : State :=
  let u := s.mg.update
  if u.pldm ∨ (u.state ≠ 0 ∧ u.state ≠ 5) then sendSide (m.reply 0x81 []) s
  else if fieldLE p 0 4 < 256 then sendSide (m.reply 0x83 []) s
  else
    let new : UpdateSession := { pldm := true, maxTransfer := min 1024 (fieldLE p 0 4), agent := (m.vdm, m.addr, m.eid) }
    sendSide (m.reply 0 [0, 0, 0]) (pldmTo 1 (onMg (fun g => { g with update := new }) s))

/-- A command that needs the update mode, in one of the PLDM states given. -/
def inUpdate (states : List Nat) (m : SideMsg) (f : State → State) (s : State) : State :=
  let u := s.mg.update
  if !u.pldm then sendSide (m.reply 0x80 []) s
  else if !states.contains u.pldmState then sendSide (m.reply 0x84 []) s
  else f s

/-- PassComponentTable. -/
def passTable (m : SideMsg) (p : Bytes) (s : State) : State :=
  inUpdate [1] m (fun s =>
    let s := sendSide (m.reply 0 (if componentOk (fieldLE p 3 2) then [0, 0] else [1, 6])) s
    if fieldLE p 0 1 = 4 ∨ fieldLE p 0 1 = 5 then pldmTo 2 s else s) s

/-- UpdateComponent: the session opens, for channel firmware on every enabled channel. -/
def updateComponent (m : SideMsg) (p : Bytes) (s : State) : State :=
  inUpdate [2] m (fun s =>
    let every := 2 ^ s.dev.enabled - 1
    let r := openSession true (fieldLE p 2 2) every (fieldLE p 9 4) s
    if r.1 = 0 ∧ portsWait (fieldLE p 2 2) every s then
      onSide (fun d => { d with requests := m :: d.requests }) (portWaits (fieldLE p 2 2) every s)
    else if r.1 = 0 then pldmTo 3 (sendSide (m.reply 0 ([0, 0] ++ zeros 6)) r.2)
    else sendSide (m.reply 0 ([1, byte r.1] ++ zeros 6)) s) s

/-- The end of a download: TransferComplete, VerifyComplete, and on success ApplyComplete. -/
def downloadDone (s : State) : State :=
  let s := pldmTo 4 (askAgent 0x16 [0] s)
  let r := verifySession s
  if r.1 = 0 then pldmTo 2 (askAgent 0x18 [0, 0, 0] (pldmTo 5 (askAgent 0x17 [0] r.2)))
  else pldmTo 2 (askAgent 0x17 [1] r.2)

/-- REQUESTFIRMWAREDATA: the part asks for the next piece and writes the response (R410). -/
def requestData (response : Option Bytes) (s : State) : State :=
  let u := s.mg.update
  if !mgmtServes s ∨ !u.pldm ∨ u.pldmState ≠ 3 ∨ u.state ≠ 1 then s
  else if portsWait u.component u.mask s then portWaits u.component u.mask s
  else
    let n := min u.maxTransfer (u.length - u.data.length)
    let s := askAgent 0x15 (leBytes 4 u.data.length ++ leBytes 4 n) s
    match response with
    | none => s
    | some b =>
      if b.length ≠ n then s
      else if !portsOpen u.component u.mask s then pldmTo 2 (askAgent 0x16 [0x0A] (sessionFailed s))
      else
        let s := writePiece b s
        if u.data.length + n = u.length then downloadDone s else s

/-- ActivateFirmware: PLDM's part of the session ends; what is left of it is the mailbox's. -/
def activateFirmware (m : SideMsg) (_ : Bytes) (s : State) : State :=
  inUpdate [2] m (fun s =>
    if s.mg.update.state ≠ 2 then sendSide (m.reply 0x85 []) s
    else
      let s := pldmTo 0 (pldmTo 6 (markTrial (sendSide (m.reply 0 [0, 0]) s)))
      takeUpOwn (onMg (fun g => { g with update := { g.update with pldm := false } }) s)) s

/-- GetStatus. -/
def getStatus (_ : Bytes) (s : State) : Nat × Bytes :=
  let u := s.mg.update
  let aux : Nat := if u.state = 5 then 2 else if u.pldmState = 3 ∨ u.pldmState = 4 ∨ u.pldmState = 5 then 0 else 3
  (0, [byte u.pldmState, byte u.pldmPrev, byte aux, 0, 101, 0] ++ zeros 4)

/-- The written slots EMPTY and nothing received; the update mode stays. -/
def dropComponent (s : State) : State :=
  let u := s.mg.update
  let s := if u.state = 0 then s else abortSession s
  onMg (fun g => { g with update := { pldm := true, maxTransfer := u.maxTransfer, agent := u.agent, pldmState := u.pldmState, pldmPrev := u.pldmPrev } }) s

/-- CancelUpdateComponent. -/
def cancelComponent (m : SideMsg) (_ : Bytes) (s : State) : State :=
  inUpdate [3, 4, 5] m (fun s => sendSide (m.reply 0 []) (pldmTo 2 (dropComponent s))) s

/-- CancelUpdate. -/
def cancelUpdate (m : SideMsg) (_ : Bytes) (s : State) : State :=
  inUpdate [1, 2, 3, 4, 5, 6] m (fun s =>
    let s := pldmTo 0 (dropComponent s)
    sendSide (m.reply 0 (zeros 9)) (onMg (fun g => { g with update := { g.update with pldm := false } }) s)) s

/-- QUERYDEVICEIDENTIFIERS. -/
def execQuerydeviceidentifiers (s : State) : Host.Outcome State Fault Refusal := .next (answerSide (.pldm 5 1) deviceIdentifiers s)

/-- GETFIRMWAREPARAMETERS. -/
def execGetfirmwareparameters (s : State) : Host.Outcome State Fault Refusal := .next (answerSide (.pldm 5 2) firmwareParameters s)

/-- REQUESTUPDATE. -/
def execRequestupdate (s : State) : Host.Outcome State Fault Refusal := .next (onRequest (.pldm 5 0x10) requestUpdate s)

/-- PASSCOMPONENTTABLE. -/
def execPasscomponenttable (s : State) : Host.Outcome State Fault Refusal := .next (onRequest (.pldm 5 0x13) passTable s)

/-- UPDATECOMPONENT. -/
def execUpdatecomponent (s : State) : Host.Outcome State Fault Refusal := .next (onRequest (.pldm 5 0x14) updateComponent s)

/-- REQUESTFIRMWAREDATA: the update agent's response, when one comes. -/
def execRequestfirmwaredata (response : Option Bytes) (s : State) : Host.Outcome State Fault Refusal := .next (requestData response s)

/-- ACTIVATEFIRMWARE. -/
def execActivatefirmware (s : State) : Host.Outcome State Fault Refusal := .next (onRequest (.pldm 5 0x1A) activateFirmware s)

/-- GETSTATUS. -/
def execGetstatus (s : State) : Host.Outcome State Fault Refusal := .next (answerSide (.pldm 5 0x1B) getStatus s)

/-- CANCELUPDATECOMPONENT. -/
def execCancelupdatecomponent (s : State) : Host.Outcome State Fault Refusal := .next (onRequest (.pldm 5 0x1C) cancelComponent s)

/-- CANCELUPDATE. -/
def execCancelupdate (s : State) : Host.Outcome State Fault Refusal := .next (onRequest (.pldm 5 0x1D) cancelUpdate s)

end Sys2Proof.Machine
end

