-- ==== Sys2Proof/Machine/Monitor.lean ====
section
/-! DEFINITION. The tamper monitor's events and mailbox commands (R432 to R455). -/

namespace Sys2Proof.Machine

/-- Sources whose rule can be met with main power; TEST_PIN not in FACTORY (R432). -/
def onMain (s : State) (p : Nat × Nat) : Bool := p.1 < 32 && p.1 != 29 && !(p.1 == 30 && s.dev.lifecycle == 1)

/-- TAMPER_TRIP: what a number of samples shows, the wires compared with their generators, and the trips (R433, R440, R441). -/
def tamperTrip (met : List TamperSense) (samples : Nat) (s : State) : State :=
  if !s.pw.main ∨ s.pw.fallen then s else mainSamples met samples (onMain s) s

/-- BATTERY_BURST (R439). -/
def batteryBurst (met : List TamperSense) (s : State) : State :=
  if s.pw.main ∨ !s.tp.battery then s
  else
    let r := senseBurst met s.tp
    tripSample (r.1.filter fun p => onBattery p.1 p.2 && p.1 != 29) { s with tp := r.2 }

/-- EPISODE_END (R440). -/
def episodeEnd (src : Nat) (s : State) : State :=
  if !bit s.tp.live src then s
  else
    let s : State := { s with tp := { s.tp with live := setBit s.tp.live src false } }
    if s.pw.main then tamperSource 25 s else s

/-- MONITOR_SELF_CHECK (R438). -/
def selfCheck (failing : Bool) (s : State) : State :=
  if !s.pw.main ∨ s.pw.fallen then s
  else if failing then tripSample [(31, 0)] (countSamples 1 s)
  else { s with tp := { s.tp with checks := s.tp.checks + 1 } }

/-- REMOVAL_ARM (R447). -/
def removalArm (s : State) : State :=
  if s.pw.main ∧ s.tp.cell ∧ s.tp.cellTick + 1000 ≤ s.dev.tick then { s with tp := { s.tp with removalArmed := true } } else s

/-- CELL_REMOVED_ON_MAIN (R447, R454). -/
def removedOnMain (s : State) : State :=
  if s.pw.main ∧ s.tp.cell then
    tamperSource 29 (tamperCrumb 0x0203 0 0 0 0 { s with tp := { s.tp with cell := false, removalArmed := false } })
  else s

/-- CELL_REMOVED (R448). -/
def cellRemoved (s : State) : State :=
  if s.pw.main ∨ !s.tp.cell then s else cellGone { s with tp := { s.tp with cell := false } }

/-- The host view at BAR0 + 0x4000, first eleven words (R452). -/
def tamperView (s : State) : Bytes :=
  let t := s.tp
  let (src, sec, tick) := t.first.getD (0, 0, 0)
  leBytes 4 (b2n t.armed + 2 * b2n t.ship + 4 * t.interval + 16 * b2n t.cell + 32 * b2n t.removalArmed + 64 * t.marks) ++
  leBytes 4 t.sticky ++ leBytes 4 t.live ++ leBytes 4 t.policy ++ leBytes 4 t.tampered ++
  leBytes 4 (src + 256 * b2n t.first.isSome) ++ leBytes 4 sec ++ leBytes 8 tick ++ leBytes 8 t.samples

/-- TAMPER_STATUS: the host view, then the 32 trip counts as words. -/
def tamperStatus (_ : Bytes) (s : State) : State := answer (tamperView s ++ (s.tp.trips.map fun n => leBytes 4 n).flatten) s

/-- TAMPER_CHALLENGE (R451). -/
def tamperChallenge (_ : Bytes) (s : State) : State :=
  let (n, s) := mgDraw 0 16 s
  answer (n ++ leBytes 8 Config.serial.toNat ++ leBytes 4 900) { s with tp := { s.tp with challenge := some (n, s.dev.tick), since := 0 } }

/-- A cleared channel: a tamper reset of its own, whose boot draws the new key-encryption key (R451); its tamper state has changed
(R54). -/
def clearedChannel (ch : Ch) (d : Device) (c : Channel) : Channel := raiseSource 18 (channelReset .tamper ch d c)

/-- Management's own key drawn anew. -/
def clearedMgmt (s : State) : State :=
  let (k, s) := mgDraw 0 32 s
  onMg (fun m => { m with kek := some k, kekCopy := if s.tp.ship then some k else m.kekCopy }) s

/-- The bits of `a` that are not in `b`. -/
def without (a b : Nat) : Nat := a ^^^ (a &&& b)

/-- TAMPER_CLEAR (R440, R451): the sticky mask at 0, the TAMPERED mask at 4, the authorisation from 8. -/
def tamperClear (p : Bytes) (s : State) : State :=
  let a := fieldLE p 0 4
  let b := fieldLE p 4 4
  let auth := p.drop 8
  let left := without s.tp.sticky a
  if !authOk 0x11 auth s ∨ fieldLE auth 36 4 ≠ a ∨ fieldLE auth 40 4 ≠ b ∨ a &&& s.tp.live ≠ 0 ∨ a &&& s.tp.since ≠ 0 ∨
      b &&& stickyCover s.dev s.tp left ≠ 0 then refuse 0x0B05 s
  else
    let gone := b &&& s.tp.tampered
    let cleared := a &&& s.tp.sticky
    let s := useAuth 0x11 auth s
    let s : State := { s with tp := { s.tp with
      sticky := left, tampered := without s.tp.tampered b, first := if left = 0 then none else s.tp.first } }
    let s := onEvery (fun ch d c => if bit gone ch.val then clearedChannel ch d c else c) s
    let s := if bit gone 16 then clearedMgmt s else s
    answer [] (tamperSource 26 (tamperCrumb 0x0200 cleared gone (fieldLE auth 28 4) 0 s))

/-- A change of TP_POLICY filed and signalled. -/
def policyChanged (policy : Nat) (s : State) : State :=
  answer [] (tamperSource 27 (tamperCrumb 0x0201 policy 0 0 0 { s with tp := { s.tp with policy := policy } }))

/-- TAMPER_WIDEN (R443): the bits at 0. -/
def tamperWiden (p : Bytes) (s : State) : State := policyChanged (s.tp.policy ||| fieldLE p 0 4) s

/-- TAMPER_NARROW (R443): the bits at 0, the authorisation from 4. -/
def tamperNarrow (p : Bytes) (s : State) : State :=
  let a := fieldLE p 0 4
  if !authOk 0x12 (p.drop 4) s ∨ fieldLE (p.drop 4) 36 4 ≠ a then refuse 0x0B05 s
  else policyChanged (without s.tp.policy a) (useAuth 0x12 (p.drop 4) s)

/-- A wrapped copy of every key held, as SHIP keeps them (R449). -/
def copyKeys (s : State) : State :=
  onMg (fun m => { m with kekCopy := m.kek }) (onEvery (fun _ _ c => { c with kekCopy := c.kek }) s)

/-- TAMPER_MODE (R447): 0 SECURE, 1 SHIP at 0, the authorisation from 4. -/
def tamperMode (p : Bytes) (s : State) : State :=
  let m := fieldLE p 0 1
  if 1 < m then refuse 0x0102 s
  else if m = 1 ∧ !authOk 0x13 (p.drop 4) s then refuse 0x0B05 s
  else
    let s := if m = 1 then copyKeys (useAuth 0x13 (p.drop 4) s) else s
    answer [] (tamperSource 28 (tamperCrumb 0x0202 m 0 0 0 { s with tp := { s.tp with ship := m == 1 } }))

/-- TAMPER_BATT_INTERVAL (R439): the code at 0. -/
def battInterval (p : Bytes) (s : State) : State :=
  let n := fieldLE p 0 1
  if 2 < n then refuse 0x0102 s
  else answer [] (tamperCrumb 0x0204 n 0 0 0 { s with tp := { s.tp with interval := n } })

/-- TAMPER_TRIP. -/
def execTamperTrip (met : List TamperSense) (samples : Nat) (s : State) : Host.Outcome State Fault Refusal := .next (tamperTrip met samples s)

/-- ZEROIZE_DONE: of a channel, or of the rest of the logic die (16). -/
def execZeroizeDone (unit : Core) (s : State) : Host.Outcome State Fault Refusal :=
  .next { s with tp := { s.tp with clearing := setBit s.tp.clearing unit.val false } }

/-- EPISODE_END. -/
def execEpisodeEnd (source : Fin 32) (s : State) : Host.Outcome State Fault Refusal := .next (episodeEnd source.val s)

/-- CRUST_RESEED (R434). -/
def execCrustReseed (s : State) : Host.Outcome State Fault Refusal :=
  .next (if s.pw.main then { s with tp := crustReseed s.tp } else s)

/-- MONITOR_SELF_CHECK: whether a checker fails to raise its alarm. -/
def execMonitorSelfCheck (failing : Bool) (s : State) : Host.Outcome State Fault Refusal := .next (selfCheck failing s)

/-- BATTERY_BURST. -/
def execBatteryBurst (met : List TamperSense) (s : State) : Host.Outcome State Fault Refusal := .next (batteryBurst met s)

/-- REMOVAL_ARM. -/
def execRemovalArm (s : State) : Host.Outcome State Fault Refusal := .next (removalArm s)

/-- CELL_REMOVED_ON_MAIN. -/
def execCellRemovedOnMain (s : State) : Host.Outcome State Fault Refusal := .next (removedOnMain s)

/-- CELL_REMOVED. -/
def execCellRemoved (s : State) : Host.Outcome State Fault Refusal := .next (cellRemoved s)

/-- TAMPER_STATUS. -/
def execTamperStatus (s : State) : Host.Outcome State Fault Refusal := .next (onCommand 0x0060 tamperStatus s)

/-- TAMPER_CHALLENGE. -/
def execTamperChallenge (s : State) : Host.Outcome State Fault Refusal := .next (onCommand 0x0061 tamperChallenge s)

/-- TAMPER_CLEAR. -/
def execTamperClear (s : State) : Host.Outcome State Fault Refusal := .next (onCommand 0x0062 tamperClear s)

/-- TAMPER_WIDEN. -/
def execTamperWiden (s : State) : Host.Outcome State Fault Refusal := .next (onCommand 0x0063 tamperWiden s)

/-- TAMPER_MODE. -/
def execTamperMode (s : State) : Host.Outcome State Fault Refusal := .next (onCommand 0x0064 tamperMode s)

/-- TAMPER_BATT_INTERVAL. -/
def execTamperBattInterval (s : State) : Host.Outcome State Fault Refusal := .next (onCommand 0x0065 battInterval s)

/-- TAMPER_NARROW. -/
def execTamperNarrow (s : State) : Host.Outcome State Fault Refusal := .next (onCommand 0x0066 tamperNarrow s)

end Sys2Proof.Machine
end

