-- ==== Sys2Proof/Machine/SafetyRows.lean ====
section
/-! DEFINITION. The safety controller's events and mailbox commands, and the rolling self-test (R459 to R478). -/

namespace Sys2Proof.Machine

/-- The job the channel works on when a mechanism reports: TRACE_TAG names it, and its engagement record holds the work the
mechanism names (R305, R466). -/
def engageJob (mech info jidx : Nat) (c : Channel) : Channel :=
  let work : Engaged := {
    pke := if mech = 4 then some (info % 256) else none, pkeOp := if mech = 4 then some (info / 256 % 65536) else none
    ctx := if mech = 3 then some (info % 8) else none
    rng := if mech = 6 then some (info % 8) else none, hash := if mech = 5 then some (info % 4) else none }
  onEntry jidx (fun e => { e with engaged := work }) { c with core := { c.core with traceTag := 2 ^ 31 + jidx } }

/-- A mechanism's report from outside the modelled checks: 0x0C latches, NV_VERIFY takes no channel down (R459, R471). -/
def mechanismReport (mech info : Nat) (ch : Ch) (d : Device) (c : Channel) : Channel :=
  if 1 ≤ mech ∧ mech ≤ 0x0B then reportSafety ch d mech info c
  else if mech = 0x0C then latchFault ch d mech info c
  else c

/-- A session whose target channel is on trial fails before the channel boots again (R412). -/
def trialEnds (ch : Ch) (s : State) : State :=
  let u := s.mg.update
  if (u.state = 3 ∨ u.state = 4) ∧ u.component = 0x10 ∧ bit u.mask ch.val ∧ (s.chan ch).fw.onTrial then sessionFailed s else s

/-- SAFETY_RESET_TIMEOUT (R462 step 6). -/
def safetyTimeout (ch : Ch) (s : State) : State :=
  let c := s.chan ch
  if c.state = .fault ∧ ¬ c.sf.latched ∧ c.sf.faultTick + 10 ≤ s.dev.tick then onChan ch (channelReset .safety) (trialEnds ch s) else s

/-- SAFETY_EXCHANGE: 0 agreement, 1 disagreement, 2 a failed exchange (R461). -/
def safetyExchange (result : Nat) (s : State) : State := if !s.pw.main ∨ result = 0 then s else deviceSafeState result s

/-- WATCHDOG_EXPIRY (R467). -/
def watchdogExpiry (ch : Ch) (d : Device) (c : Channel) : Channel :=
  if c.sf.wdogEn ∧ c.sf.wdogTick + 20 ≤ d.tick then reportSafety ch d 0x0A 0 { c with sf := { c.sf with wdogTick := d.tick } } else c

/-- A notice begins: the channel is woken, source 9, and function 0 source 50 when management is available (R469). -/
def startNotice (ch : Ch) (s : State) : State :=
  let c := s.chan ch
  if c.notice ∨ ¬ (c.state = .ready ∨ c.state = .recovery ∨ c.state = .asleep) then s
  else
    let s := onChanS ch (channelWake s.pw.refclk) s
    let c := s.chan ch
    if c.state = .fault then s
    else
      let c := { c with notice := true, sf := { c.sf with noticeTick := s.dev.tick, bistNext := s.dev.tick + 28800000 } }
      let s := setChan s ch (raiseSource 9 c)
      if mgmtRuns s then raiseFn0 50 s else s

/-- BIST_NOTICE_START: the channel's slot is reached and no other channel has a notice or a cycle (R468). -/
def noticeSlot (ch : Ch) (s : State) : State :=
  let busy := s.chans.toList.any fun c => c.notice || c.state == .bist
  if !s.dev.has ch ∨ busy ∨ s.dev.tick < bistDue ch s.dev (s.chan ch).sf then s else startNotice ch s

/-- BIST_CYCLE: the end of the notice, once the public-key engine has drained (R191, R469, R552). -/
def bistCycle (d : Device) (c : Channel) : Channel :=
  if c.notice ∧ c.sf.noticeTick + 500 ≤ d.tick ∧ c.pke.running.isNone ∧ c.pke.queue.isEmpty then
    let c := { c with notice := false }
    if c.state = .ready ∨ c.state = .recovery then setChState .bist c else c
  else c

/-- BIST_CYCLE_DONE: the signature when it differs, an uncorrectable word of the transparent test, the rows it repaired
(R470, R471, R475, R476). -/
def bistDone (signature : Option (Nat × Nat)) (uncorr : Option Nat) (rows : List (Fin 9 × Nat × Nat × Nat)) (ch : Ch) (d : Device)
    (c : Channel) : Channel :=
  if c.state ≠ .bist then c
  else
    let c := memoryTest ch d rows c
    match signature, uncorr with
    | some (lo, hi), _ =>
      let c := latchFault ch d 0x0C 0 c
      safetyCrumb d 0x0603 ch.val lo hi 0 { c with outSources := c.outSources ++ [52] }
    | none, some a => reportSafety ch d 0x07 a c
    | none, none => if c.sf.mbUnrepairable then latchFault ch d 0x0C 0 c else channelReset .bist ch d c

/-- SAFE_N asserted (R463). -/
def safeAsserted (s : State) : Bool :=
  !s.pw.selfTest || s.dev.deviceSafe || s.chans.toList.any fun c => c.state == .fault || c.state == .tampered

/-- FAULT_N asserted (R463). -/
def faultAsserted (s : State) : Bool := s.dev.deviceSafe || s.chans.toList.any fun c => c.sf.latched || c.sf.mbUnrepairable

/-- SAFETY_STATUS: four words a channel, then SAFE_N in bit 0 and FAULT_N in bit 1, 1 for asserted. -/
def safetyStatus (_ : Bytes) (s : State) : State :=
  answer ((s.chans.toList.map fun c => leBytes 4 (sfStat s.dev c.sf) ++ leBytes 4 (sfMech c.sf) ++ leBytes 4 c.sf.info ++ leBytes 4 c.sf.tag).flatten ++
    leBytes 4 (b2n (safeAsserted s) + 2 * b2n (faultAsserted s))) s

/-- A channel released (R465): the latch and the count cleared, a channel safety reset when it was latched. -/
def releaseChannel (ch : Ch) (s : State) : State :=
  let c := s.chan ch
  let s := setChan s ch { c with sf := { c.sf with latched := false, entries := [] } }
  if c.sf.latched then
    onChan ch (channelReset .safety) (trialEnds ch (aonCrumb ⟨0x0601, 0x13, s.dev.seconds, s.dev.cycles, ch.val, 0, 0, 0⟩ s))
  else s

/-- SAFETY_RELEASE: the channel mask at 0. -/
def safetyRelease (p : Bytes) (s : State) : State :=
  let mask := fieldLE p 0 2
  let chosen := s.enabledChannels.filter fun ch => bit mask ch.val
  if s.dev.deviceSafe || chosen.any (fun ch => (s.chan ch).sf.mbUnrepairable) then refuse 0x0B05 s
  else answer [] (chosen.foldl (fun s ch => releaseChannel ch s) s)

/-- BIST_SCHEDULE: AGE_MIN and SF_BIST_NEXT of each channel, as words. -/
def bistSchedule (_ : Bytes) (s : State) : State :=
  answer (((List.finRange 16).map fun ch => leBytes 4 (bistAge s.dev (s.chan ch).sf) ++ leBytes 4 (bistSeconds ch s.dev (s.chan ch).sf)).flatten) s

/-- A command that names an enabled channel in byte 0. -/
def withChannel (f : Ch → State → State) (p : Bytes) (s : State) : State :=
  let n := fieldLE p 0 1
  if h : n < 16 then (if s.dev.has ⟨n, h⟩ then f ⟨n, h⟩ s else refuse 0x0102 s) else refuse 0x0102 s

/-- BIST_DEFER: the seconds at 4 (R472). -/
def bistDefer (p : Bytes) (s : State) : State :=
  withChannel (fun ch s =>
    let c := s.chan ch
    let due := bistDue ch s.dev c.sf + 1000 * fieldLE p 4 4
    if c.sf.bistTick + 28800000 - 540 < due then refuse 0x0102 s
    else
      let s := setChan s ch { c with sf := { c.sf with bistNext := due } }
      answer [] (aonCrumb ⟨0x0607, 0x13, s.dev.seconds, s.dev.cycles, ch.val, fieldLE p 4 4, 0, 0⟩ s)) p s

/-- BIST_NOW: a channel that cannot begin a notice now has it due at once. -/
def bistNow (p : Bytes) (s : State) : State :=
  withChannel (fun ch s =>
    let c := s.chan ch
    answer [] (startNotice ch (setChan s ch { c with sf := { c.sf with bistNext := s.dev.tick } }))) p s

/-- A repair record (R474). -/
def Repair.toBytes (r : Repair) : Bytes :=
  let b := [0x50, 0x52, byte r.bank, byte r.spare] ++ leBytes 2 r.row ++ [byte r.bit, 0] ++ leBytes 4 r.seconds
  b ++ leBytes 4 (crc32 b)

/-- MBIST_RESULTS: SF_MB_RESULT to SF_MB_SPARES_E as words, then every repair record. DEDUCED: the SF_MB_ registers are reached by
the channel's own core alone, so the message needs the channel's end, and ends INCOMPATIBLE when the images do not work together
(R59, R416). -/
def mbistResults (p : Bytes) (s : State) : State :=
  withChannel (fun ch s =>
    let f := (s.chan ch).sf
    if bit s.mg.incompat ch.val then refuse 0x0A02 s
    else answer ((leBytes 4 (sfMbResult f) ++ leBytes 4 f.mbAddr ++ leBytes 4 f.mbBit ++ leBytes 4 (sfSpares f) ++ leBytes 4 (f.spares.getD 8 0) ++
      (f.repairs.map Repair.toBytes).flatten).take 4080) s) p s

/-- SAFETY_REPORT: the mechanism, what it names, and the job that held the work, if one did (R459, R466). -/
def execSafetyReport (ch : Ch) (mech : Byte) (info : Word) (job : Option (Fin 4096)) (s : State) : Host.Outcome State Fault Refusal :=
  .next (onChanS ch (fun ch d c =>
    let c := match job with
      | some j => engageJob mech.toNat info.toNat j.val c
      | none => c
    mechanismReport mech.toNat info.toNat ch d c) s)

/-- SAFETY_RESET_TIMEOUT. -/
def execSafetyResetTimeout (ch : Ch) (s : State) : Host.Outcome State Fault Refusal := .next (safetyTimeout ch s)

/-- SAFETY_EXCHANGE. -/
def execSafetyExchange (result : Fin 3) (s : State) : Host.Outcome State Fault Refusal := .next (safetyExchange result.val s)

/-- SF_REPORT. -/
def execSfReport (ch : Ch) (value : Word) (s : State) : Host.Outcome State Fault Refusal :=
  .next (onChanS ch (fun ch d c => sfReport ch d value c) s)

/-- KICK. -/
def execKick (ch : Ch) (s : State) : Host.Outcome State Fault Refusal :=
  .next (onChan ch (fun _ d c => { c with sf := sfWdog d 1 c.sf }) s)

/-- WATCHDOG_ENABLE. -/
def execWatchdogEnable (ch : Ch) (s : State) : Host.Outcome State Fault Refusal :=
  .next (onChan ch (fun _ d c => { c with sf := sfWdog d 2 c.sf }) s)

/-- WATCHDOG_EXPIRY. -/
def execWatchdogExpiry (ch : Ch) (s : State) : Host.Outcome State Fault Refusal := .next (onChanS ch watchdogExpiry s)

/-- BIST_NOTICE_START. -/
def execBistNoticeStart (ch : Ch) (s : State) : Host.Outcome State Fault Refusal := .next (noticeSlot ch s)

/-- BIST_CYCLE. -/
def execBistCycle (ch : Ch) (s : State) : Host.Outcome State Fault Refusal := .next (onChan ch (fun _ d c => bistCycle d c) s)

/-- BIST_CYCLE_DONE. -/
def execBistCycleDone (ch : Ch) (signature : Option (Nat × Nat)) (uncorr : Option Nat) (rows : List (Fin 9 × Nat × Nat × Nat)) (s : State) :
    Host.Outcome State Fault Refusal :=
  .next (onChanS ch (bistDone signature uncorr rows) s)

/-- HOUR_COUNT_AGE_OUT (R465): entries older than 3,600 s leave the count. -/
def execHourCountAgeOut (ch : Ch) (s : State) : Host.Outcome State Fault Refusal :=
  .next (onChan ch (fun _ d c => { c with sf := { c.sf with entries := c.sf.entries.filter fun t => d.tick ≤ t + 3600000 } }) s)

/-- SAFETY_STATUS. -/
def execSafetyStatus (s : State) : Host.Outcome State Fault Refusal := .next (onCommand 0x0070 safetyStatus s)

/-- SAFETY_RELEASE. -/
def execSafetyRelease (s : State) : Host.Outcome State Fault Refusal := .next (onCommand 0x0071 safetyRelease s)

/-- BIST_SCHEDULE. -/
def execBistSchedule (s : State) : Host.Outcome State Fault Refusal := .next (onCommand 0x0072 bistSchedule s)

/-- BIST_DEFER. -/
def execBistDefer (s : State) : Host.Outcome State Fault Refusal := .next (onCommand 0x0073 bistDefer s)

/-- BIST_NOW. -/
def execBistNow (s : State) : Host.Outcome State Fault Refusal := .next (onCommand 0x0074 bistNow s)

/-- MBIST_RESULTS. -/
def execMbistResults (s : State) : Host.Outcome State Fault Refusal := .next (onCommand 0x0075 mbistResults s)

end Sys2Proof.Machine
end

