-- ==== Sys2Proof/Machine/Tag.lean ====
section
/-! DEFINITION. The near-field service tag's events, frames and mailbox commands (R489 to R517). A frame is given whole, as
received with its CRC; a parity error makes it no frame. -/

namespace Sys2Proof.Machine

/-- One clock of the 16-bit Galois LFSR (R495). -/
def lfsrStep (v : Nat) : Nat := if v % 2 = 1 then (v / 2) ^^^ 0xD008 else v / 2

/-- `n` clocks. -/
def lfsrRun : Nat → Nat → Nat
  | 0, v => v
  | n + 1, v => lfsrRun n (lfsrStep v)

/-- FIELD_ON: the tag powers up, writes its reservation, seeds its LFSR and stands in IDLE (R491, R495, R511, R514). -/
def fieldOn (s : State) : State :=
  if s.nf.field then s
  else
    let up (t : Tag) : Tag :=
      let issued := t.count.nonce
      let t := countTo (fun c => { c with inv := (c.inv + 1) % 2 ^ 16, nonce := issued + 256 }) t
      let seed := crc16 (tagUid ++ leBytes 2 t.count.inv)
      tagIrq 0 { t with field := true, st := .idle, replied := false, session := none, auth := none, reply := none, issued := issued
                        lfsr := if seed = 0 then 0xACE1 else seed, wake := true }
    tagEvent none (some 56) (onTag up s)

/-- FIELD_LOSS (R491). -/
def fieldLoss (s : State) : State :=
  if !s.nf.field then s
  else
    let down (t : Tag) : Tag := tagIrq 1 { t with field := false, st := .idle, replied := false, session := none, auth := none, reply := none }
    tagEvent none (some 56) (onTag down s)

/-- A tag whose slot has come replies with its handle. -/
def slotReply (t : Tag) : Tag := if t.slot = 0 then replyNow t.handleBytes { t with replied := true } else { t with replied := false }

/-- A slot and a handle drawn (R495). -/
def drawSlot (q : Nat) (t : Tag) : Tag :=
  let v := lfsrRun 16 t.lfsr
  let h := lfsrRun 16 v
  let h := if h = 0xFFFF then lfsrStep h else h
  { t with lfsr := h, slot := v % 2 ^ q, handle := h, st := .ready, session := none }

/-- INVENTORY (R494, R495): ALL takes in a HALTED tag. -/
def inventory (b : Bytes) (s : State) : State :=
  let v := fieldLE b 0 1
  let t := s.nf
  if t.held then s
  else if b.length ≠ 1 ∨ 8 < v % 16 ∨ 32 ≤ v ∨ (t.st = .halted ∧ !bit v 4) then onTag (fun t => { t with replied := false }) s
  else onTag (fun t => slotReply (drawSlot (v % 16) t)) s

/-- NEXT_SLOT (R496): a tag that has replied waits for the next INVENTORY. -/
def nextSlot (s : State) : State :=
  let t := s.nf
  if t.st ≠ .ready then s
  else if t.slot = 0 then onTag (fun t => { t with replied := false }) s
  else onTag (fun t => slotReply { t with slot := t.slot - 1 }) s

/-- ACK (R496). -/
def tagAck (b : Bytes) (s : State) : State :=
  let t := s.nf
  if t.st ≠ .ready then s
  else if t.replied ∧ fieldLE b 0 2 = t.handle ∧ b.length = 2 then
    onTag (fun t => replyNow (t.handleBytes ++ tagUid ++ leBytes 2 0x0880) { t with st := .active, replied := false }) s
  else onTag (fun t => { t with replied := false }) s

/-- GET_INFO reply (R498). -/
def tagInfo (s : State) : Bytes :=
  let flags := b2n (s.tp.tampered != 0) + 2 * b2n (!s.tp.battery) + 4 * b2n (keyOk s) + 8 * b2n s.pw.main + 16 * b2n (newestNote s.nf).isSome
  s.nf.handleBytes ++ leBytes 2 0x0880 ++ [byte s.dev.enabled, byteAt s.nf.identity 12, byte flags, 1]

/-- AUTH_START (R501, R502, R511). -/
def authStart (b : Bytes) (_ : Option (Bytes × Bytes)) (s : State) : State :=
  if b.length ≠ 16 then onTag (errorReply 0xE2) s
  else match s.nf.kt, s.nf.kn with
    | some kt, some kn =>
      if !keyOk s then onTag (errorReply 0xE3) s
      else
        let reserve (t : Tag) : Tag := if t.count.nonce ≤ t.issued then countTo (fun c => { c with nonce := t.issued + 256 }) t else t
        let s := onTag reserve s
        let rt := aesEncrypt kn (leBytes 16 s.nf.issued)
        let tt := (cmac kt ([0x01] ++ tagUid ++ b ++ rt)).take 8
        onTag (fun t => replyBy (1000 + 50000 * min t.count.authFails 40) (t.handleBytes ++ rt ++ tt)
          { t with issued := t.issued + 1, auth := some (b, rt) }) s
    | _, _ => onTag (errorReply 0xE3) s

/-- AUTH_FINISH (R501, R502). -/
def authFinish (b : Bytes) (a : Option (Bytes × Bytes)) (s : State) : State :=
  match a, s.nf.kt with
  | some (rr, rt), some kt =>
    if b.length ≠ 8 then onTag (errorReply 0xE2) s
    else if !keyOk s then onTag (errorReply 0xE3) s
    else if b = (cmac kt ([0x02] ++ tagUid ++ rt ++ rr)).take 8 then
      let k : TagSession := { kenc := cmac kt ([0x03] ++ rr ++ rt), kmac := cmac kt ([0x04] ++ rr ++ rt) }
      let s := onTag (fun t => tagIrq 2 (replyBy 500 (t.handleBytes ++ [0])
        (countTo (fun c => { c with authFails := 0, authTotal := (c.authTotal + 1) % 2 ^ 32 }) { t with session := some k }))) s
      tagEvent (some (0x2800, s.nf.count.authTotal, 0, 0)) (some 57) s
    else
      let s := onTag (fun t => tagIrq 3 (replyBy 500 (t.handleBytes ++ [0xE2])
        (countTo (fun c => { c with authFails := min (c.authFails + 1) 0xFFFF }) { t with session := none }))) s
      tagEvent (some (0x2801, s.nf.count.authFails, 0, 0)) (some 59) s
  | _, _ => onTag (errorReply 0xE1) s

/-- DT_SELECT (R494). -/
def dtSelect (_ : Bytes) (_ : Option (Bytes × Bytes)) (s : State) : State :=
  let sec := s.nf.password == 0
  onTag (fun t => replyNow (t.handleBytes ++ [byte (b2n sec)]) { t with st := if sec then .secured else .opened, session := none }) s

/-- DT_ACCESS (R494, R502). -/
def dtAccess (b : Bytes) (_ : Option (Bytes × Bytes)) (s : State) : State :=
  let td := 2000 + 100000 * min s.nf.count.dtFails 100
  if b.length ≠ 4 then onTag (errorReply 0xE2) s
  else if fieldLE b 0 4 = s.nf.password then
    tagEvent none none
      (onTag (fun t => replyBy td (t.handleBytes ++ [0]) (countTo (fun c => { c with dtFails := 0 }) { t with st := .secured })) s)
  else
    let s := onTag (fun t => tagIrq 5 (replyBy td (t.handleBytes ++ [0xE2]) (countTo (fun c => { c with dtFails := min (c.dtFails + 1) 0xFFFF }) t))) s
    tagEvent (some (0x2802, s.nf.count.dtFails, 0, 0)) (some 59) s

/-- Whether DT_READ may read a block (R499). -/
def dtAllowed (st : TagState) (k : Nat) : Bool :=
  if st = .secured then k ≤ 0x0F || (0x100 ≤ k && k ≤ 0x2FF) else k ≤ 3

/-- A 16-byte block: the compatibility area, or eight transit samples. -/
def dtBlock (s : State) (k : Nat) : Bytes :=
  if k < 0x100 then slice s.nf.compat (16 * k) 16
  else ((List.range 8).map fun i => leBytes 2 (if s.tp.battery then s.nf.sample (8 * (k - 0x100) + i) else 0xFFFF)).flatten

/-- DT_READ (R499). -/
def dtRead (b : Bytes) (_ : Option (Bytes × Bytes)) (s : State) : State :=
  let k := fieldLE b 0 2
  let n := fieldLE b 2 1
  let blocks := (List.range n).map fun i => k + i
  if b.length ≠ 3 ∨ n = 0 ∨ 4 < n ∨ ¬ blocks.all (dtAllowed s.nf.st) then onTag (errorReply 0xE2) s
  else onTag (fun t => replyBy 1000 (t.handleBytes ++ (blocks.map (dtBlock s)).flatten) t) s

/-- The first counter block of a direction and CTR (R503). -/
def secureBlock (dir : Byte) (ctr : Nat) : Bytes := [dir] ++ zeros 7 ++ beBytes 4 ctr ++ zeros 4

/-- A SECURE reply of status and data. -/
def secureReply (td ctr : Nat) (k : TagSession) (content : Bytes) (t : Tag) : Tag :=
  let ct := aesCtr k.kenc (secureBlock 1 ctr) content
  let head := t.handleBytes ++ leBytes 4 ctr
  replyBy td (head ++ ct ++ (cmac k.kmac ([1] ++ head ++ ct)).take 8) t

/-- The session commands (R503). -/
def innerCommands : List Nat := [0x21, 0x22, 0x23, 0x24, 0x25, 0x26, 0x27]

/-- A SECURE frame whose inner command is `inner`: checked, decrypted, served by `g`, which gives the content of the reply
(R503). A frame that fails its MAC or CTR ends the session without a reply; a frame of another session command is left. -/
def onSecure (inner td : Nat) (g : Bytes → State → Bytes × State) (f : Bytes) (s : State) : State :=
  onHandle 0x20 [.active] f (fun b _ s =>
    match s.nf.session with
    | none => onTag (errorReply 0xE1) s
    | some k =>
      let ctr := fieldLE b 0 4
      let ct := slice b 4 (b.length - 12)
      let mac := b.drop (b.length - 8)
      if b.length < 13 ∨ mac ≠ (cmac k.kmac ([0] ++ s.nf.handleBytes ++ b.take 4 ++ ct)).take 8 ∨ ctr ≠ k.ctr ∨ 0xFFFF < ctr then
        onTag (fun t => { t with session := none }) s
      else
        let content := aesCtr k.kenc (secureBlock 0 ctr) ct
        let code := fieldLE content 0 1
        let k' : TagSession := { k with ctr := ctr + 1 }
        let s' := onTag (fun t => { t with session := some k' }) s
        if code = inner then
          let r := g (content.drop 1) s'
          onTag (secureReply td ctr k r.1) r.2
        else if innerCommands.contains code then s
        else onTag (secureReply td ctr k [1]) s') s

/-- READ_LOG (R504): the field is below H_WORK unless `strong`. -/
def readLog (strong : Bool) (p : Bytes) (s : State) : Bytes × State :=
  let n := fieldLE p 1 1
  let start := fieldLE p 2 4
  if p.length ≠ 6 ∨ 1 < fieldLE p 0 1 ∨ n = 0 ∨ 8 < n then ([1], s)
  else if !strong then ([2], s)
  else
    let l := s.logOf (fieldLE p 0 1 == 1)
    let at0 := max start l.oldest
    let got := (l.from at0).take n
    let next := if got.length = n then (got.getLast?.map fun x => x.1 + 1).getD at0 else max at0 l.next
    ([0, byte (b2n (start < l.oldest) + 2 * b2n (mgmtServes s)), byte got.length, 0, 0] ++ leBytes 4 next ++ (got.map (·.2)).flatten, s)

/-- READ_TRANSIT (R513). -/
def readTransit (p : Bytes) (s : State) : Bytes × State :=
  if p.length ≠ 3 ∨ 4095 < fieldLE p 0 2 ∨ 128 < fieldLE p 2 1 then ([1], s)
  else ([0] ++ transitData (fieldLE p 0 2) (fieldLE p 2 1) s, s)

/-- READ_TAMPER (R505). -/
def readTamper (_ : Bytes) (s : State) : Bytes × State :=
  let t := s.tp
  if !t.battery then ([3], s)
  else
    let (src, sec, tick) := t.first.getD (0, 0, 0)
    ([0] ++ leBytes 4 t.sticky ++ leBytes 4 t.tampered ++ leBytes 4 (src + 256 * b2n t.first.isSome) ++ leBytes 4 sec ++ leBytes 8 tick ++
      [byte (b2n t.ship), byte t.marks, 0, 0] ++ (t.trips.map (leBytes 2 ·)).flatten, s)

/-- READ_NOTE. -/
def readNote (p : Bytes) (s : State) : Bytes × State :=
  let n := fieldLE p 0 1
  let slot : Option Nat := if n = 0xFF then newestNote s.nf else if n < 28 then some n else none
  match slot with
  | some k => ([0] ++ padTo 128 (s.nf.notes.getD k []), s)
  | none => ([if n = 0xFF then 3 else 1], s)

/-- A custody note slot before its COMMIT (R508). -/
def noteBytes (kt : Bytes) (p : Bytes) (seq : Nat) (s : State) : Bytes :=
  let b := slice p 16 64 ++ slice p 0 8 ++ slice p 8 8 ++ leBytes 4 seq ++ leBytes 4 (if s.tp.battery then s.dev.seconds else 0xFFFFFFFF)
  b ++ cmac kt (tagUid ++ b) ++ zeros 23

/-- WRITE_NOTE (R508, R509): what a shadow slot that fails its verify reads back as, when one does. -/
def writeNote (strong : Bool) (failed : Option Bytes) (p : Bytes) (s : State) : Bytes × State :=
  match s.nf.kt with
  | none => ([3], s)
  | some kt =>
    if p.length ≠ 80 then ([1], s)
    else if !strong then ([2], s)
    else
      let slot := ((newestNote s.nf).map fun k => (k + 1) % 28).getD 0
      let seq := (s.nf.count.noteSeq + 1) % 2 ^ 32
      match failed with
      | some b => ([4], tagEvent (some (0x2804, slot, 0, 0)) none (onTag (fun t => { t with notes := t.notes.set slot (padTo 127 b ++ [0]) }) s))
      | none =>
        let s := onTag (fun t => tagIrq 4 (countTo (fun c => { c with noteSeq := seq }) { t with notes := t.notes.set slot (noteBytes kt p seq s ++ [0xA5]) })) s
        ([0] ++ leBytes 4 seq ++ [byte slot], tagEvent (some (0x2803, seq, fieldLE p 0 4, fieldLE p 4 4)) (some 58) s)

/-- END_SESSION: the session ends after the reply. -/
def endSession (_ : Bytes) (s : State) : Bytes × State := ([0], onTag (fun t => { t with session := none }) s)

/-- TAG_DEFERRED_REPLY. -/
def deferredReply (t : Tag) : Tag :=
  match t.reply with
  | some r => { t with sent := r.1, reply := none }
  | none => t

/-- TRANSIT_SAMPLE (R512, R513): the temperature field, and whether VBAT was below 2.4 V. -/
def transitSample (temp : Nat) (cellLow : Bool) (s : State) : State :=
  if s.pw.main ∨ !s.tp.battery then s
  else
    onTag (fun t =>
      let v := temp % 2048 + 2048 * b2n t.runStart + 4096 * b2n t.tripped + 8192 * b2n cellLow
      let next := (t.writeIx + 1) % 4096
      { t with
        ring := ringSet t.writeIx v t.ring, writeIx := next, wrappedRing := t.wrappedRing || next == 0
        runs := if t.runStart then (t.runs ++ [(t.writeIx, s.dev.tick)]).drop (t.runs.length + 1 - 16) else t.runs
        lastTick := s.dev.tick, tripped := false, runStart := false }) s

/-- A word of NF_MEM_DATA written: the identity block and the compatibility area alone (R515). -/
def tagMemWrite (a : Nat) (v : Word) (t : Tag) : Tag :=
  let b := leBytes 4 v.toNat
  if a < 0x40 then { t with identity := patch (padTo 64 t.identity) a b }
  else if 0x100 ≤ a ∧ a < 0x200 then { t with compat := patch (padTo 256 t.compat) (a - 0x100) b }
  else t

/-- NF_MEM_DATA_ACCESS: a write, or a read; the address advances by one word. -/
def memDataAccess (write : Option Word) (t : Tag) : Tag :=
  let t' := match write with
    | some v => tagMemWrite (4 * t.memAddr) v t
    | none => t
  { t' with memAddr := (t.memAddr + 1) % 1024 }

/-- NF_STATUS. -/
def nfStatus (_ : Bytes) (s : State) : State := answer (leBytes 4 (nfStat s) ++ s.nf.count.toBytes ++ tagUid) s

/-- NF_NOTES_READ: the first slot at 0, the count at 1. -/
def notesRead (p : Bytes) (s : State) : State :=
  let k := fieldLE p 0 1
  let n := fieldLE p 1 1
  if n = 0 ∨ 28 < k + n then refuse 0x0102 s else answer (((s.nf.notes.drop k).take n).map (padTo 128)).flatten s

/-- NF_TRANSIT_READ: START at 0, COUNT at 2. -/
def transitRead (p : Bytes) (s : State) : State :=
  if 4095 < fieldLE p 0 2 ∨ 1024 < fieldLE p 2 2 then refuse 0x0102 s else answer (transitData (fieldLE p 0 2) (fieldLE p 2 2) s) s

/-- NF_SET_PASSWORD. -/
def setPassword (p : Bytes) (s : State) : State :=
  answer [] (tagEvent none none (onTag (fun t => countTo (fun c => { c with dtFails := 0 }) { t with password := fieldLE p 0 4 }) s))

/-- FIELD_ON. -/
def execFieldOn (s : State) : Host.Outcome State Fault Refusal := .next (fieldOn s)

/-- FIELD_LOSS. -/
def execFieldLoss (s : State) : Host.Outcome State Fault Refusal := .next (fieldLoss s)

/-- FD_WAKE_RELEASE (R514). -/
def execFdWakeRelease (s : State) : Host.Outcome State Fault Refusal :=
  .next (if s.nf.field then s else onTag (fun t => { t with wake := false }) s)

/-- INVENTORY. -/
def execInventory (frame : Bytes) (s : State) : Host.Outcome State Fault Refusal := .next (onFrame 0x01 frame inventory s)

/-- NEXT_SLOT. -/
def execNextSlot (frame : Bytes) (s : State) : Host.Outcome State Fault Refusal := .next (onFrame 0x02 frame (fun _ s => nextSlot s) s)

/-- ACK. -/
def execAck (frame : Bytes) (s : State) : Host.Outcome State Fault Refusal := .next (onFrame 0x03 frame tagAck s)

/-- NAK. -/
def execNak (frame : Bytes) (s : State) : Host.Outcome State Fault Refusal :=
  .next (onFrame 0x04 frame (fun _ s => if s.nf.st = .ready then onTag (fun t => { t with replied := false }) s else s) s)

/-- HALT. -/
def execHalt (frame : Bytes) (s : State) : Host.Outcome State Fault Refusal :=
  .next (onHandle 0x05 [.active, .opened, .secured] frame
    (fun _ _ s => onTag (fun t => replyNow (t.handleBytes ++ [0]) { t with st := .halted, session := none }) s) s)

/-- TAG_GET_INFO. -/
def execTagGetInfo (frame : Bytes) (s : State) : Host.Outcome State Fault Refusal :=
  .next (onHandle 0x06 [.active, .opened, .secured] frame (fun _ _ s => onTag (replyNow (tagInfo s)) s) s)

/-- AUTH_START. -/
def execAuthStart (frame : Bytes) (s : State) : Host.Outcome State Fault Refusal := .next (onHandle 0x10 [.active] frame authStart s)

/-- AUTH_FINISH. -/
def execAuthFinish (frame : Bytes) (s : State) : Host.Outcome State Fault Refusal := .next (onHandle 0x11 [.active] frame authFinish s)

/-- DT_SELECT. -/
def execDtSelect (frame : Bytes) (s : State) : Host.Outcome State Fault Refusal := .next (onHandle 0x40 [.active] frame dtSelect s)

/-- DT_ACCESS. -/
def execDtAccess (frame : Bytes) (s : State) : Host.Outcome State Fault Refusal := .next (onHandle 0x41 [.opened] frame dtAccess s)

/-- DT_READ. -/
def execDtRead (frame : Bytes) (s : State) : Host.Outcome State Fault Refusal := .next (onHandle 0x42 [.opened, .secured] frame dtRead s)

/-- READ_LOG. -/
def execReadLog (frame : Bytes) (strong : Bool) (s : State) : Host.Outcome State Fault Refusal := .next (onSecure 0x21 2000 (readLog strong) frame s)

/-- READ_TRANSIT. -/
def execReadTransit (frame : Bytes) (s : State) : Host.Outcome State Fault Refusal := .next (onSecure 0x22 1000 readTransit frame s)

/-- READ_TAMPER. -/
def execReadTamper (frame : Bytes) (s : State) : Host.Outcome State Fault Refusal := .next (onSecure 0x23 500 readTamper frame s)

/-- READ_NOTE. -/
def execReadNote (frame : Bytes) (s : State) : Host.Outcome State Fault Refusal := .next (onSecure 0x24 1000 readNote frame s)

/-- WRITE_NOTE. -/
def execWriteNote (frame : Bytes) (strong : Bool) (failed : Option Bytes) (s : State) : Host.Outcome State Fault Refusal :=
  .next (onSecure 0x25 30000 (writeNote strong failed) frame s)

/-- READ_IDENTITY. -/
def execReadIdentity (frame : Bytes) (s : State) : Host.Outcome State Fault Refusal :=
  .next (onSecure 0x26 500 (fun _ s => ([0] ++ padTo 64 s.nf.identity, s)) frame s)

/-- END_SESSION. -/
def execEndSession (frame : Bytes) (s : State) : Host.Outcome State Fault Refusal := .next (onSecure 0x27 91 endSession frame s)

/-- TAG_DEFERRED_REPLY. -/
def execTagDeferredReply (s : State) : Host.Outcome State Fault Refusal := .next (onTag deferredReply s)

/-- TRANSIT_SAMPLE. -/
def execTransitSample (temp : Nat) (cellLow : Bool) (s : State) : Host.Outcome State Fault Refusal := .next (transitSample temp cellLow s)

/-- NF_MEM_DATA_ACCESS. -/
def execNfMemDataAccess (write : Option Word) (s : State) : Host.Outcome State Fault Refusal :=
  .next (if mgmtRuns s then onTag (memDataAccess write) s else s)

/-- NF_STATUS. -/
def execNfStatus (s : State) : Host.Outcome State Fault Refusal := .next (onCommand 0x0080 nfStatus s)

/-- NF_NOTES_READ. -/
def execNfNotesRead (s : State) : Host.Outcome State Fault Refusal := .next (onCommand 0x0081 notesRead s)

/-- NF_TRANSIT_READ. -/
def execNfTransitRead (s : State) : Host.Outcome State Fault Refusal := .next (onCommand 0x0082 transitRead s)

/-- NF_SET_PASSWORD. -/
def execNfSetPassword (s : State) : Host.Outcome State Fault Refusal := .next (onCommand 0x0083 setPassword s)

end Sys2Proof.Machine
end

