-- ==== Sys2Proof/Machine/Ceremony.lean ====
section
/-! DEFINITION. Quorum sets, shares and key packages, and their installation (R162, R173, R500, R528 to R535). -/

namespace Sys2Proof.Machine

/-- Product in GF(2^8) under x^8 + x^4 + x^3 + x + 1, by the bits of `a` from the top. -/
def gfMulLoop (a b : Byte) : Nat → Byte → Byte
  | 0, r => r
  | n + 1, r => gfMulLoop a b n (aesXtime r ^^^ (if a.getLsbD n then b else 0))

/-- Product in GF(2^8). -/
def gfMul (a b : Byte) : Byte := gfMulLoop a b 8 0

/-- Inverse in GF(2^8): the 254th power; 0 for 0. -/
def gfInv (a : Byte) : Byte := (List.range 253).foldl (fun r _ => gfMul r a) a

/-- A share: the polynomial's value at x, coefficients lowest first, byte by byte (R532). -/
def shareAt (poly : List Bytes) (x : Byte) : Bytes :=
  (List.range 32).map fun i => poly.foldr (fun c r => gfMul r x ^^^ byteAt c i) 0

/-- The weight of share `i` among the x of all, for the value at `at0`. -/
def lagrange (at0 : Byte) (xs : List Byte) (i : Nat) : Byte :=
  let xi := xs.getD i 0
  xs.zipIdx.foldl (fun r p => if p.2 = i then r else gfMul r (gfMul (at0 ^^^ p.1) (gfInv (xi ^^^ p.1)))) 1

/-- The value at `at0` of the polynomial through the shares: index and 32 values (R532). -/
def interpolate (at0 : Byte) (shares : List (Nat × Bytes)) : Bytes :=
  let xs := shares.map fun p => byte (p.1 + 1)
  (List.range 32).map fun k => shares.zipIdx.foldl (fun r p => r ^^^ gfMul (lagrange at0 xs p.2) (byteAt p.1.2 k)) 0

/-- The FPK the shares give. -/
def sharedFpk (shares : List (Nat × Bytes)) : Bytes := interpolate 0 shares

/-- A quorum set descriptor (R531). -/
def descriptor (m tick : Nat) (cards : List Bytes) : Bytes :=
  leBytes 2 1 ++ [byte m, byte cards.length] ++ leBytes 8 tick ++ zeros 4 ++ (cards.map (padTo 64)).flatten

/-- The quorum set a descriptor names; none when it is not one. -/
def readDescriptor (b : Bytes) : Option QuorumSet :=
  let m := fieldLE b 2 1
  let n := fieldLE b 3 1
  if fieldLE b 0 2 = 1 ∧ 1 ≤ m ∧ m ≤ n ∧ n ≤ 16 ∧ b.length = 16 + 64 * n ∧ slice b 12 4 = zeros 4 then
    some { id := (sha256 b).take 8, m := m, cards := (List.range n).map fun k => slice b (16 + 64 * k) 64 }
  else none

/-- The items of a package body: type and value; none when the bytes are not whole items (R533). -/
def readItemsLoop : Nat → Bytes → Option (List (Nat × Bytes))
  | 0, b => if b.isEmpty then some [] else none
  | fuel + 1, b =>
    if b.isEmpty then some []
    else
      let n := fieldLE b 1 2
      if b.length < 3 + n then none else (readItemsLoop fuel (b.drop (3 + n))).map fun r => (fieldLE b 0 1, slice b 3 n) :: r

/-- The items of a package body. -/
def readItems (b : Bytes) : Option (List (Nat × Bytes)) := readItemsLoop b.length b

/-- Items as a package body. -/
def writeItems (xs : List (Nat × Bytes)) : Bytes := (xs.map fun p => [byte p.1] ++ leBytes 2 p.2.length ++ p.2).flatten

/-- A key package under an FPK (R533). -/
def makePackage (fpk iv id : Bytes) (seq : Nat) (items : List (Nat × Bytes)) : Bytes :=
  let body := writeItems items
  let head := ascii "TKPK" ++ leBytes 2 1 ++ zeros 2 ++ padTo 8 id ++ leBytes 4 seq ++ leBytes 4 body.length ++ padTo 12 iv ++ zeros 28
  let (ct, tag) := gcmEncrypt fpk (padTo 12 iv) head body
  head ++ ct ++ tag

/-- A package opened: QSET_ID, PKG_SEQ, items; none when its header, its tag or an item's type fails (R533, R534). -/
def openPackage (fpk p : Bytes) : Option (Bytes × Nat × List (Nat × Bytes)) :=
  let n := fieldLE p 20 4
  let head := p.take 64
  if slice p 0 4 ≠ ascii "TKPK" ∨ fieldLE p 4 2 ≠ 1 ∨ 65536 < n ∨ p.length ≠ 80 + n then none
  else match gcmDecrypt fpk (slice p 24 12) head (slice p 64 n) (slice p (64 + n) 16) with
    | none => none
    | some body => match readItems body with
      | some items => if items.all fun x => 1 ≤ x.1 && x.1 ≤ 0x0F then some (slice p 8 8, fieldLE p 16 4, items) else none
      | none => none

/-- Key-slot material of an EC private key: d, then its public point. -/
def ecMaterial (cv : Curve) (v : Bytes) : Option Bytes :=
  let d := beNat v
  if v.length = curveLen cv ∧ 1 ≤ d ∧ d < curveN cv then some (v ++ eccPublic cv d) else none

/-- A slot filled. -/
def setSlot (n : Nat) (b : Bytes) (k : ChannelKeys) : ChannelKeys :=
  { k with slots := k.slots.filter (fun p => p.1 != n) ++ [(n, { material := b })] }

/-- An item checked as R173 checks a key slot and put among a channel's keys; none when it fails. -/
def installItem (x : Nat × Bytes) (k : ChannelKeys) : Option ChannelKeys :=
  let v := x.2
  let slot := fieldLE v 0 1
  let fixed (n : Nat) (f : ChannelKeys) : Option ChannelKeys := if v.length = n then some f else none
  let ec (n : Nat) (cv : Curve) : Option ChannelKeys := (ecMaterial cv v).map fun b => setSlot n b k
  match x.1 with
  | 0x01 => (readDescriptor v).map fun q => { k with quorum := some q }
  | 0x02 => fixed 32 { k with frk := some v }
  | 0x03 => ec 0 .p256
  | 0x04 => ec 1 .p384
  | 0x05 => ec 2 .p256
  | 0x06 => ec 3 .p384
  | 0x07 => ec 4 .p384
  | 0x08 => fixed 8 { k with heTitle := some v }
  | 0x09 => if v.length = 33 ∧ slot ≤ 3 then some { k with mkdk := k.mkdk.set slot (some (v.drop 1)) } else none
  | 0x0A => fixed 32 { k with importKey := some v }
  | 0x0B => if v.length = 96 ∧ eccOnCurve .p384 (fieldBE v 0 48) (fieldBE v 48 48) then some (setSlot 24 v k) else none
  | 0x0C =>
    let cv := curveOf (fieldLE v 1 1)
    let l := curveLen cv
    if slot ≤ 7 ∧ 1 ≤ fieldLE v 1 1 ∧ fieldLE v 1 1 ≤ 2 ∧ v.length = 2 + 2 * l ∧ eccOnCurve cv (fieldBE v 2 l) (fieldBE v (2 + l) l) then
      some (setSlot (16 + slot) (v.drop 2) k)
    else none
  | 0x0D =>
    let b := v.drop 1
    if slot ≤ 3 ∧ (b.length = 912 ∨ b.length = 1360) ∧ rsaBlockOk (rsaSlotLen b) b then some (setSlot (8 + slot) b k) else none
  | _ => some k

/-- All items installed, or the type of the first that fails. -/
def installItems : List (Nat × Bytes) → ChannelKeys → Except Nat ChannelKeys
  | [], k => .ok k
  | x :: xs, k => match installItem x k with
    | some k => installItems xs k
    | none => .error x.1

/-- One channel's part of an installation (R534 steps 2 to 4): its new state, or the item type that failed; 0 when the
channel does not run or cannot wrap keys. -/
def installOn (seq : Nat) (digest : Bytes) (items : List (Nat × Bytes)) (c : Channel) : Except Nat Channel :=
  if !chanUp c.state ∨ c.kek.isNone then .error 0
  else if c.pkgSeq = seq ∧ c.pkgDigest = digest then .ok c
  else match installItems items c.keys with
    | .ok k => .ok { c with keys := k, pkgSeq := seq, pkgDigest := digest }
    | .error n => .error n

/-- The tag's keys installed from FSK, which is then forgotten (R500). -/
def installTagKeys (fsk : Bytes) (s : State) : State :=
  let (kn, s) := mgDraw 1 16 s
  onTag (fun t => { countTo (fun c => { c with nonce := 0 }) t with
    kt := some (cmac fsk ([0x01] ++ tagUid ++ zeros 7)), kn := some kn, wrapped := true, issued := 0 }) s

/-- Management's own items. -/
def installMgmt (items : List (Nat × Bytes)) (s : State) : State :=
  items.foldl (fun s x =>
    match x.1 with
    | 0x01 => onMg (fun m => { m with quorum := (readDescriptor x.2).or m.quorum }) s
    | 0x0E => if x.2.length = 16 then installTagKeys x.2 s else s
    | 0x0F => if x.2.length = 32 then onMg (fun m => { m with fbk := some x.2 }) s else s
    | _ => s) s

/-- An opened package installed everywhere: the item type each channel failed at, and the state. -/
def installPackage (seq : Nat) (digest : Bytes) (items : List (Nat × Bytes)) (s : State) : List (Option Nat) × State :=
  let s := if s.mg.pkgSeq = seq ∧ s.mg.pkgDigest = digest then s
    else onMg (fun m => { m with pkgSeq := seq, pkgDigest := digest }) (installMgmt items s)
  (List.finRange 16).foldl (fun (r : List (Option Nat) × State) ch => if !s.dev.has ch then (r.1 ++ [none], r.2) else
    match installOn seq digest items (r.2.chan ch) with
    | .ok c => (r.1 ++ [none], setChan r.2 ch c)
    | .error n => (r.1 ++ [some n], mgCrumb 0x10 0x0A02 ch.val n 0 0 r.2)) ([], s)

/-- Wrapped intake items of CEREMONY_FINISH: 2 bytes of length, an ephemeral P-384 key, the wrapped item; opened with the
intake key (R534). None when one does not open. -/
def openIntakeLoop (key : Nat) : Nat → Bytes → Option (List (Nat × Bytes))
  | 0, b => if b.isEmpty then some [] else none
  | fuel + 1, b =>
    if b.isEmpty then some []
    else
      let n := fieldLE b 0 2
      let x := slice b 2 n
      if n < 96 ∨ b.length < 2 + n then none
      else match ecdh .p384 key (x.take 96) with
        | none => none
        | some z => match kwUnwrap (kdf z "INTAKE" [] 32) (x.drop 96) with
          | none => none
          | some item => (openIntakeLoop key fuel (b.drop (2 + n))).map fun r => (fieldLE item 0 1, slice item 3 (fieldLE item 1 2)) :: r

/-- The intake items of a payload. -/
def openIntake (key : Option Bytes) (b : Bytes) : Option (List (Nat × Bytes)) :=
  match key with
  | some k => openIntakeLoop (beNat k) b.length b
  | none => if b.isEmpty then some [] else none

/-- Items replaced by newer ones of the same place: types 0x09, 0x0C and 0x0D by their slot, the others by type. -/
def mergeItems (old new : List (Nat × Bytes)) : List (Nat × Bytes) :=
  let same (a b : Nat × Bytes) : Bool :=
    a.1 == b.1 && (!(a.1 == 0x09 || a.1 == 0x0C || a.1 == 0x0D) || fieldLE a.2 0 1 == fieldLE b.2 0 1)
  (old.filter fun a => !new.any fun b => same a b) ++ new

/-- A KEYGEN scalar of channel 0, from its key-generation instance (R175). -/
def drawScalar (cv : Curve) (s : State) : Bytes × State :=
  let l := curveLen cv
  let (r, c) := drawFrom 1 (l + 8) (s.chan 0)
  (beBytes l (scalarOf cv r), onChan 0 (fun _ _ _ => c) s)

/-- The items of a new fleet (R535 kind 1). -/
def fleetItems (desc : Bytes) (s : State) : List (Nat × Bytes) × State :=
  let (k1, s) := drawScalar .p256 s
  let (k2, s) := drawScalar .p384 s
  let (k3, s) := drawScalar .p256 s
  let (k4, s) := drawScalar .p384 s
  let (k5, s) := drawScalar .p384 s
  let (frk, s) := mgDraw 0 32 s
  let (fsk, s) := mgDraw 0 16 s
  let (fbk, s) := mgDraw 0 32 s
  ([(0x01, desc), (0x02, frk), (0x03, k1), (0x04, k2), (0x05, k3), (0x06, k4), (0x07, k5), (0x0E, fsk), (0x0F, fbk)], s)

end Sys2Proof.Machine
end

