-- ==== Sys2Proof/Machine/Cards.lean ====
section
/-! DEFINITION. The SD slot, the smart-card slot, and the ceremony mailbox commands (R518 to R538, R540). -/

namespace Sys2Proof.Machine

/-- The SD host changed. -/
def onSd (f : SdHost → SdHost) (s : State) : State := { s with cards := { s.cards with sd := f s.cards.sd } }

/-- The smart-card slot changed. -/
def onSc (f : ScSlot → ScSlot) (s : State) : State := { s with cards := { s.cards with sc := f s.cards.sc } }

/-- A device-level source that management raises while it runs. -/
def cardSource (v : Nat) (s : State) : State := if mgmtServes s then raiseFn0 v s else s

/-- A transaction or transfer in progress ends the mailbox message that issued it. -/
def endWaiting (codes : List Nat) (status : Nat) (s : State) : State :=
  match s.fn0.current with
  | some (cmd, _) => if codes.contains cmd then refuse status s else s
  | none => s

/-- One mode lower: SDR104, SDR50, high speed, default speed (R521). -/
def lowerMode (m : Nat) : Nat := if m = 5 then 4 else if 2 ≤ m then 1 else 0

/-- A card identified at insertion (R518 to R520, R523). -/
def identifySd (x : SdSeen) (recovery : Bool) (d : SdHost) : SdHost :=
  { runSd x recovery d with
    present := true, irq := setBit d.irq 0 true, crc := 0, drops := 0, errors := [], busy := false, writing := none, seen := some x
    volume := x.volume.isSome, objects := x.volume.getD [] }

/-- SD_CARD_DETECT: a card and what is found in it, or none (R522). -/
def sdDetect (card : Option SdSeen) (s : State) : State :=
  match card with
  | some x =>
    if s.cards.sd.present ∨ !s.pw.main then s else cardSource 60 (onSd (identifySd x (!mgmtServes s)) s)
  | none =>
    if !s.cards.sd.present then s
    else
      let busy := s.cards.sd.busy
      let s := onSd (fun d => { d with
        present := false, irq := setBit d.irq 1 true, busy := false, writing := none, v18 := false, tuned := false, volume := false, objects := [], seen := none }) s
      cardSource 60 (if busy then endWaiting [0x0097, 0x0099] 0x0403 s else s)

/-- SD_TRANSFER_DONE: CRC errors met, and whether a retry succeeded (R521). -/
def sdDone (crcErrors : Nat) (ok : Bool) (s : State) : State :=
  let d := s.cards.sd
  if !d.busy then s
  else
    let s := onSd (fun d => { d with busy := false, crc := sat16 (d.crc + crcErrors), irq := setBit d.irq 2 true }) s
    if ok then
      let put (d : SdHost) : SdHost := match d.writing with
        | some o => { d with writing := none, volume := true, objects := d.objects ++ [o] }
        | none => d
      match s.fn0.current with
      | some (0x0097, _) => answer [] (onSd put s)
      | _ => onSd put s
    else
      let errors := s.dev.tick :: (d.errors.filter fun t => s.dev.tick ≤ t + 60000)
      let drop := decide (3 ≤ errors.length) && d.mode != 0
      let s := onSd (fun d => { d with
        irq := setBit d.irq 3 true, writing := none, errors := if drop then [] else errors
        drops := if drop then min (d.drops + 1) 255 else d.drops, mode := if drop then lowerMode d.mode else d.mode
        v18 := d.v18 && (!drop || decide (2 ≤ lowerMode d.mode)), tuned := d.tuned && (!drop || decide (4 ≤ lowerMode d.mode)) }) s
      let s := if drop then mgCrumb 0x16 0x2A04 s.cards.sd.mode s.cards.sd.crc 0 0 s else s
      endWaiting [0x0097] 0x0109 s

/-- SD_RETUNE: the tap of the widest passing window, if one passes (R519). -/
def sdRetune (window : Option Nat) (d : SdHost) : SdHost :=
  if !d.busy ∨ d.mode < 4 then d
  else match window with
    | some t => { d with tuned := true, tap := t }
    | none => { d with tuned := false, v18 := false, mode := 1 }

/-- The card deactivated. -/
def scOff (c : ScSlot) : ScSlot := { c with st := .off, cls := 0, fi := 0, di := 0, ins := none, retries := 0, chained := [] }

/-- Activation begun at a class (R524). -/
def scActivate (cls : Nat) (c : ScSlot) : ScSlot := { scOff c with st := .activating, cls := cls, edcCrc := false }

/-- SC_INSERT. -/
def scInsert (s : State) : State :=
  if s.cards.sc.present ∨ !s.pw.main then s
  else cardSource 61 (onSc (fun c => { scActivate 1 c with present := true, irq := setBit c.irq 0 true, ppsRefused := false }) s)

/-- SC_REMOVE (R527): a transaction in progress is discarded and its message ends CARD_REMOVED. -/
def scRemove (s : State) : State :=
  let c := s.cards.sc
  if !c.present then s
  else
    let s := onSc (fun c => { scOff c with present := false, irq := setBit c.irq 1 true, ppsRefused := false }) s
    let s := match c.ins with
      | some n => mgCrumb 0x17 0x2A01 n 0 0 0 s
      | none => s
    cardSource 61 (endWaiting [0x0092, 0x0095] 0x0403 s)

/-- ATR_FAILED: no answer in either class, or one without T=1; a command that waits for the card ends CARD_ERROR. -/
def atrFailed (s : State) : State :=
  endWaiting [0x0092, 0x0095] Config.cardError.toNat
    (mgCrumb 0x17 0x2A02 0 0 0 0 (onSc (fun c => { scOff c with irq := setBit c.irq 4 true }) s))

/-- SC_ATR_TIMEOUT (R524). -/
def atrTimeout (s : State) : State :=
  let c := s.cards.sc
  if c.st ≠ .activating ∧ c.st ≠ .atr then s
  else if c.cls = 1 then onSc (scActivate 2) s
  else atrFailed s

/-- The interface bytes of an ATR from a TD byte on: fuel, the level, the bytes; TA1, the protocols offered, and the first
TC after T=1. -/
def atrLoop : Nat → Nat → Nat → Bytes → Option Nat × List Nat × Option Nat
  | 0, _, _, _ => (none, [], none)
  | fuel + 1, level, td, b =>
    let has (k : Nat) : Bool := bit td (4 + k)
    let off (k : Nat) : Nat := ((List.range k).filter has).length
    let ta : Option Nat := if has 0 then some (fieldLE b 0 1) else none
    let tc : Option Nat := if has 2 then some (fieldLE b (off 2) 1) else none
    let r := if has 3 then
        let next := fieldLE b (off 3) 1
        let r := atrLoop fuel (level + 1) next (b.drop (off 4))
        (r.1, next % 16 :: r.2.1, r.2.2)
      else (none, [], none)
    (if level = 1 then ta else r.1, r.2.1, if 3 ≤ level ∧ td % 16 = 1 then (match tc with | some x => some x | none => r.2.2) else r.2.2)

/-- TA1, the protocols offered, and the EDC byte of an ATR; the level of the TD after T=1 is taken as 3 or more. -/
def readAtr (b : Bytes) : Option Nat × List Nat × Option Nat := atrLoop 8 1 (fieldLE b 1 1 / 16 * 16) (b.drop 2)

/-- Least f(max) of 4.8 MHz by Fi index (ISO/IEC 7816-3). -/
def fiFast (n : Nat) : Bool := [1, 2, 3, 4, 5, 6, 9, 10, 11, 12, 13].contains n

/-- Fi and Di asked for in PPS (R525). -/
def askedRate (ta1 : Option Nat) : Nat × Nat :=
  match ta1 with
  | some v =>
    let di := v % 16
    if fiFast (v / 16) ∧ (1 ≤ di ∧ di ≤ 9) then (v / 16, if di = 7 then 6 else di) else (1, 1)
  | none => (1, 1)

/-- The card is ready: SC_INSERTED filed. -/
def scReady (s : State) : State :=
  let c := s.cards.sc
  mgCrumb 0x17 0x2A00 c.cls c.fi c.di 0 (onSc (fun c => { c with st := .ready }) s)

/-- PPS for T=1 with PPS1. -/
def ppsBytes (fi di : Nat) : Bytes :=
  let b : Bytes := [0xFF, 0x11, byte (16 * fi + di)]
  b ++ [b.foldl (· ^^^ ·) 0]

/-- An ATR received (R525). -/
def atrReceived (b : Bytes) (s : State) : State :=
  let (ta1, ts, edc) := readAtr b
  if !ts.contains 1 then atrFailed s
  else
    let (fi, di) := askedRate ta1
    let refused := s.cards.sc.ppsRefused
    let s := onSc (fun c => { c with
      st := .pps, irq := setBit c.irq 2 true, edcCrc := edc.getD 0 % 2 == 1
      fi := if refused then 1 else fi, di := if refused then 1 else di }) s
    if refused then scReady s else s

/-- The answer to PPS: the request again, or a refusal, after which the card is activated once more. -/
def ppsReceived (b : Bytes) (s : State) : State :=
  let c := s.cards.sc
  if b = ppsBytes c.fi c.di then scReady s else onSc (fun c => { scActivate c.cls c with ppsRefused := true }) s

/-- The transaction ends with CARD_ERROR and the card is deactivated (R526). -/
def cardError (s : State) : State :=
  endWaiting [0x0092, 0x0095] Config.cardError.toNat (onSc (fun c => { scOff c with irq := setBit c.irq 4 true }) s)

/-- One more retransmission, at most three (R526). -/
def retransmit (s : State) : State :=
  if 3 ≤ s.cards.sc.retries then cardError s else onSc (fun c => { c with retries := c.retries + 1 }) s

/-- Whether a T=1 block is well formed: its length and, with LRC, its check byte. -/
def t1BlockOk (crc : Bool) (b : Bytes) : Bool :=
  let n := fieldLE b 2 1
  if crc then b.length == n + 5 else b.length == n + 4 && b.foldl (· ^^^ ·) 0 == 0

/-- A T=1 block received in a transaction (R526): an I-block's bytes are collected, S- and R-blocks leave it open. -/
def blockReceived (b : Bytes) (s : State) : State :=
  let s := onSc (fun c => { c with irq := setBit c.irq 3 true, buf := padTo 256 b }) s
  if !t1BlockOk s.cards.sc.edcCrc b then retransmit s
  else if bit (fieldLE b 1 1) 7 then s
  else onSc (fun c => { c with retries := 0, chained := c.chained ++ slice b 3 (fieldLE b 2 1) }) s

/-- SC_BLOCK_RECEIVED: an ATR, a PPS answer or a block, by the slot's state. -/
def scReceived (b : Bytes) (s : State) : State :=
  match s.cards.sc.st with
  | .activating | .atr => atrReceived b s
  | .pps => ppsReceived b s
  | .exchanging => blockReceived b s
  | .ready | .off => s

/-- SC_STAT. -/
def scStat (c : ScSlot) : Nat :=
  let st : Nat := match c.st with
    | .off => 0
    | .activating => 1
    | .atr => 2
    | .pps => 3
    | .ready => 4
    | .exchanging => 5
  b2n c.present + 2 * c.cls + 8 * st + 256 * c.fi + 4096 * c.di

/-- SD_STAT. -/
def sdStat (d : SdHost) : Nat := b2n d.present + 2 * b2n d.v18 + 4 * b2n d.tuned + 8 * b2n d.busy + 256 * d.tap

/-- SD_ERR. -/
def sdErr (d : SdHost) : Nat := d.crc + 65536 * d.drops

/-- The volume header (R523), objects laid out one after another from block 1. -/
def volumeHeader (d : SdHost) : Bytes :=
  if !d.volume then zeros 512
  else
    let place (r : Nat × Bytes) (o : Nat × Bytes) : Nat × Bytes :=
      (r.1 + ceilDiv o.2.length 512,
       r.2 ++ [byte o.1, 0, 0, 0] ++ leBytes 4 r.1 ++ leBytes 4 o.2.length ++ zeros 4 ++ sha256 o.2 ++ zeros 8)
    let b := padTo 508 (ascii "TSDV" ++ leBytes 2 1 ++ leBytes 2 d.objects.length ++ (d.objects.foldl place (1, [])).2)
    b ++ leBytes 4 (crc32 b)

/-- CARD_STATUS: SC_STAT, and the card's GET_INFO when it is ready. -/
def cardStatus (info : Bytes) (_ : Bytes) (s : State) : State :=
  answer (leBytes 4 (scStat s.cards.sc) ++ if s.cards.sc.st = .ready then info else []) s

/-- The lifecycle states a kind is open in (R535). -/
def ceremonyOpen (kind lifecycle : Nat) : Bool :=
  if kind = 1 then lifecycle == 3 else if kind = 2 then lifecycle == 3 || lifecycle == 7 else lifecycle == 7

/-- The part holds a DIK it can use (R529). -/
def holdsDik (s : State) : Bool := s.mg.dik.isSome && s.mg.kek.isSome

/-- The newest key package on the card. -/
def packageOn (d : SdHost) : Option Bytes := ((d.objects.filter fun o => o.1 == 2).getLast?).map (·.2)

/-- CEREMONY_BEGIN: kind at 0, member index at 2, M at 4, N at 5, lost index at 6; the response holds the kind at 0 and the
intake public key at 16. -/
def ceremonyBegin (p : Bytes) (s : State) : State :=
  let kind := fieldLE p 0 1
  let m := fieldLE p 4 1
  let n := fieldLE p 5 1
  let shape := 1 ≤ kind && kind ≤ 4 && fieldLE p 2 2 < 4096 && (kind != 1 || (1 ≤ m && m ≤ n && n ≤ 16)) && fieldLE p 6 1 < 16
  if !shape then refuse 0x0102 s
  else if s.cards.session.isSome ∨ !ceremonyOpen kind s.dev.lifecycle ∨ !holdsDik s then refuse 0x0B05 s
  else if !s.cards.sd.present then refuse 0x0403 s
  else if kind ≠ 1 ∧ (packageOn s.cards.sd).isNone then refuse 0x0B05 s
  else
    let (r, s) := mgDraw 1 56 s
    let d := scalarOf .p384 r
    let takes := kind = 1 ∨ kind = 3
    let (poly, s) := if kind = 1 then mgDraw 1 (32 * m) s else ([], s)
    let x : Ceremony := { kind := kind, member := fieldLE p 2 2, m := m, n := n, lost := fieldLE p 6 1, tick := s.dev.tick
                          intake := if takes then some (beBytes 48 d) else none, poly := chunks 32 poly
                          pkg := (packageOn s.cards.sd).getD [] }
    let s : State := { s with cards := { s.cards with session := some x } }
    answer ([byte kind] ++ zeros 15 ++ if takes then eccPublic .p384 d else []) (raiseFn0 62 s)

/-- A PIN of 6 to 12 digits, its length in the first byte (R528). -/
def pinOk (p : Bytes) : Bool :=
  let n := fieldLE p 0 1
  6 ≤ n && n ≤ 12 && (slice p 1 n).all fun b => 0x30 ≤ b.toNat && b.toNat ≤ 0x39

/-- The part a card plays in a session's next step: the index it takes, its share, and whether it enrols; none when it can
play none. -/
def stepIndex (x : Ceremony) (a : CardAnswer) : Option (Nat × Bool) :=
  let got := fieldLE a.share 0 1
  if x.kind = 1 then
    if x.cards.length < x.n ∧ ¬ x.cards.any (fun c => c.2 == a.pub) then some (x.cards.length, true) else none
  else if x.kind = 4 ∧ a.share.isEmpty then if x.cards.isEmpty then some (x.lost, true) else none
  else if a.share.length = 33 ∧ got < 16 ∧ ¬ x.shares.any (fun c => c.1 == got) then some (got, false) else none

/-- A card step that succeeded (R535). -/
def stepDone (x : Ceremony) (i : Nat) (enrols : Bool) (a : CardAnswer) (s : State) : State :=
  let share := if x.kind = 1 then shareAt x.poly (byte (i + 1))
    else if enrols then interpolate (byte (i + 1)) x.shares
    else a.share.drop 1
  let x : Ceremony := if enrols ∧ x.kind = 4 then { x with cards := [(i, a.pub)] }
    else if enrols then { x with cards := x.cards ++ [(i, a.pub)], shares := x.shares ++ [(i, share)] }
    else { x with shares := x.shares ++ [(i, share)] }
  answer ([byte i, byte x.shares.length]) (raiseFn0 62 { s with cards := { s.cards with session := some x } })

/-- A transaction with the card for a command: none while the card has not answered yet. A card that was deactivated is
activated first, and the command waits (R526). -/
def onCard (ins : Nat) (a : Option CardAnswer) (f : CardAnswer → State → State) (s : State) : State :=
  let c := s.cards.sc
  if !c.present then refuse 0x0403 s
  else if c.st = .off then onSc (scActivate 1) s
  else if c.st ≠ .ready ∧ c.st ≠ .exchanging then s
  else match a with
    | none => onSc (fun c => { c with st := .exchanging, ins := some ins, chained := [], retries := 0 }) s
    | some x =>
      let s := onSc (fun c => { c with st := .ready, ins := none, chained := [], retries := 0 }) s
      if x.failed then cardError s
      else if !x.pinOk then refuse 0x0300 (mgCrumb 0x17 0x2A03 (fieldLE x.serial 0 4) x.tries 0 0 s)
      else if x.refused then refuse 0x0102 s
      else f x s

/-- CARD_STEP (R535). -/
def cardStep (a : Option CardAnswer) (p : Bytes) (s : State) : State :=
  match s.cards.session with
  | none => refuse 0x0B05 s
  | some x =>
    if !pinOk p then refuse 0x0102 s
    else if !holdsDik s then refuse 0x0B05 s
    else onCard (if x.kind = 1 then 0x40 else 0x42) a (fun a s =>
      match stepIndex x a with
      | some (i, enrols) => stepDone x i enrols a s
      | none => refuse 0x0102 s) s

/-- The end of a ceremony that installed a package: DEV_MEMBER for the kinds that join, CEREMONY_DONE, source 62; the
response holds PKG_SEQ and, by channel, 0 or 0x8000 and the item type that failed. -/
def ceremonyDone (x : Ceremony) (seq : Nat) (id : Bytes) (r : List (Option Nat) × State) : State :=
  let s := r.2
  let s : State := { s with
    cards := { s.cards with session := none }
    dev := if x.kind ≤ 2 then { s.dev with member := x.member, memberValid := true } else s.dev }
  let s := raiseFn0 62 (mgCrumb 0x10 0x0A00 x.kind seq s.dev.member (fieldLE id 0 4) s)
  answer (leBytes 4 seq ++ (r.1.map fun n => leBytes 2 (match n with | some t => 0x8000 + t | none => 0)).flatten) s

/-- A new package written to the card as an object of kind 2 in place of the one before, and installed. -/
def publishPackage (x : Ceremony) (fpk id : Bytes) (seq : Nat) (items : List (Nat × Bytes)) (s : State) : State :=
  let (iv, s) := mgDraw 1 12 s
  let p := makePackage fpk iv id seq items
  let s := onSd (fun d => { d with volume := true, objects := (d.objects.filter fun o => o.1 != 2) ++ [(2, p)] }) s
  ceremonyDone x seq id (installPackage seq (sha256 p) items s)

/-- Whether a package read from SD may be installed: the set held, a PKG_SEQ not below, the same digest at the same PKG_SEQ
(R534). -/
def packageAllowed (id : Bytes) (seq : Nat) (digest : Bytes) (s : State) : Bool :=
  (match s.mg.quorum with
   | some q => q.id == id
   | none => true) && s.mg.pkgSeq ≤ seq && (seq != s.mg.pkgSeq || s.mg.pkgDigest.isEmpty || s.mg.pkgDigest == digest)

/-- CEREMONY_FINISH (R534, R535): the payload holds the wrapped intake items. -/
def ceremonyFinish (p : Bytes) (s : State) : State :=
  match s.cards.session with
  | none => refuse 0x0B05 s
  | some x =>
    if !s.cards.sd.present then refuse 0x0403 s
    else match openIntake x.intake p with
      | none => refuse 0x0102 s
      | some intake =>
        if x.kind = 1 then
          let c0 := s.chan 0
          if x.cards.length < x.n ∨ !chanUp c0.state ∨ c0.kek.isNone then refuse 0x0B05 s
          else
            let desc := descriptor x.m s.dev.tick (x.cards.map (·.2))
            let (items, s) := fleetItems desc s
            publishPackage x (padTo 32 (x.poly.headD [])) ((sha256 desc).take 8) 1 (mergeItems items intake) s
        else
          let fpk := sharedFpk x.shares
          match openPackage fpk x.pkg with
          | none => refuse 0x0300 s
          | some (id, seq, items) =>
            if !packageAllowed id seq (sha256 x.pkg) s then refuse 0x0B05 s
            else if x.kind = 2 then ceremonyDone x seq id (installPackage seq (sha256 x.pkg) items s)
            else if x.kind = 3 then publishPackage x fpk id (seq + 1) (mergeItems items intake) s
            else match x.cards, (items.find? fun i => i.1 == 0x01).bind (fun i => readDescriptor i.2) with
              | [(i, pub)], some q =>
                let desc := descriptor q.m s.dev.tick (q.cards.set i pub)
                publishPackage x fpk ((sha256 desc).take 8) (seq + 1) (mergeItems items [(0x01, desc)]) s
              | _, _ => refuse 0x0B05 s

/-- CEREMONY_ABORT. -/
def ceremonyAbort (_ : Bytes) (s : State) : State := answer [] (endCeremony 1 s)

/-- CEREMONY_TIMEOUT. -/
def ceremonyTimeout (s : State) : State :=
  match s.cards.session with
  | some x => if x.tick + 3600000 ≤ s.dev.tick then endCeremony 2 s else s
  | none => s

/-- CARD_SIGN: the PIN in bytes 0 to 12, the body or list from 16; the response is the signature block. -/
def cardSign (a : Option CardAnswer) (p : Bytes) (s : State) : State :=
  if !pinOk p ∨ p.length ≤ 16 then refuse 0x0102 s
  else onCard (if fieldLE p 16 2 = 1 ∨ fieldLE p 16 2 = 2 then 0x30 else 0x32) a (fun a s =>
    answer ([byte a.index.val, 0, 0, 0] ++ padTo 64 a.sig) s) s

/-- SD_STATUS. -/
def sdStatus (_ : Bytes) (s : State) : State :=
  answer (leBytes 4 (sdStat s.cards.sd) ++ leBytes 4 (sdErr s.cards.sd) ++ volumeHeader s.cards.sd) s

/-- A log in a backup: its slots with their sequences. -/
def backupLog (l : LogState) : Bytes :=
  leBytes 4 l.slots.length ++ (l.slots.map fun p => leBytes 4 p.1 ++ padTo 32 p.2).flatten

/-- Management's configuration in a backup: class limits, thresholds, sideband. -/
def backupConfig (s : State) : Bytes :=
  (s.log.classes.map fun p => leBytes 2 p.1 ++ leBytes 2 p.2.cap ++ leBytes 4 p.2.period).flatten ++
  (s.mg.sensors.zipIdx.map fun p => leInt 4 (p.1.threshold p.2).1 ++ leInt 4 (p.1.threshold p.2).2).flatten ++
  [byte s.mg.side.nextAddr, byte s.mg.side.nextRate, byte (b2n s.tp.ship)]

/-- SD_BACKUP_WRITE (R523): the write runs until SD_TRANSFER_DONE. -/
def backupWrite (_ : Bytes) (s : State) : State :=
  if s.cards.sd.busy then s
  else if !s.cards.sd.present then refuse 0x0403 s
  else match s.mg.fbk with
    | none => refuse 0x0B05 s
    | some k =>
      if 8 ≤ s.cards.sd.objects.length ∨ s.mg.kek.isNone then refuse 0x0B05 s
      else
        let (iv, s) := mgDraw 1 12 s
        let (ct, tag) := gcmEncrypt k iv [] (backupLog s.log.rolling ++ backupLog s.log.pinned ++ backupConfig s)
        onSd (fun d => { d with busy := true, writing := some (3, iv ++ ct ++ tag) }) s

/-- AUTH_CHALLENGE (R537): the purpose at 0. -/
def authChallenge (p : Bytes) (s : State) : State :=
  let k := fieldLE p 0 1
  if k ≠ 0x10 ∧ k ≠ 0x14 then refuse 0x0102 s
  else
    let (n, s) := mgDraw 0 16 s
    answer (n ++ leBytes 8 Config.serial.toNat ++ leBytes 4 900) (onMg (fun m => { m with auth := some (k, n, s.dev.tick) }) s)

/-- SD_EJECT: waits for a write in progress. -/
def sdEject (_ : Bytes) (s : State) : State :=
  if s.cards.sd.busy then s else answer [] (onSd (fun d => { d with en := false, v18 := false, tuned := false }) s)

/-- SD_CARD_DETECT. -/
def execSdCardDetect (card : Option SdSeen) (s : State) : Host.Outcome State Fault Refusal := .next (sdDetect card s)

/-- SD_TRANSFER_DONE. -/
def execSdTransferDone (crcErrors : Nat) (ok : Bool) (s : State) : Host.Outcome State Fault Refusal := .next (sdDone crcErrors ok s)

/-- SD_RETUNE. -/
def execSdRetune (window : Option Nat) (s : State) : Host.Outcome State Fault Refusal := .next (onSd (sdRetune window) s)

/-- SC_INSERT. -/
def execScInsert (s : State) : Host.Outcome State Fault Refusal := .next (scInsert s)

/-- SC_REMOVE. -/
def execScRemove (s : State) : Host.Outcome State Fault Refusal := .next (scRemove s)

/-- SC_ATR_TIMEOUT. -/
def execScAtrTimeout (s : State) : Host.Outcome State Fault Refusal := .next (atrTimeout s)

/-- SC_BLOCK_RECEIVED. -/
def execScBlockReceived (data : Bytes) (s : State) : Host.Outcome State Fault Refusal := .next (scReceived data s)

/-- ACTIVATE. -/
def execActivate (s : State) : Host.Outcome State Fault Refusal := .next (if s.cards.sc.present then onSc (scActivate 1) s else s)

/-- DEACTIVATE. -/
def execDeactivate (s : State) : Host.Outcome State Fault Refusal := .next (onSc scOff s)

/-- BWT_EXPIRY. -/
def execBwtExpiry (s : State) : Host.Outcome State Fault Refusal :=
  .next (if s.cards.sc.st = .exchanging then retransmit s else s)

/-- CARD_STATUS: what the card answers to GET_INFO. -/
def execCardStatus (info : Bytes) (s : State) : Host.Outcome State Fault Refusal := .next (onCommand 0x0090 (cardStatus info) s)

/-- CEREMONY_BEGIN. -/
def execCeremonyBegin (s : State) : Host.Outcome State Fault Refusal := .next (onCommand 0x0091 ceremonyBegin s)

/-- CARD_STEP: the card's answer once its transaction is over. -/
def execCardStep (card : Option CardAnswer) (s : State) : Host.Outcome State Fault Refusal := .next (onCommand 0x0092 (cardStep card) s)

/-- CEREMONY_FINISH. -/
def execCeremonyFinish (s : State) : Host.Outcome State Fault Refusal := .next (onCommand 0x0093 ceremonyFinish s)

/-- CEREMONY_ABORT. -/
def execCeremonyAbort (s : State) : Host.Outcome State Fault Refusal := .next (onCommand 0x0094 ceremonyAbort s)

/-- CEREMONY_TIMEOUT. -/
def execCeremonyTimeout (s : State) : Host.Outcome State Fault Refusal := .next (ceremonyTimeout s)

/-- CARD_SIGN. -/
def execCardSign (card : Option CardAnswer) (s : State) : Host.Outcome State Fault Refusal := .next (onCommand 0x0095 (cardSign card) s)

/-- SD_STATUS. -/
def execSdStatus (s : State) : Host.Outcome State Fault Refusal := .next (onCommand 0x0096 sdStatus s)

/-- SD_BACKUP_WRITE. -/
def execSdBackupWrite (s : State) : Host.Outcome State Fault Refusal := .next (onCommand 0x0097 backupWrite s)

/-- AUTH_CHALLENGE. -/
def execAuthChallenge (s : State) : Host.Outcome State Fault Refusal := .next (onCommand 0x0098 authChallenge s)

/-- SD_EJECT. -/
def execSdEject (s : State) : Host.Outcome State Fault Refusal := .next (onCommand 0x0099 sdEject s)

end Sys2Proof.Machine
end

