-- ==== Sys2Proof/Machine/Fleet.lean ====
section
/-! DEFINITION. The fleet jobs and the pair's timed events (R370 to R393). -/

namespace Sys2Proof.Machine

/-- Runs a fleet job when its channel is fleet-ready and its role is accepted; ROLE otherwise (R368, R370). -/
def withRole (d : Device) (e : JEntry) (ok : Channel → Bool) (f : Channel → Channel) (c : Channel) : Channel :=
  if fleetReady d c && ok c then f c else failE e ⟨0x0602, 0, 0⟩ c

/-- NOTE_BUILD (R376). -/
def noteBuildJob (ch : Ch) (d : Device) (e : JEntry) (c : Channel) : Channel :=
  withRole d e activePaired (fun c =>
    if c.pair.syncLost then failE e ⟨0x0601, 0, 0⟩ c
    else
      let p := notePayload c
      let c := { c with pair := { c.pair with
        unacked := c.pair.unacked ++ c.pair.buffer, buffer := [], lastNote := some (c.shard.epoch, c.shard.root) } }
      let (m, c) := buildMessage ch d 1 p c
      finishPlain e c.shard.epoch m c) c

/-- PAIR_BEAT (R384). -/
def pairBeatJob (ch : Ch) (d : Device) (e : JEntry) (c : Channel) : Channel :=
  withRole d e (fun c => c.pair.role != .none && c.pair.peer.isSome) (fun c =>
    let ack := if c.pair.role = .active then c.shard.ackEpoch else 0
    let p := leBytes 8 d.tick ++ leBytes 8 c.shard.epoch ++ leBytes 8 ack ++ [byte (roleCode c.pair.role)] ++ zeros 7
    let (m, c) := buildMessage ch d 3 p c
    finishPlain e 0 m c) c

/-- SNAPSHOT_BUILD index 0 (R381). -/
def snapshotStartJob (ch : Ch) (d : Device) (e : JEntry) (c : Channel) : Channel :=
  if !pairQuiet c then c
  else withRole d e activePaired (fun c =>
    if e.sub.param / 256 % 2 ^ 24 ≠ 0 then invalidField e 56 c
    else
      let snap := (c.pair.snapId + 1) % 2 ^ 32
      let (m, c) := buildMessage ch d 4 (chunkHead snap 0 c.shard.epoch ++ chunkState c) c
      stageAct e 0 m.length (.snapStart snap) (outWrite e.jidx e.sub m) c) c

/-- SNAPSHOT_BUILD index 1 to 4, and the index values R381 does not give. -/
def snapshotChunkJob (ch : Ch) (d : Device) (e : JEntry) (c : Channel) : Channel :=
  let k := e.sub.pbyte 56
  if !pairQuiet c then c
  else withRole d e activePaired (fun c =>
    if e.sub.param / 256 % 2 ^ 24 ≠ 0 ∨ k < 1 ∨ 4 < k then invalidField e 56 c
    else if c.pair.syncLost ∨ e.sub.param / 2 ^ 32 ≠ c.pair.snapId then failE e ⟨0x0601, 0, 0⟩ c
    else
      let nodes := ((List.range 4096).map fun i => padTo 16 (treeNode c.tree (4096 * (k - 1) + i))).flatten
      let (m, c) := buildMessage ch d 4 (chunkHead c.pair.snapId k c.shard.epoch ++ nodes) c
      stageAct e 0 m.length .snapChunk (outWrite e.jidx e.sub m) c) c

/-- SNAPSHOT_BUILD index 0xFF (R381). -/
def snapshotCommitJob (ch : Ch) (d : Device) (e : JEntry) (c : Channel) : Channel :=
  withRole d e activePaired (fun c =>
    if e.sub.param / 256 % 2 ^ 24 ≠ 0 then invalidField e 56 c
    else if c.pair.syncLost ∨ e.sub.param / 2 ^ 32 ≠ c.pair.snapId then failE e ⟨0x0601, 0, 0⟩ c
    else match c.pair.lastNote with
      | none => failE e ⟨0x0601, 0, 0⟩ c
      | some (ep, root) =>
        let (m, c) := buildMessage ch d 5 (leBytes 4 c.pair.snapId ++ zeros 4 ++ leBytes 8 ep ++ padTo 16 root) c
        finishPlain e 0 m c) c

/-- A beat of an active peer was accepted less than 15 ms ago (R385). -/
def freshActiveBeat (d : Device) (c : Channel) : Bool :=
  match c.pair.lastBeat with
  | some (t, r) => r == .active && d.tick < t + 15
  | none => false

/-- PROMOTE (R385, R106, R159); `image` is what a read of the tree image returns. -/
def promoteJob (d : Device) (image : Option Bytes) (e : JEntry) (c : Channel) : Channel :=
  if !pairQuiet c then c
  else withRole d e (fun c => c.pair.role == .standby && !freshActiveBeat d c) (fun c =>
    let c := { c with pair := { c.pair with shadow := none } }
    match image.filter (fun _ => c.host.win.holds c.shard.treeBase 262144) with
    | none => failE e ⟨0x0109, 0, 0⟩ c
    | some b =>
      let t := treeRebuilt b c
      if treeRoot t ≠ c.shard.root then failE e ⟨0x0203, 22, 0⟩ c
      else
        stageAct e ((c.shard.promo + 1) % 2 ^ 32) 0 (.promote t) [] c) c

/-- The conditions of R387. -/
def relinquishOk (d : Device) (c : Channel) : Bool :=
  activePaired c && inflight c == 1 && c.pair.buffer.isEmpty && c.shard.ackEpoch == c.shard.epoch && !c.gov.soloNow d.tick

/-- The payload of a RELINQUISH (R387): the ages newest first. -/
def relinquishPayload (d : Device) (c : Channel) : Bytes :=
  let young := c.gov.log.filter fun t => d.tick < t + c.gov.window * 1000
  leBytes 8 c.shard.epoch ++ padTo 16 c.shard.root ++ leBytes 2 c.gov.budget ++ leBytes 2 c.gov.window ++
  leBytes 4 (c.gov.tokenUnits d.tick) ++ leBytes 4 ((c.gov.token.map fun p => secondsLeft p.2 d.tick).getD 0) ++
  leBytes 2 young.length ++ zeros 2 ++ (young.map fun t => leBytes 4 (d.tick - t)).flatten

/-- RELINQUISH (R387). -/
def relinquishJob (ch : Ch) (d : Device) (e : JEntry) (c : Channel) : Channel :=
  if !pairQuiet c then c
  else withRole d e (relinquishOk d) (fun c =>
    let (m, c) := buildMessage ch d 6 (relinquishPayload d c) c
    stageAct e 0 m.length .relinquish (outWrite e.jidx e.sub m) c) c

/-- PAIR_RECEIVE: checks 1 to 6 of R374. -/
def pairReceiveJob (ch : Ch) (d : Device) (e : JEntry) (c : Channel) : Channel :=
  match messageCheck ch d c (e.data 32 e.sub.inLen) with
  | .error f => failE e f c
  | .ok _ => onEntry e.jidx (fun x => { x with checked := true }) c

/-- A message of one kind that passed the checks, applied; the checks are made on the state that stands. -/
def receiveJob (ch : Ch) (d : Device) (kind : Nat) (f : JEntry → PairMsg → Bytes → Channel → Channel) (e : JEntry) (c : Channel) :
    Channel :=
  if !e.checked || !pairQuiet c then c
  else match messageCheck ch d c (e.data 32 e.sub.inLen) with
    | .error x => failE e x c
    | .ok (m, p) => if m.kind = kind then f e m p c else c

/-- The ACK of a note or a COMMIT, for the epoch and the root that its commit produces, staged with that commit. -/
def ackCommit (ch : Ch) (d : Device) (e : JEntry) (a : ShardAct) (epoch : Nat) (root extra : Bytes) (pre : List HostWrite)
    (c : Channel) : Channel :=
  let (m, c) := buildMessage ch d 2 (ackPayload epoch root) c
  let out := m ++ extra
  stageAct e 0 out.length a (pre ++ outWrite e.jidx e.sub out) c

/-- The ACK of a note that left the live state alone: it carries the live epoch, which is what can be promoted. -/
def noteAck (ch : Ch) (d : Device) (e : JEntry) (items : List NoteItem) (c : Channel) : Channel :=
  let (m, c) := buildMessage ch d 2 (ackPayload c.shard.epoch c.shard.root) c
  finishPlain e 0 (m ++ (items.map NoteItem.toBytes).flatten) c

/-- A note applied to the live state (R378). -/
def noteLive (ch : Ch) (d : Device) (e : JEntry) (p : Bytes) (c : Channel) : Channel :=
  match applyNote true p { nodes := c.tree, epoch := c.shard.epoch, b := c.gov.budget, w := c.gov.window, gen := c.shard.gen } with
  | .error f => failE e f c
  | .ok none => noteAck ch d e [] c
  | .ok (some y) =>
    let ws := y.applied.filterMap fun i => match i with
      | .leaf meter _ bnd _ => some ⟨.treeNode, e.jidx, (c.shard.treeBase + 16 * groupOf meter) % 2 ^ 64, padTo 16 bnd⟩
      | _ => none
    ackCommit ch d e (.note y.nodes y.epoch y.gen y.b y.w) y.epoch (treeRoot y.nodes) (y.applied.map NoteItem.toBytes).flatten ws c

/-- A note applied to a staged shadow (R382). -/
def noteShadow (ch : Ch) (d : Device) (e : JEntry) (p : Bytes) (s : Shadow) (c : Channel) : Channel :=
  match missingChunk s with
  | some k => failE e ⟨0x0604, k, 0⟩ c
  | none => match applyNote false p { nodes := s.nodes, epoch := s.epoch, b := s.b, w := s.w, gen := s.gen } with
    | .error f => failE e f c
    | .ok none => noteAck ch d e [] c
    | .ok (some y) =>
      let s := { s with nodes := y.nodes, epoch := y.epoch, b := y.b, w := y.w, gen := y.gen }
      noteAck ch d e y.applied { c with pair := { c.pair with shadow := some s } }

/-- RECEIVE_NOTE (R378, R382). -/
def receiveNoteJob (ch : Ch) (d : Device) (e : JEntry) (_ : PairMsg) (p : Bytes) (c : Channel) : Channel :=
  if e.sub.outLen < 96 + 64 * fieldLE p 32 2 then failE e ⟨0x0105, 52, 96 + 64 * fieldLE p 32 2⟩ c
  else match c.pair.shadow with
    | some s => noteShadow ch d e p s c
    | none => if c.pair.role = .standbyEmpty then failE e ⟨0x0604, 0, 0⟩ c else noteLive ch d e p c

/-- RECEIVE_ACK (R379). -/
def receiveAckJob (e : JEntry) (_ : PairMsg) (p : Bytes) (c : Channel) : Channel :=
  let ep := fieldLE p 0 8
  if c.shard.epoch < ep then failE e ⟨0x0601, 0, 0⟩ c
  else if c.pair.syncLost ∨ ep ≤ c.shard.ackEpoch then finishPlain e 0 [] c
  else
    stageAct e 0 0 (.ack ep) [] c

/-- The role a code names. -/
def roleOf (n : Nat) : PairRole := if n = 1 then .active else if n = 2 then .standby else if n = 3 then .standbyEmpty else .none

/-- RECEIVE_BEAT (R384). -/
def receiveBeatJob (d : Device) (e : JEntry) (m : PairMsg) (p : Bytes) (c : Channel) : Channel :=
  let t := fieldLE p 0 8
  if c.pair.beatTicks.any (fun x => x.1 == m.snonce && t ≤ x.2) then failE e ⟨0x0601, 0, 0⟩ c
  else
    finishPlain e 0 [] { c with pair := { c.pair with
      lastBeat := some (d.tick, roleOf (fieldLE p 24 1))
      beatTicks := (m.snonce, t) :: c.pair.beatTicks.filter fun x => x.1 != m.snonce } }

/-- RECEIVE_CHUNK (R382). -/
def receiveChunkJob (e : JEntry) (m : PairMsg) (p : Bytes) (c : Channel) : Channel :=
  let snap := fieldLE p 0 4
  let k := fieldLE p 4 1
  let put (s : Shadow) : Channel := finishPlain e 0 [] { c with pair := { c.pair with shadow := some s } }
  if slice p 5 3 ≠ zeros 3 ∨ 4 < k ∨ m.len ≠ (if k = 0 then 144 else 65552) then invalidField e 32 c
  else match c.pair.shadow with
    | none => if k = 0 then put (shadowOf p) else failE e ⟨0x0601, 0, 0⟩ c
    | some s =>
      if k = 0 then
        if snap < s.snapId then failE e ⟨0x0601, 0, 0⟩ c
        else if snap = s.snapId then finishPlain e 0 [] c
        else put (shadowOf p)
      else if snap ≠ s.snapId then failE e ⟨0x0601, 0, 0⟩ c
      else if s.chunks.contains k then finishPlain e 0 [] c
      else put (stageChunk k p s)

/-- RECEIVE_COMMIT (R383). -/
def receiveCommitJob (ch : Ch) (d : Device) (e : JEntry) (_ : PairMsg) (p : Bytes) (c : Channel) : Channel :=
  if e.sub.outLen < 96 then failE e ⟨0x0105, 52, 96⟩ c
  else match c.pair.shadow with
    | none => failE e ⟨0x0604, 0, 0⟩ c
    | some s =>
      if fieldLE p 0 4 ≠ s.snapId then failE e ⟨0x0601, 0, 0⟩ c
      else match missingChunk s with
        | some k => failE e ⟨0x0604, k, 0⟩ c
        | none =>
          let root := treeRoot s.nodes
          if fieldLE p 8 8 ≠ s.epoch then failE e ⟨0x0601, 0, 0⟩ c
          else if root ≠ slice p 16 16 then failE e ⟨0x0203, 22, 0⟩ c
          else
            let base := if c.pair.role = .standbyEmpty then c.pair.bindTreeBase else c.shard.treeBase
            ackCommit ch d e (.adopt s base) s.epoch root [] [imageWrite e.jidx base s.nodes] c

/-- RECEIVE_RELINQUISH (R388). -/
def receiveRelinquishJob (d : Device) (e : JEntry) (m : PairMsg) (p : Bytes) (c : Channel) : Channel :=
  let n := fieldLE p 36 2
  if slice p 38 2 ≠ zeros 2 ∨ m.len ≠ 40 + 4 * n then invalidField e 32 c
  else if fieldLE p 0 8 ≠ c.shard.epoch ∨ slice p 8 16 ≠ padTo 16 c.shard.root then failE e ⟨0x0601, 0, 0⟩ c
  else
    let units := fieldLE p 28 4
    stageAct e 0 0 (.takeOver (fieldLE p 24 2) (fieldLE p 26 2)
      (if units = 0 then none else some (units, d.tick + 1000 * fieldLE p 32 4))
      ((List.range n).map fun i => d.tick - fieldLE p (40 + 4 * i) 4)) [] c

/-- The reserved fields of PAIR_BIND's PARAM. -/
def bindShape (s : Sub) : Bool :=
  (s.pbyte 56 == 1 || s.pbyte 56 == 2) && s.pbyte 57 < 2 && s.phalf 58 < 4096 && s.pbyte 60 < 16 &&
  (if s.pbyte 56 = 1 then s.phalf 62 == 0 else s.phalf 62 < 1024 && s.pbyte 61 == 0)

/-- The checks every PAIR_BIND starts with: R368, reserved fields, then checks 1 and 2 of R371. -/
def bindCheck (d : Device) (e : JEntry) (c : Channel) : Option Fail :=
  if !fleetReady d c then some ⟨0x0602, 0, 0⟩
  else if !bindShape e.sub ∨ e.sub.phalf 58 = d.member then some ⟨0x0102, 56, 0⟩
  else if c.pair.revoked.contains (e.sub.phalf 58) then some ⟨0x0603, e.sub.phalf 58, 0⟩
  else none

/-- PAIR_BIND as active (R371). -/
def pairBindActiveJob (d : Device) (e : JEntry) (c : Channel) : Channel :=
  if e.sub.pbyte 56 = 2 ∨ !pairQuiet c then c
  else match bindCheck d e c with
    | some f => failE e f c
    | none =>
      if !servesShard c ∨ e.sub.pbyte 57 = 1 then failE e ⟨0x0205, 0, 0⟩ c
      else if c.pair.role ≠ .none then failE e ⟨0x0602, 0, 0⟩ c
      else stageAct e 0 0 (.bindActive (e.sub.phalf 58, e.sub.pbyte 60) (e.sub.pbyte 61)) [] c

/-- PAIR_BIND as standby (R371). -/
def pairBindStandbyJob (d : Device) (e : JEntry) (c : Channel) : Channel :=
  let discard := e.sub.pbyte 57 = 1
  if e.sub.pbyte 56 ≠ 2 ∨ !pairQuiet c then c
  else match bindCheck d e c with
    | some f => failE e f c
    | none =>
      if ¬ discard ∧ (c.shard.assigned ∨ c.pair.role ≠ .none) then failE e ⟨0x0602, 0, 0⟩ c
      else
        stageAct e 0 0 (.bindStandby discard (e.sub.phalf 58, e.sub.pbyte 60) (e.sub.phalf 62) e.sub.outAddr) [] c

/-- PAIR_UNBIND (R372). -/
def pairUnbindJob (d : Device) (e : JEntry) (c : Channel) : Channel :=
  if !pairQuiet c then c
  else withRole d e (fun _ => true) (fun c => stageAct e 0 0 .unbind [] c) c

/-- PAIR_STATUS (R393). -/
def pairStatusJob (d : Device) (e : JEntry) (c : Channel) : Channel := finishPlain e 0 (pairStatusBytes d c) c

/-- REVOCATION_LOAD (R392). -/
def revocationLoadJob (d : Device) (e : JEntry) (c : Channel) : Channel :=
  if !pairQuiet c then c
  else withRole d e (fun _ => true) (fun c =>
    let b := e.data 32 e.sub.inLen
    match listCheck c b with
    | some f => failE e f c
    | none =>
      stageAct e 0 0 (.revoke (fieldLE b 4 4) (listMembers b)) [] c) c

/-- Something waits to be acknowledged (R380). -/
def unackedItems (c : Channel) : Bool := !(c.pair.buffer.isEmpty && c.pair.unacked.isEmpty)

/-- ACK_OVERDUE rises once (R380). -/
def ackOverdueStep (d : Device) (c : Channel) : Channel :=
  if activePaired c && unackedItems c && !c.pair.overdue && c.pair.ackTick + 50 ≤ d.tick then
    raiseSource 14 { c with pair := { c.pair with overdue := true } }
  else c

/-- ACK_LAG_RELEASE: the oldest job that waited proceeds to its commit when nothing holds it any longer (R389). -/
def ackLagReleaseStep (d : Device) (c : Channel) : Channel :=
  if c.pair.ackLag = 0 ∨ ackLagHolds d c then c
  else match c.jr.entries.find? (fun e => advancesIn e.sub.opcode && e.ready.isSome && e.state == .claimed) with
    | some e => commitStep e.jidx d c
    | none => c

/-- NOTE_BUILD. -/
def execNoteBuild (ch : Ch) (jidx : Nat) (s : State) : Host.Outcome State Fault Refusal :=
  .next (onChan ch (fun ch d c => runJob 0x0701 jidx (noteBuildJob ch d) c) s)

/-- PAIR_BEAT. -/
def execPairBeat (ch : Ch) (jidx : Nat) (s : State) : Host.Outcome State Fault Refusal :=
  .next (onChan ch (fun ch d c => runJob 0x0702 jidx (pairBeatJob ch d) c) s)

/-- SNAPSHOT_BUILD index 0. -/
def execSnapshotStart (ch : Ch) (jidx : Nat) (s : State) : Host.Outcome State Fault Refusal :=
  .next (onChan ch (fun ch d c => runJob 0x0703 jidx (fun e c =>
    if e.sub.pbyte 56 = 0 then snapshotStartJob ch d e c else c) c) s)

/-- SNAPSHOT_BUILD index 1 to 4; any index but these, 0 and 0xFF ends here with INVALID_FIELD. -/
def execSnapshotChunk (ch : Ch) (jidx : Nat) (s : State) : Host.Outcome State Fault Refusal :=
  .next (onChan ch (fun ch d c => runJob 0x0703 jidx (fun e c =>
    if e.sub.pbyte 56 = 0 ∨ e.sub.pbyte 56 = 0xFF then c else snapshotChunkJob ch d e c) c) s)

/-- SNAPSHOT_BUILD index 0xFF. -/
def execSnapshotCommit (ch : Ch) (jidx : Nat) (s : State) : Host.Outcome State Fault Refusal :=
  .next (onChan ch (fun ch d c => runJob 0x0703 jidx (fun e c =>
    if e.sub.pbyte 56 = 0xFF then snapshotCommitJob ch d e c else c) c) s)

/-- PROMOTE. -/
def execPromote (ch : Ch) (jidx : Nat) (image : Option Bytes) (s : State) : Host.Outcome State Fault Refusal :=
  .next (onChan ch (fun _ d c => runJob 0x0704 jidx (promoteJob d image) c) s)

/-- RELINQUISH. -/
def execRelinquish (ch : Ch) (jidx : Nat) (s : State) : Host.Outcome State Fault Refusal :=
  .next (onChan ch (fun ch d c => runJob 0x0705 jidx (relinquishJob ch d) c) s)

/-- PAIR_RECEIVE. -/
def execPairReceive (ch : Ch) (jidx : Nat) (s : State) : Host.Outcome State Fault Refusal :=
  .next (onChan ch (fun ch d c => runJob 0x0710 jidx (pairReceiveJob ch d) c) s)

/-- RECEIVE_NOTE. -/
def execReceiveNote (ch : Ch) (jidx : Nat) (s : State) : Host.Outcome State Fault Refusal :=
  .next (onChan ch (fun ch d c => runJob 0x0710 jidx (receiveJob ch d 1 (receiveNoteJob ch d)) c) s)

/-- RECEIVE_ACK. -/
def execReceiveAck (ch : Ch) (jidx : Nat) (s : State) : Host.Outcome State Fault Refusal :=
  .next (onChan ch (fun ch d c => runJob 0x0710 jidx (receiveJob ch d 2 receiveAckJob) c) s)

/-- RECEIVE_BEAT. -/
def execReceiveBeat (ch : Ch) (jidx : Nat) (s : State) : Host.Outcome State Fault Refusal :=
  .next (onChan ch (fun ch d c => runJob 0x0710 jidx (receiveJob ch d 3 (receiveBeatJob d)) c) s)

/-- RECEIVE_CHUNK. -/
def execReceiveChunk (ch : Ch) (jidx : Nat) (s : State) : Host.Outcome State Fault Refusal :=
  .next (onChan ch (fun ch d c => runJob 0x0710 jidx (receiveJob ch d 4 receiveChunkJob) c) s)

/-- RECEIVE_COMMIT. -/
def execReceiveCommit (ch : Ch) (jidx : Nat) (s : State) : Host.Outcome State Fault Refusal :=
  .next (onChan ch (fun ch d c => runJob 0x0710 jidx (receiveJob ch d 5 (receiveCommitJob ch d)) c) s)

/-- RECEIVE_RELINQUISH. -/
def execReceiveRelinquish (ch : Ch) (jidx : Nat) (s : State) : Host.Outcome State Fault Refusal :=
  .next (onChan ch (fun ch d c => runJob 0x0710 jidx (receiveJob ch d 6 (receiveRelinquishJob d)) c) s)

/-- PAIR_BIND as active. -/
def execPairBindActive (ch : Ch) (jidx : Nat) (s : State) : Host.Outcome State Fault Refusal :=
  .next (onChan ch (fun _ d c => runJob 0x0F80 jidx (pairBindActiveJob d) c) s)

/-- PAIR_BIND as standby. -/
def execPairBindStandby (ch : Ch) (jidx : Nat) (s : State) : Host.Outcome State Fault Refusal :=
  .next (onChan ch (fun _ d c => runJob 0x0F80 jidx (pairBindStandbyJob d) c) s)

/-- PAIR_UNBIND. -/
def execPairUnbind (ch : Ch) (jidx : Nat) (s : State) : Host.Outcome State Fault Refusal :=
  .next (onChan ch (fun _ d c => runJob 0x0F81 jidx (pairUnbindJob d) c) s)

/-- PAIR_STATUS. -/
def execPairStatus (ch : Ch) (jidx : Nat) (s : State) : Host.Outcome State Fault Refusal :=
  .next (onChan ch (fun _ d c => runJob 0x0F82 jidx (pairStatusJob d) c) s)

/-- REVOCATION_LOAD. -/
def execRevocationLoad (ch : Ch) (jidx : Nat) (s : State) : Host.Outcome State Fault Refusal :=
  .next (onChan ch (fun _ d c => runJob 0x0F83 jidx (revocationLoadJob d) c) s)

/-- ACK_OVERDUE. -/
def execAckOverdue (ch : Ch) (s : State) : Host.Outcome State Fault Refusal :=
  .next (onChan ch (fun _ d c => ackOverdueStep d c) s)

/-- ACK_LAG_RELEASE. -/
def execAckLagRelease (ch : Ch) (s : State) : Host.Outcome State Fault Refusal :=
  .next (onChan ch (fun _ d c => ackLagReleaseStep d c) s)

/-- SOLO_PERMIT_EXPIRY (R390). -/
def execSoloPermitExpiry (ch : Ch) (s : State) : Host.Outcome State Fault Refusal :=
  .next (onChan ch (fun _ d c => if c.gov.soloNow d.tick then c else { c with gov := { c.gov with solo := none } }) s)

end Sys2Proof.Machine
end

