-- ==== Sys2Proof/Machine/JournalJobs.lean ====
section
/-! DEFINITION. Journal administration jobs: COMMIT_LIST, COMMIT_RECOVER, JOURNAL_LIST (R79 to R81, R230). -/

namespace Sys2Proof.Machine

/-- A descriptor of COMMIT_LIST. -/
def slotLine (p : Nat × CommitSlot) : Bytes :=
  [byte p.1, byte p.2.queue] ++ leBytes 2 p.2.seq ++ leBytes 4 p.2.hostTag ++ leBytes 4 p.2.meter ++ leBytes 8 p.2.epoch ++
  leBytes 2 p.2.jidx ++ zeros 10

/-- COMMIT_LIST (R79). -/
def commitListJob (e : JEntry) (c : Channel) : Channel :=
  let l := heldSlots c.shard.slots
  let head := leBytes 8 c.shard.epoch ++ [byte l.length, byte c.jr.lastReset] ++ leBytes 2 (min c.jr.lost 0xFFFF) ++
    leBytes 4 c.jr.replayed ++ zeros 16
  finishPlain e l.length (head ++ (l.map slotLine).flatten) c

/-- The leaf of a held slot: Z0 for a retirement, else the leaf of its record; none when it does not unwrap (R80). -/
def slotLeaf (s : ShardBatt) (x : CommitSlot) : Option Bytes :=
  if x.record = zeros 224 then some (zNode 0)
  else (unwrapBlock s x.record).map fun b => leafOf (MRec.ofBytes b) x.record

/-- COMMIT_RECOVER (R80, R230). -/
def commitRecoverJob (e : JEntry) (c : Channel) : Channel :=
  let i := e.sub.pbyte 56 % 16
  match c.shard.slots.getD i none with
  | none => finishPlain e 0 [] c
  | some x =>
    if x.meter ≠ e.sub.meter then failE e ⟨0x0201, 0, 0⟩ c
    else if x.account then invalidField e 56 c
    else match slotLeaf c.shard x with
      | none => failE e ⟨0x0200, 0, 0⟩ c
      | some leaf =>
        let path := proofPath e.sub.meter leaf e.proof
        let bnd := (path.getLastD []).take 16
        if treeRoot (treeSet c.tree (groupOf e.sub.meter) bnd) ≠ c.shard.root then failE e ⟨0x0203, 22, 0⟩ c
        else
          let acc := accountSlot c.shard.slots x
          let bad := acc.isSome ∧ (e.sub.outAddr % 32 ≠ 0 ∨ e.sub.outLen < 224)
          if bad then failE e (if e.sub.outAddr % 32 ≠ 0 then ⟨0x0104, 40, 0⟩ else ⟨0x0105, 52, 224⟩) c
          else if acc.isSome ∧ ¬ c.host.win.holds e.sub.outAddr e.sub.outLen then failE e ⟨0x0103, 40, 0⟩ c
          else
            let ws := (if x.record = zeros 224 then [] else [⟨.record, e.jidx, e.sub.recAddr, x.record⟩]) ++
              pathWrites c e.jidx e.sub.proofAddr e.sub.meter path ++
              (match acc with
               | some a => [⟨.account, e.jidx, e.sub.outAddr, a.2.record⟩]
               | none => [])
            let c := finishJob e.jidx 0 0 1 0 ws c
            onEntry e.jidx (fun y => { y with slotIx := some i, slotIx2 := acc.map (·.1) }) c

/-- A line of JOURNAL_LIST. -/
def journalLine (e : JEntry) : Bytes :=
  leBytes 2 e.jidx ++ [byte (jStateCode e.state), byte e.queue] ++ leBytes 2 e.sub.seq ++ [0, 0] ++ leBytes 4 e.sub.hostTag ++
  leBytes 4 e.sub.meter

/-- JOURNAL_LIST (R81). -/
def journalListJob (e : JEntry) (c : Channel) : Channel :=
  let l := c.jr.entries.filter fun x => x.jidx != e.jidx
  finishPlain e l.length (leBytes 2 l.length ++ zeros 14 ++ (l.map journalLine).flatten) c

/-- COMMIT_LIST. -/
def execCommitList (ch : Ch) (jidx : Nat) (s : State) : Host.Outcome State Fault Refusal :=
  .next (onChan ch (fun _ _ c => runJob 0x0F20 jidx commitListJob c) s)

/-- COMMIT_RECOVER. -/
def execCommitRecover (ch : Ch) (jidx : Nat) (s : State) : Host.Outcome State Fault Refusal :=
  .next (onChan ch (fun _ _ c => runJob 0x0F21 jidx commitRecoverJob c) s)

/-- JOURNAL_LIST. -/
def execJournalList (ch : Ch) (jidx : Nat) (s : State) : Host.Outcome State Fault Refusal :=
  .next (onChan ch (fun _ _ c => runJob 0x0F22 jidx journalListJob c) s)

end Sys2Proof.Machine
end

