-- ==== Sys2Proof/Machine/CoreBus.lean ====
section
/-! DEFINITION. A Kenten core in its surroundings: its interrupt sources and the registers it reaches outside its unit
(R291, R395, R453, R515, R523, R527). -/

namespace Sys2Proof.Machine

/-- A bit of an interrupt word. -/
def irqBit (i : Nat) (b : Bool) : Nat := 2 ^ i * b2n b

/-- The core vector of a bucket is pending while the bucket stands at its threshold or above (R339). -/
def bucketPends (thr value : Nat) : Bool := thr != 0 && thr ≤ value

/-- The two words of channel `ch`'s tamper view (R453). -/
def tamperViewOf (ch : Ch) (s : State) : Nat × Nat :=
  (b2n s.tp.armed + 2 * b2n (bit s.tp.tampered ch.val) + 4 * b2n (bit s.tp.policy ch.val) + 8 * b2n s.tp.ship, s.tp.sticky)

/-- The interrupt sources of channel core `ch`, TIMER apart (R291). -/
def chanIrq (ch : Ch) (s : State) : Nat :=
  let c := s.chan ch
  let waits (q : Fin 4) : Bool := c.jr.entries.any fun e => e.queue == q.val && e.state == .written && !e.posted && !(c.pairOf q).cqFull
  irqBit 1 ((List.finRange 4).any fun q => (c.pairOf q).en && (c.pairOf q).unclaimed != 0) +
  irqBit 2 (bit c.causes 2) +
  irqBit 3 ((List.finRange 4).any waits) +
  irqBit 4 (bit c.causes 4) +
  irqBit 5 (c.ce.irqEn && c.ce.irq != 0) +
  irqBit 6 (c.pke.irqEn && c.pke.irq != 0) +
  irqBit 7 (c.hash.done || c.hash.error) +
  irqBit 8 (c.rng.irqEn && c.rng.irq != 0) +
  irqBit 9 (c.nv.irqEn && c.nv.irq != 0) +
  irqBit 10 (c.table.violValid && c.table.violOther) +
  irqBit 11 (bucketPends c.table.bucketThr c.table.bucket) +
  irqBit 12 (bucketPends c.nv.thr c.nv.bucket) +
  irqBit 13 c.notice +
  irqBit 14 (decide (c.port.drops ≠ 0) && decide (c.port.held.length < 32)) +
  irqBit 15 (bit c.causes 15) +
  irqBit 16 (bit c.causes 16) +
  irqBit 17 (tamperViewOf ch s != c.viewSeen) +
  irqBit 18 (bit c.causes 18)

/-- The interrupt sources of the management core, TIMER apart (R395). -/
def mgmtIrq (s : State) : Nat :=
  let c := s.mgu
  irqBit 1 (s.fn0.phase == .waiting) +
  irqBit 2 (bit c.causes 2) + irqBit 3 (bit c.causes 3) +
  irqBit 4 (s.chans.toList.any fun y => !y.port.held.isEmpty) +
  irqBit 5 (bit c.causes 5) +
  irqBit 6 (s.mg.side.requests.any fun m => m.vdm) +
  irqBit 7 (bit c.causes 7) + irqBit 8 (bit c.causes 8) + irqBit 9 (bit c.causes 9) +
  irqBit 10 (c.nv.irqEn && c.nv.irq != 0) +
  irqBit 11 (bucketPends c.nv.thr c.nv.bucket) +
  irqBit 12 (bucketPends c.table.bucketThr c.table.bucket) +
  irqBit 13 (c.rng.irqEn && c.rng.irq != 0) +
  irqBit 14 (c.table.violValid && c.table.violOther) +
  irqBit 15 (s.nf.irqEn && s.nf.irq != 0) +
  irqBit 16 (s.cards.sd.irqEn && s.cards.sd.irq != 0) +
  irqBit 17 (s.cards.sc.irqEn && s.cards.sc.irq != 0) +
  irqBit 18 (bit c.causes 18)

/-- The tamper view of channel `ch` (R453). -/
def chanTamperView (ch : Ch) (o : Nat) (s : State) : Word :=
  BitVec.ofNat 32 (if o = 0 then (tamperViewOf ch s).1 else (tamperViewOf ch s).2)

/-- A write of the tag's NF_ registers (R515). -/
def nfStore (o : Nat) (v : Word) (s : State) : State :=
  let n := v.toNat
  match o with
  | 0x00 => onTag (fun t => { t with irqEn := bit n 0 }) s
  | 0x08 => onTag (fun t => { t with irq := t.irq - (t.irq &&& n) }) s
  | 0x14 => onTag (fun t => { t with memAddr := bits n 11 2 }) s
  | 0x18 => onTag (memDataAccess (some v)) s
  | _ => s

/-- A write of the SD_ registers (R518 to R523): MODE and BUS4 keep their values while RECOVERY is set. -/
def sdStore (o : Nat) (v : Word) (s : State) : State :=
  let n := v.toNat
  match o with
  | 0x00 => onSd (fun d =>
      let free := !d.recovery
      { d with en := bit n 0, irqEn := bit n 1, mode := if free then bits n 4 2 else d.mode, bus4 := if free then bit n 5 else d.bus4
               recovery := bit n 6 }) s
  | 0x0C => onSd (fun d => { d with irq := d.irq - (d.irq &&& n) }) s
  | _ => s

/-- A write of the SC_ registers (R524, R527). -/
def scStore (o : Nat) (v : Word) (s : State) : State :=
  let n := v.toNat
  if 0x100 ≤ o ∧ o < 0x200 then onSc (fun c => { c with buf := patch c.buf (o - 0x100) (leBytes 4 n) }) s
  else match o with
    | 0x00 => onSc (fun c =>
        let c := { c with en := bit n 0, irqEn := bit n 1 }
        let c := if bit n 2 && c.present && c.st == .off then scActivate 1 c else c
        if bit n 3 then scOff c else c) s
    | 0x08 => onSc (fun c => { c with irq := c.irq - (c.irq &&& n) }) s
    | _ => s

/-- One access of the management core to a block outside its unit; a read acts at NF_MEM_DATA alone. -/
def mgmtBlock (s : State) (p : Nat × Option Word) : State :=
  let o := p.1 % 0x10000
  match p.1 / 0x10000, p.2 with
  | 0xF4, none => if o = 0x18 then onTag (memDataAccess none) s else s
  | 0xF4, some v => nfStore o v s
  | 0xF5, some v => sdStore o v s
  | 0xF6, some v => scStore o v s
  | _, _ => s

/-- A register of those blocks as read. -/
def mgmtPeek (a : Nat) (s : State) : Word :=
  let o := a % 0x10000
  BitVec.ofNat 32 <| match a / 0x10000 with
    | 0xF4 => match o with
      | 0x00 => b2n s.nf.irqEn
      | 0x04 => nfStat s
      | 0x08 => s.nf.irq
      | 0x0C => s.nf.count.authFails + 65536 * s.nf.count.dtFails
      | 0x10 => s.nf.count.noteSeq
      | 0x14 => 4 * s.nf.memAddr
      | _ => fieldLE s.nf.memory (4 * s.nf.memAddr) 4
    | 0xF5 => match o with
      | 0x00 =>
        let d := s.cards.sd
        b2n d.en + 2 * b2n d.irqEn + 4 * d.mode + 32 * b2n d.bus4 + 64 * b2n d.recovery
      | 0x04 => sdStat s.cards.sd
      | 0x08 => sdErr s.cards.sd
      | _ => s.cards.sd.irq
    | 0xF6 =>
      if 0x100 ≤ o then fieldLE s.cards.sc.buf (o - 0x100) 4
      else match o with
        | 0x00 => b2n s.cards.sc.en + 2 * b2n s.cards.sc.irqEn
        | 0x04 => scStat s.cards.sc
        | _ => s.cards.sc.irq
    | _ => 0

/-- States in which a channel's core has no clock or is held in reset (R12, R289, R470, R543). -/
def coreHeld (st : ChState) : Bool := st == .reset || st == .waitLink || st == .asleep || st == .bist

/-- What core `u` sees of the part. -/
def coreExt (u : Core) (s : State) : Ext :=
  if h : u.val < 16 then
    { peek := fun _ a => chanTamperView ⟨u.val, h⟩ (a % 0x10000) s, irq := chanIrq ⟨u.val, h⟩ s, held := coreHeld (s.chan ⟨u.val, h⟩).state }
  else { peek := fun outs a => mgmtPeek a (outs.foldl mgmtBlock s), irq := mgmtIrq s, held := s.pw.mgHeld }

/-- Management's accesses outside its unit take effect, oldest first. -/
def flushWrites (s : State) : State :=
  let outs := s.mgu.outWrites
  outs.foldl mgmtBlock { s with mgu := { s.mgu with outWrites := [] } }

/-- A change made by core `u`. -/
def onCore (u : Core) (f : Ext → Ch → Device → Channel → Channel) (s : State) : State :=
  if h : u.val < 16 then onChanS ⟨u.val, h⟩ (f (coreExt u s)) s
  else flushWrites (collectMg { s with mgu := f (coreExt u s) 0 s.dev s.mgu })
/-- One instruction issued by core `u`. -/
def issueOn (u : Core) (i : KOp) (stop : Option Nat) (wait : Nat) (s : State) : State :=
  onCore u (fun x ch d c => issue x ch d i stop wait c) s

/-- Results due by now land (R268). -/
def landStep (c : Channel) : Channel := { c with core := c.core.land }

/-- The core waits until its cycle counter reaches TCMP (R291, R302). -/
def timerStep (c : Channel) : Channel :=
  if c.core.waiting && !c.core.halted then { c with core := ({ c.core with cycles := max c.core.cycles c.core.tcmp } : Kenten).land } else c

/-- A fault enters its vector; with an opcode given, a reserved one just fetched raises ILLEGAL first (R262, R292). -/
def faultStep (opcode : Option Byte) (x : Ext) (ch : Ch) (d : Device) (c : Channel) : Channel :=
  let c := match opcode with
    | some o => match KOp.ofCode o.toNat 0 with
      | .reserved n => issue x ch d (.reserved n) none 0 c
      | _ => c
    | none => c
  faultEntry x ch d c

/-- Core and shadow differ: both stop, and the safety controller is told (R306, R460). -/
def lockstepStep (ch : Ch) (d : Device) (c : Channel) : Channel :=
  let c := { c with core := { c.core with halted := true } }
  if c.table.mgmt then c else reportSafety ch d 0x01 0 c

end Sys2Proof.Machine
end

