-- ==== Sys2Proof/Machine/KentenArith.lean ====
section
/-! DEFINITION. The Kenten arithmetic, logic, shift, pair and accumulator instructions issued by a core (R256 to R258, R265). -/

namespace Sys2Proof.Machine

/-- ADD. -/
def execAdd (core : Core) (s : State) : Host.Outcome State Fault Refusal :=
  .next (issueOn core .add none 0 s)

/-- SUB. -/
def execSub (core : Core) (s : State) : Host.Outcome State Fault Refusal :=
  .next (issueOn core .sub none 0 s)

/-- NEG. -/
def execNeg (core : Core) (s : State) : Host.Outcome State Fault Refusal :=
  .next (issueOn core .neg none 0 s)

/-- ABS. -/
def execAbs (core : Core) (s : State) : Host.Outcome State Fault Refusal :=
  .next (issueOn core .abs none 0 s)

/-- MIN. -/
def execMin (core : Core) (s : State) : Host.Outcome State Fault Refusal :=
  .next (issueOn core .min none 0 s)

/-- MAX. -/
def execMax (core : Core) (s : State) : Host.Outcome State Fault Refusal :=
  .next (issueOn core .max none 0 s)

/-- ADDI8. -/
def execAddi8 (core : Core) (i : Byte) (s : State) : Host.Outcome State Fault Refusal :=
  .next (issueOn core (.addi8 i) none 0 s)

/-- ADDI16. -/
def execAddi16 (core : Core) (i : Half) (s : State) : Host.Outcome State Fault Refusal :=
  .next (issueOn core (.addi16 i) none 0 s)

/-- EQ. -/
def execEq (core : Core) (s : State) : Host.Outcome State Fault Refusal :=
  .next (issueOn core .eq none 0 s)

/-- NE. -/
def execNe (core : Core) (s : State) : Host.Outcome State Fault Refusal :=
  .next (issueOn core .ne none 0 s)

/-- LT. -/
def execLt (core : Core) (s : State) : Host.Outcome State Fault Refusal :=
  .next (issueOn core .lt none 0 s)

/-- LE. -/
def execLe (core : Core) (s : State) : Host.Outcome State Fault Refusal :=
  .next (issueOn core .le none 0 s)

/-- LTU. -/
def execLtu (core : Core) (s : State) : Host.Outcome State Fault Refusal :=
  .next (issueOn core .ltu none 0 s)

/-- LEU. -/
def execLeu (core : Core) (s : State) : Host.Outcome State Fault Refusal :=
  .next (issueOn core .leu none 0 s)

/-- SEL. -/
def execSel (core : Core) (s : State) : Host.Outcome State Fault Refusal :=
  .next (issueOn core .sel none 0 s)

/-- ADDW. -/
def execAddw (core : Core) (s : State) : Host.Outcome State Fault Refusal :=
  .next (issueOn core .addw none 0 s)

/-- AND. -/
def execAnd (core : Core) (s : State) : Host.Outcome State Fault Refusal :=
  .next (issueOn core .and none 0 s)

/-- OR. -/
def execOr (core : Core) (s : State) : Host.Outcome State Fault Refusal :=
  .next (issueOn core .or none 0 s)

/-- XOR. -/
def execXor (core : Core) (s : State) : Host.Outcome State Fault Refusal :=
  .next (issueOn core .xor none 0 s)

/-- NOT. -/
def execNot (core : Core) (s : State) : Host.Outcome State Fault Refusal :=
  .next (issueOn core .not none 0 s)

/-- SHL. -/
def execShl (core : Core) (n : Byte) (s : State) : Host.Outcome State Fault Refusal :=
  .next (issueOn core (.shl n.toNat) none 0 s)

/-- SHR. -/
def execShr (core : Core) (n : Byte) (s : State) : Host.Outcome State Fault Refusal :=
  .next (issueOn core (.shr n.toNat) none 0 s)

/-- SARR. -/
def execSarr (core : Core) (n : Byte) (s : State) : Host.Outcome State Fault Refusal :=
  .next (issueOn core (.sarr n.toNat) none 0 s)

/-- SHLV. -/
def execShlv (core : Core) (s : State) : Host.Outcome State Fault Refusal :=
  .next (issueOn core .shlv none 0 s)

/-- SHRV. -/
def execShrv (core : Core) (s : State) : Host.Outcome State Fault Refusal :=
  .next (issueOn core .shrv none 0 s)

/-- SARV. -/
def execSarv (core : Core) (s : State) : Host.Outcome State Fault Refusal :=
  .next (issueOn core .sarv none 0 s)

/-- CLZ. -/
def execClz (core : Core) (s : State) : Host.Outcome State Fault Refusal :=
  .next (issueOn core .clz none 0 s)

/-- SUBW. -/
def execSubw (core : Core) (s : State) : Host.Outcome State Fault Refusal :=
  .next (issueOn core .subw none 0 s)

/-- MUL. -/
def execMul (core : Core) (s : State) : Host.Outcome State Fault Refusal :=
  .next (issueOn core .mul none 0 s)

/-- MULQ. -/
def execMulq (core : Core) (s : State) : Host.Outcome State Fault Refusal :=
  .next (issueOn core .mulq none 0 s)

/-- ADD2. -/
def execAdd2 (core : Core) (s : State) : Host.Outcome State Fault Refusal :=
  .next (issueOn core .add2 none 0 s)

/-- SUB2. -/
def execSub2 (core : Core) (s : State) : Host.Outcome State Fault Refusal :=
  .next (issueOn core .sub2 none 0 s)

/-- MUL2. -/
def execMul2 (core : Core) (s : State) : Host.Outcome State Fault Refusal :=
  .next (issueOn core .mul2 none 0 s)

/-- PACK. -/
def execPack (core : Core) (s : State) : Host.Outcome State Fault Refusal :=
  .next (issueOn core .pack none 0 s)

/-- UNPK. -/
def execUnpk (core : Core) (s : State) : Host.Outcome State Fault Refusal :=
  .next (issueOn core .unpk none 0 s)

/-- CLRA. -/
def execClra (core : Core) (k : Bool) (s : State) : Host.Outcome State Fault Refusal :=
  .next (issueOn core (.clra k) none 0 s)

/-- LDA. -/
def execLda (core : Core) (k : Bool) (s : State) : Host.Outcome State Fault Refusal :=
  .next (issueOn core (.lda k) none 0 s)

/-- MAC. -/
def execMac (core : Core) (k : Bool) (s : State) : Host.Outcome State Fault Refusal :=
  .next (issueOn core (.mac k) none 0 s)

/-- MSU. -/
def execMsu (core : Core) (k : Bool) (s : State) : Host.Outcome State Fault Refusal :=
  .next (issueOn core (.msu k) none 0 s)

/-- RDA. -/
def execRda (core : Core) (k : Bool) (s : State) : Host.Outcome State Fault Refusal :=
  .next (issueOn core (.rda k) none 0 s)

/-- RDAS. -/
def execRdas (core : Core) (k : Bool) (n : Byte) (s : State) : Host.Outcome State Fault Refusal :=
  .next (issueOn core (.rdas k n.toNat) none 0 s)

/-- ADDA. -/
def execAdda (core : Core) (k : Bool) (s : State) : Host.Outcome State Fault Refusal :=
  .next (issueOn core (.adda k) none 0 s)

end Sys2Proof.Machine
end

