-- ==== Sys2Proof/Machine/KentenData.lean ====
section
/-! DEFINITION. The Kenten loads and stores issued by a core (R270). -/

namespace Sys2Proof.Machine

/-- LDW. -/
def execLdw (core : Core) (seg : Fin 6) (s : State) : Host.Outcome State Fault Refusal :=
  .next (issueOn core (.ldw seg.val) none 0 s)

/-- LDWI. -/
def execLdwi (core : Core) (seg : Fin 6) (i : Half) (s : State) : Host.Outcome State Fault Refusal :=
  .next (issueOn core (.ldwi seg.val i) none 0 s)

/-- LDH. -/
def execLdh (core : Core) (seg : Fin 6) (s : State) : Host.Outcome State Fault Refusal :=
  .next (issueOn core (.ldh seg.val) none 0 s)

/-- LDB. -/
def execLdb (core : Core) (seg : Fin 6) (s : State) : Host.Outcome State Fault Refusal :=
  .next (issueOn core (.ldb seg.val) none 0 s)

/-- STW. -/
def execStw (core : Core) (seg : Fin 6) (s : State) : Host.Outcome State Fault Refusal :=
  .next (issueOn core (.stw seg.val) none 0 s)

/-- STWI. -/
def execStwi (core : Core) (seg : Fin 6) (i : Half) (s : State) : Host.Outcome State Fault Refusal :=
  .next (issueOn core (.stwi seg.val i) none 0 s)

/-- STH. -/
def execSth (core : Core) (seg : Fin 6) (s : State) : Host.Outcome State Fault Refusal :=
  .next (issueOn core (.sth seg.val) none 0 s)

/-- STB. -/
def execStb (core : Core) (seg : Fin 6) (s : State) : Host.Outcome State Fault Refusal :=
  .next (issueOn core (.stb seg.val) none 0 s)

end Sys2Proof.Machine
end

