-- ==== Sys2Proof/Machine/KentenFlow.lean ====
section
/-! DEFINITION. The Kenten branches and long instructions issued by a core (R271, R275 to R284). -/

namespace Sys2Proof.Machine

/-- BR. -/
def execBr (core : Core) (r : Half) (s : State) : Host.Outcome State Fault Refusal :=
  .next (issueOn core (.br r) none 0 s)

/-- BRS. -/
def execBrs (core : Core) (r : Byte) (s : State) : Host.Outcome State Fault Refusal :=
  .next (issueOn core (.brs r) none 0 s)

/-- BZ. -/
def execBz (core : Core) (r : Half) (s : State) : Host.Outcome State Fault Refusal :=
  .next (issueOn core (.bz r) none 0 s)

/-- BNZ. -/
def execBnz (core : Core) (r : Half) (s : State) : Host.Outcome State Fault Refusal :=
  .next (issueOn core (.bnz r) none 0 s)

/-- CALL. -/
def execCall (core : Core) (r : Half) (s : State) : Host.Outcome State Fault Refusal :=
  .next (issueOn core (.call r) none 0 s)

/-- RET. -/
def execRet (core : Core) (s : State) : Host.Outcome State Fault Refusal :=
  .next (issueOn core .ret none 0 s)

/-- JMP. -/
def execJmp (core : Core) (s : State) : Host.Outcome State Fault Refusal :=
  .next (issueOn core .jmp none 0 s)

/-- BMOV. -/
def execBmov (core : Core) (m : Byte) (stop : Option Nat) (s : State) : Host.Outcome State Fault Refusal :=
  .next (issueOn core (.bmov m.toNat) stop 0 s)

/-- VMAC. -/
def execVmac (core : Core) (m : Byte) (stop : Option Nat) (s : State) : Host.Outcome State Fault Refusal :=
  .next (issueOn core (.vmac m.toNat) stop 0 s)

/-- LOOPS. -/
def execLoops (core : Core) (b : Half) (s : State) : Host.Outcome State Fault Refusal :=
  .next (issueOn core (.loops b.toNat) none 0 s)

/-- HBLK_INIT. -/
def execHblkInit (core : Core) (alg : Fin 3) (hi : Fin 32) (wait : Nat) (s : State) : Host.Outcome State Fault Refusal :=
  .next (issueOn core (.hblk (8 * hi.val + alg.val)) none wait s)

/-- HBLK_FEED. -/
def execHblkFeed (core : Core) (hi : Fin 32) (wait : Nat) (stop : Option Nat) (s : State) : Host.Outcome State Fault Refusal :=
  .next (issueOn core (.hblk (8 * hi.val + 3)) stop wait s)

/-- HBLK_FINAL. -/
def execHblkFinal (core : Core) (hi : Fin 32) (wait : Nat) (stop : Option Nat) (s : State) : Host.Outcome State Fault Refusal :=
  .next (issueOn core (.hblk (8 * hi.val + 4)) stop wait s)

/-- DIVS. -/
def execDivs (core : Core) (n : Byte) (stop : Option Nat) (s : State) : Host.Outcome State Fault Refusal :=
  .next (issueOn core (.divs n.toNat) stop 0 s)

end Sys2Proof.Machine
end

