-- ==== Sys2Proof/Machine/KentenStack.lean ====
section
/-! DEFINITION. The Kenten stack and constant instructions issued by a core (R265). -/

namespace Sys2Proof.Machine

/-- NOP. -/
def execNop (core : Core) (s : State) : Host.Outcome State Fault Refusal :=
  .next (issueOn core .nop none 0 s)

/-- DROP. -/
def execDrop (core : Core) (s : State) : Host.Outcome State Fault Refusal :=
  .next (issueOn core .drop none 0 s)

/-- DUP. -/
def execDup (core : Core) (s : State) : Host.Outcome State Fault Refusal :=
  .next (issueOn core .dup none 0 s)

/-- SWAP. -/
def execSwap (core : Core) (s : State) : Host.Outcome State Fault Refusal :=
  .next (issueOn core .swap none 0 s)

/-- OVER. -/
def execOver (core : Core) (s : State) : Host.Outcome State Fault Refusal :=
  .next (issueOn core .over none 0 s)

/-- ROT. -/
def execRot (core : Core) (s : State) : Host.Outcome State Fault Refusal :=
  .next (issueOn core .rot none 0 s)

/-- NIP. -/
def execNip (core : Core) (s : State) : Host.Outcome State Fault Refusal :=
  .next (issueOn core .nip none 0 s)

/-- PICK. -/
def execPick (core : Core) (n : Byte) (s : State) : Host.Outcome State Fault Refusal :=
  .next (issueOn core (.pick n.toNat) none 0 s)

/-- DEPTH. -/
def execDepth (core : Core) (s : State) : Host.Outcome State Fault Refusal :=
  .next (issueOn core .depth none 0 s)

/-- DROP2. -/
def execDrop2 (core : Core) (s : State) : Host.Outcome State Fault Refusal :=
  .next (issueOn core .drop2 none 0 s)

/-- DUP2. -/
def execDup2 (core : Core) (s : State) : Host.Outcome State Fault Refusal :=
  .next (issueOn core .dup2 none 0 s)

/-- PUSH8. -/
def execPush8 (core : Core) (i : Byte) (s : State) : Host.Outcome State Fault Refusal :=
  .next (issueOn core (.push8 i) none 0 s)

/-- PUSH16. -/
def execPush16 (core : Core) (i : Half) (s : State) : Host.Outcome State Fault Refusal :=
  .next (issueOn core (.push16 i) none 0 s)

/-- PUSH32. -/
def execPush32 (core : Core) (i : Word) (s : State) : Host.Outcome State Fault Refusal :=
  .next (issueOn core (.push32 i) none 0 s)

/-- PUSHU8. -/
def execPushu8 (core : Core) (i : Byte) (s : State) : Host.Outcome State Fault Refusal :=
  .next (issueOn core (.pushu8 i) none 0 s)

/-- PUSHU16. -/
def execPushu16 (core : Core) (i : Half) (s : State) : Host.Outcome State Fault Refusal :=
  .next (issueOn core (.pushu16 i) none 0 s)

/-- PUSHH. -/
def execPushh (core : Core) (i : Half) (s : State) : Host.Outcome State Fault Refusal :=
  .next (issueOn core (.pushh i) none 0 s)

end Sys2Proof.Machine
end

