-- ==== Sys2Proof/Machine/KentenSystem.lean ====
section
/-! DEFINITION. The Kenten system instructions and a core's entries and stops (R259, R287 to R306). -/

namespace Sys2Proof.Machine

/-- FEAT. -/
def execFeat (core : Core) (n : Byte) (s : State) : Host.Outcome State Fault Refusal :=
  .next (issueOn core (.feat n.toNat) none 0 s)

/-- GATE. -/
def execGate (core : Core) (n : Byte) (s : State) : Host.Outcome State Fault Refusal :=
  .next (issueOn core (.gate n.toNat) none 0 s)

/-- RETE. -/
def execRete (core : Core) (s : State) : Host.Outcome State Fault Refusal :=
  .next (issueOn core .rete none 0 s)

/-- MFSR. -/
def execMfsr (core : Core) (n : Byte) (s : State) : Host.Outcome State Fault Refusal :=
  .next (issueOn core (.mfsr n.toNat) none 0 s)

/-- MTSR. -/
def execMtsr (core : Core) (n : Byte) (s : State) : Host.Outcome State Fault Refusal :=
  .next (issueOn core (.mtsr n.toNat) none 0 s)

/-- SEGR. -/
def execSegr (core : Core) (n : Byte) (s : State) : Host.Outcome State Fault Refusal :=
  .next (issueOn core (.segr n.toNat) none 0 s)

/-- SEGW. -/
def execSegw (core : Core) (n : Byte) (s : State) : Host.Outcome State Fault Refusal :=
  .next (issueOn core (.segw n.toNat) none 0 s)

/-- SETRND. -/
def execSetrnd (core : Core) (m : Byte) (s : State) : Host.Outcome State Fault Refusal :=
  .next (issueOn core (.setrnd m.toNat) none 0 s)

/-- SETSAT. -/
def execSetsat (core : Core) (m : Byte) (s : State) : Host.Outcome State Fault Refusal :=
  .next (issueOn core (.setsat m.toNat) none 0 s)

/-- CLROV. -/
def execClrov (core : Core) (s : State) : Host.Outcome State Fault Refusal :=
  .next (issueOn core .clrov none 0 s)

/-- BRK. -/
def execBrk (core : Core) (n : Byte) (s : State) : Host.Outcome State Fault Refusal :=
  .next (issueOn core (.brk n.toNat) none 0 s)

/-- WAIT. -/
def execWait (core : Core) (s : State) : Host.Outcome State Fault Refusal :=
  .next (issueOn core .wait none 0 s)

/-- RESULT_LAND. -/
def execResultLand (core : Core) (s : State) : Host.Outcome State Fault Refusal :=
  .next (onCore core (fun _ _ _ c => landStep c) s)

/-- FAULT_ENTRY. -/
def execFaultEntry (core : Core) (opcode : Option Byte) (s : State) : Host.Outcome State Fault Refusal :=
  .next (onCore core (faultStep opcode) s)

/-- INTERRUPT_ENTRY. -/
def execInterruptEntry (core : Core) (s : State) : Host.Outcome State Fault Refusal :=
  .next (onCore core interruptEntry s)

/-- TIMER_MATCH. -/
def execTimerMatch (core : Core) (s : State) : Host.Outcome State Fault Refusal :=
  .next (onCore core (fun _ _ _ c => timerStep c) s)

/-- DOUBLE_FAULT. -/
def execDoubleFault (core : Core) (s : State) : Host.Outcome State Fault Refusal :=
  .next (onCore core (fun _ ch d c => doubleFault ch d c) s)

/-- LOCKSTEP_MISCOMPARE. -/
def execLockstepMiscompare (core : Core) (s : State) : Host.Outcome State Fault Refusal :=
  .next (onCore core (fun _ ch d c => lockstepStep ch d c) s)

end Sys2Proof.Machine
end

