-- ==== Sys2Proof/Machine/RegisterRows.lean ====
section
/-! DEFINITION. Writes to registers without a row of their own, in every register space, and the host's copy of the access
tables (R31, R57, R327, R342). -/

namespace Sys2Proof.Machine

/-- A write of function 0's MSI-X table; a pending source that is no longer masked sends its message (R396). -/
def fn0Msix (off : Nat) (v : Word) (s : State) : State :=
  let t := msixWrite off v s.fn0.msix
  let free := s.fn0.pba.filter fun k => match t[k]? with
    | some e => !e.mask
    | none => false
  free.foldl (fun s k => raiseFn0 k s) { s with fn0 := { s.fn0 with msix := t, pba := s.fn0.pba.filter fun k => !free.contains k } }

/-- One aligned word written in the management function's BAR0 (R57, R399, R428). -/
def fn0Write (off : Nat) (v : Word) (s : State) : State :=
  let idle := s.fn0.phase != .waiting
  if 0x0500 ≤ off ∧ off < 0x0510 then { s with fn0 := { s.fn0 with win := s.fn0.win.write (off - 0x0500) v } }
  else if 0x0800 ≤ off ∧ off < 0x0C00 then fn0Msix (off - 0x0800) v s
  else match off with
    | 0x0400 => if v.getLsbD 0 then mailboxGo s else s
    | 0x0404 => if v.getLsbD 0 then { s with fn0 := { s.fn0 with done := false } } else s
    | 0x0408 => if idle then { s with fn0 := { s.fn0 with req := s.fn0.req.writeLow (v &&& 0xFFFFF000) } } else s
    | 0x040C => if idle then { s with fn0 := { s.fn0 with req := s.fn0.req.writeHigh v } } else s
    | 0x0410 => if idle then { s with fn0 := { s.fn0 with reqLen := bits v.toNat 12 0 } } else s
    | 0x0418 => if idle then { s with fn0 := { s.fn0 with rsp := s.fn0.rsp.writeLow (v &&& 0xFFFFF000) } } else s
    | 0x041C => if idle then { s with fn0 := { s.fn0 with rsp := s.fn0.rsp.writeHigh v } } else s
    | 0x0510 => if v.getLsbD 0 then lockWindow 0 s else s
    | 0x2000 => evCtrlWrite v s
    | 0x2004 => evStatWrite v s
    | 0x2008 => if mgmtServes s then { s with log := { s.log with cursor := v.toNat } } else s
    | 0x3004 => if mgmtServes s then { s with mg := { s.mg with tmIrq := v.getLsbD 0 } } else s
    | _ => s

/-- One aligned word of a write of `b` from offset `start` in a function's BAR0; an inline doorbell advances at its last word,
and keeps a copy only of one 64-byte aligned write (R39). -/
def funcWord (fn : Fin 17) (start : Nat) (b : Bytes) (off : Nat) (v : Word) (s : State) : State :=
  if h : fn.val = 0 then fn0Write off v s
  else if off = 0x00D0 then (if v.getLsbD 0 then lockWindow fn s else s)
  else if 0x0200 ≤ off ∧ off < 0x0300 then
    let copy := if start % 0x40 = 0 ∧ b.length = 64 then some b else none
    if off % 0x40 = 0x3C then
      onChan ⟨fn.val - 1, by omega⟩ (fun _ _ c => doorbellAdvance (pairIx ((off - 0x0200) / 0x40)) copy c) s
    else s
  else onChan ⟨fn.val - 1, by omega⟩ (fun _ _ c => bar0Write off v c) s

/-- The words of a write, lowest address first. -/
def funcWords (fn : Fin 17) (off : Nat) (b : Bytes) : Nat → State → State
  | 0, s => s
  | n + 1, s => funcWord fn off b (off + 4 * n) (BitVec.ofNat 32 (fieldLE b (4 * n) 4)) (funcWords fn off b n s)

/-- A host write of `b` at a BAR0 offset (R31): discarded whole when narrow, misaligned or not of whole words; the
function of a channel that is not enabled is not there (R4). -/
def funcWrite (fn : Fin 17) (off : Nat) (b : Bytes) (s : State) : State :=
  if off % 4 ≠ 0 ∨ b.length % 4 ≠ 0 ∨ s.dev.enabled < fn.val then s else funcWords fn off b (b.length / 4) s

/-- A write by the core of a unit, its Inner supervisor, in its peripheral range (R26, R327): one aligned word of a register the
table admits; any other is refused and captured. No host write comes here: the host's own space is `.func` alone (R27). -/
def coreRegWrite (a : Nat) (b : Bytes) (ch : Ch) (d : Device) (c : Channel) : Channel :=
  let word := decide (b.length = 4) && a % 4 == 0 && isPeriph a && mapped c.table.mgmt a
  if word && (isAtBlock c.table.mgmt a || atAllows c.table 0 .write a) then periphWrite ch d a (BitVec.ofNat 32 (leNat b)) c
  else { c with table := atRefuse c.table 0 true true .write (min 64 b.length) a }

/-- REGISTER_WRITE. -/
def execRegisterWrite (space : RegSpace) (off : Nat) (data : Bytes) (s : State) : Host.Outcome State Fault Refusal :=
  .next (match space with
    | .func fn => funcWrite fn off data s
    | .core u => onCore u (fun _ ch d c => coreRegWrite off data ch d c) s)

/-- Committed words of an entry as the view shows them. -/
def AtEntry.view (t : AccessTable) (e : AtEntry) : List Nat := [64 * e.first, 64 * e.last, e.perm, b2n (e.lock || t.lockAll)]

/-- The view's words of a table: 64 entries, then AT_VIOL_ADDR, AT_VIOL_INFO, AT_VIOL_COUNT, AT_BKT, AT_ECC_UINFO and the
update sequence. -/
def AccessTable.view (t : AccessTable) (seq : Nat) : List Nat :=
  (t.entries.map (AtEntry.view t)).flatten ++
  [t.violAddr, t.violInfo + 2 ^ 31 * b2n t.violValid, t.violCount, t.bucket + 65536 * t.crossings, t.eccUmaster + 2 ^ 31 * b2n t.eccUvalid, seq]

/-- The place of a unit's table in the view: management's first, then the channels' (R342). -/
def viewIndex (u : Core) : Nat := if u.val = 16 then 0 else u.val + 1

/-- Management takes up a change that a unit's AT_ block has reported (R342). -/
def viewUpdate (u : Core) (s : State) : State :=
  if !mgmtRuns s then s
  else
    let t := if h : u.val < 16 then (s.chan ⟨u.val, h⟩).table else s.mgu.table
    let old := (s.mg.views.getD (viewIndex u) none).bind (·.getLast?)
    let new := t.view ((old.getD 0 + 1) % 2 ^ 32)
    { s with mg := { s.mg with views := s.mg.views.set (viewIndex u) (some new) } }

/-- AT_VIEW_UPDATE. -/
def execAtViewUpdate (unit : Core) (s : State) : Host.Outcome State Fault Refusal := .next (viewUpdate unit s)

end Sys2Proof.Machine
end

