-- ==== Sys2Proof/Machine/SettleOps.lean ====
section
/-! DEFINITION. Settlement accounts, sample segments, the runtime and the triggers (R227 to R244). -/

namespace Sys2Proof.Machine

/-- The plaintext of an account (R227). -/
structure Account where
  meter : Nat
  ref : Nat
  program : Nat
  layout : Nat
  lastMin : Nat
  balance : Int
  armed : Nat
  owed : Nat
  /-- STATE[0] to STATE[39]. -/
  state : Bytes
  deriving DecidableEq, Repr

/-- The 192 bytes of an account. -/
def Account.toBytes (a : Account) : Bytes :=
  leBytes 4 a.meter ++ leBytes 4 a.ref ++ leBytes 2 a.program ++ leBytes 2 a.layout ++ leBytes 4 a.lastMin ++
  leBytes 4 (BitVec.ofInt 32 a.balance).toNat ++ leBytes 4 a.armed ++ leBytes 4 a.owed ++ zeros 4 ++ padTo 160 a.state

/-- Reads an account. -/
def Account.ofBytes (b : Bytes) : Account :=
  { meter := fieldLE b 0 4, ref := fieldLE b 4 4, program := fieldLE b 8 2, layout := fieldLE b 10 2
    lastMin := fieldLE b 12 4, balance := int32 (fieldLE b 16 4), armed := fieldLE b 20 4, owed := fieldLE b 24 4
    state := slice b 32 160 }

/-- OPEN of a SETTLE_REF (R228). -/
def refOpen (r : Nat) : Bool := r != 0xFFFFFFFF && bit r 31

/-- The account sequence after the next change; none where it would reach its end (R228). -/
def nextSeq (r : Nat) : Option Nat :=
  let s := if r = 0xFFFFFFFF then 1 else r % 2 ^ 31 + 1
  if 0x7FFFFFFF ≤ s then none else some s

/-- The account block's checks (R229). -/
def accountCheck (c : Channel) (r : MRec) (w : Bytes) : Except Fail Account :=
  match headerCheck c.shard w 0x02 with
  | some f => .error { f with result := 1 }
  | none => match unwrapBlock c.shard w with
    | none => .error ⟨0x0200, 0, 1⟩
    | some b =>
      let a := Account.ofBytes b
      if a.meter ≠ r.meter ∨ a.ref ≠ r.settleRef then .error ⟨0x0200, 0, 1⟩
      else if !refOpen a.ref then .error ⟨0x0102, 12, 0⟩
      else .ok a

/-- The loaded program a job runs (R236, R245). -/
def jobProgram (c : Channel) (id serial : Nat) : Option Program :=
  (c.programs.find id serial).map fun i => Program.ofBytes i.bytes

/-- Days before a year since 2000. -/
def daysToYear (y : Nat) : Nat := 365 * y + (y + 3) / 4

/-- Days of a month of a year since 2000. -/
def monthDays (y m : Nat) : Nat :=
  if m = 2 then (if y % 4 = 0 then 29 else 28) else if m = 4 ∨ m = 6 ∨ m = 9 ∨ m = 11 then 30 else 31

/-- The minute stamp of a DLMS date-time; none when it is invalid (R232). -/
def minuteStamp (b : Bytes) : Option Nat :=
  let y := fieldBE b 0 2
  let m := fieldLE b 2 1
  let day := fieldLE b 3 1
  let dow := fieldLE b 4 1
  let h := fieldLE b 5 1
  let mi := fieldLE b 6 1
  let hs := fieldLE b 8 1
  let dev := fieldBE b 9 2
  let off : Int := if dev = 0x8000 then 0 else (BitVec.ofNat 16 dev).toInt
  if y < 2000 ∨ 2099 < y ∨ m < 1 ∨ 12 < m ∨ day < 1 ∨ monthDays (y - 2000) m < day ∨ dow < 1 ∨ 7 < dow ∨ 23 < h ∨ 59 < mi ∨
      fieldLE b 7 1 ≠ 0 ∨ (hs ≠ 0 ∧ hs ≠ 0xFF) ∨ off < -720 ∨ 720 < off then none
  else
    let days := daysToYear (y - 2000) + ((List.range (m - 1)).map fun i => monthDays (y - 2000) (i + 1)).sum + (day - 1)
    let t : Int := ((days * 24 + h) * 60 + mi : Nat) + off
    if t < 0 then none else some t.toNat

/-- A field's value as an int32; none when it is invalid (R232). -/
def fieldValue (f : SField) (b : Bytes) : Option Int :=
  if f.kind = 2 then (minuteStamp (slice b f.off 12)).map fun n => (n : Int)
  else
    let v := fieldBE b f.off f.width
    if f.kind = 0 then (if 2 ^ 31 ≤ v then none else some (v : Int)) else some ((BitVec.ofNat (8 * f.width) v).toInt)

/-- Splits the input into pieces: header and plaintext (R232). -/
def splitPieces : Nat → Bytes → Option (List (Bytes × Bytes))
  | _, [] => some []
  | 0, _ => none
  | fuel + 1, b =>
    let n := fieldLE b 8 4
    if b.length < 48 + n then none
    else (splitPieces fuel (b.drop (48 + n))).map fun l => (b.take 48, (b.drop 48).take n) :: l

/-- A failure of a segment: piece and sample (R233). -/
def segmentInvalid (piece sample : Nat) : Fail := ⟨0x0503, 0, piece % 256 + 65536 * (sample % 65536)⟩

/-- Samples of one piece, field by field, or the index that fails. -/
def pieceSamples (p : Program) (plain : Bytes) (n : Nat) : Except Nat (List (List Int)) :=
  (List.range n).mapM fun k =>
    match p.fields.mapM fun f => fieldValue f (plain.drop (p.smpOff + k * p.smpStride)) with
    | some vs => .ok vs
    | none => .error k

/-- A piece's checks and its samples (R233). -/
def pieceCheck (c : Channel) (p : Program) (meter i : Nat) (x : Bytes × Bytes) : Except Fail (List (List Int)) :=
  let h := x.1
  let body := x.2.length - p.smpOff - p.smpTrail
  let n := body / p.smpStride
  if slice h 16 32 ≠ hmac256 (segmentKey c.shard.srk) (h.take 16 ++ x.2) then .error (segmentInvalid i 0xFFFF)
  else if fieldLE h 0 4 ≠ meter ∨ fieldLE h 12 2 ≠ p.recipe then .error (segmentInvalid i 0xFFFF)
  else if x.2.length < p.smpOff + p.smpTrail ∨ body % p.smpStride ≠ 0 ∨ n < 1 ∨ 1024 < n then .error (segmentInvalid i 0xFFFF)
  else match pieceSamples p x.2 n with
    | .error k => .error (segmentInvalid i k)
    | .ok l => .ok l

/-- The samples to settle, in order: those after LAST_MIN, rising strictly, at most 4,096 (R233). -/
def takeSamples (last : Nat) : List (Nat × Nat × List Int) → Nat → Nat → Except Fail (List (List Int))
  | [], _, _ => .ok []
  | (i, k, vs) :: rest, prev, count =>
    let m := (vs.headD 0).toNat
    if m ≤ last then takeSamples last rest prev count
    else if m ≤ prev ∨ 4096 ≤ count then .error (segmentInvalid i k)
    else match takeSamples last rest m (count + 1) with
      | .error f => .error f
      | .ok l => .ok (vs :: l)

/-- The settled samples of a job's input. -/
def jobSamples (c : Channel) (p : Program) (e : JEntry) (last : Nat) : Except Fail (List (List Int)) :=
  match splitPieces 17 (e.data 32 e.sub.inLen) with
  | none => .error ⟨0x0105, 48, 0⟩
  | some ps =>
    if 16 < ps.length then .error ⟨0x0105, 48, 0⟩
    else match ps.zipIdx.mapM fun x => (pieceCheck c p e.sub.meter x.2 x.1).map fun l => (x.2, l) with
      | .error f => .error f
      | .ok ls => takeSamples last ((ls.map fun y => y.2.zipIdx.map fun z => (y.1, z.2, z.1)).flatten) 0 0

/-- Where a loaded program's code lies in the program area (R236). -/
def codeBase (p : Program) (a : ImageArea) : Nat := 0x150080 + areaOffset (fun i => i.bytes == p.bytes) a.placed

/-- The Outer bank of a call whose program's code lies at `base` (R237). -/
def callBank (p : Program) (base samples depth : Nat) : Bank :=
  { segs := #v[⟨base, p.codeLen⟩, ⟨0x140000, 4096⟩, ⟨0x141000, 4096⟩, ⟨base + p.codeLen, p.tableLen⟩,
      ⟨0x130000, 4 * p.fields.length * samples⟩, {}]
    depth := depth }

/-- PK_CLEAR of a DIRTY public-key engine before a world switch; with its queue empty the switch waits for the clear (R189, R237). -/
def worldSwitch (c : Channel) : Channel := if c.pke.dirty then clearDone (pkClear c) else c

/-- A call starts as R297 has firmware start it: the Outer bank and accumulators set, the arguments in Outer SSEG memory, a frame with
CROSS below FRAME_PTR_I, and RETE: the Outer world, user level, MASK 0, SAT 1, the arguments filled from memory, the Inner slots spilled
(R237). Fields of the frame that R297 does not name are 0. -/
def callCore (p : Program) (samples entry : Nat) (args : List Word) (c : Channel) : Channel :=
  let c := worldSwitch c
  let k := c.core
  let psw : Word := BitVec.ofNat 32 (p.rnd % 4 + 4)
  let spilled := min 16 k.inner.depth
  let k0 : Kenten := { k with
    pc := entry, psw := psw, outer := callBank p (codeBase p c.programs) samples args.length
    regs := Vector.replicate 16 0, landings := [], branch := none, looping := false, lpExit := none, long := false
    loop := 0, step := 0, lpStart := 0, lpEnd := 0, lpCount := 0, lpStride := 0, dvq := 0, dvr := 0
    fault := none, dfault := none, waiting := false, halted := false, irqEn := 0, cycles := k.cycles + 7 + spilled + args.length }
  let m := memStore c.mem 0x141000 ((args.map fun w => leBytes 4 w.toNat).flatten)
  let m := if k.frameBaseI + 80 ≤ k.framePtrI ∧ k.framePtrI ≤ k.frameTopI
    then memStore m (k.framePtrI - 80) (frameBytes k0 0 0 0 entry 0 0 args.length true) else m
  { c with mem := m, core := (args.zipIdx).foldl (fun k x => k.setSlot x.2 x.1) k0 }

/-- How a program call ends. -/
inductive CallEnd where
  | left
  | faulted (vector : Nat)
  | late
  deriving DecidableEq, Repr

/-- Runs a call until it leaves by GATE 0, faults, or passes its cycle limit (R238, R239). -/
def runCall (x : Ext) (ch : Ch) (d : Device) (limit : Nat) : Nat → Channel → CallEnd × Channel
  | 0, c => (.late, c)
  | fuel + 1, c =>
    if limit < c.core.cycles then (.late, c)
    else
      let i := opAt c c.core.pc
      let landed := { c with core := c.core.land }
      if i = .gate 0 ∧ (preFault landed i).isNone then (.left, landed)
      else
        let c := issue x ch d i none 0 c
        match c.core.fault with
        | some f => (.faulted f.vector, c)
        | none => if c.core.halted then (.late, c) else runCall x ch d limit fuel c

/-- What a run carries from call to call. -/
structure RunState where
  chan : Channel
  armed : Nat
  /-- Fired actions: trigger, sample index, minute, balance, whether owed from before. -/
  fired : List (Nat × Nat × Nat × Int × Bool) := []
  cycles : Nat := 0

/-- BALANCE and the state words as DSEG holds them. -/
def dsegWord (c : Channel) (i : Nat) : Int := int32 (leNat (memBytes c.mem (0x140000 + 4 * i) 4))

/-- A trigger's condition. -/
def Trigger.holds (t : Trigger) (v : Int) : Bool :=
  match t.cond with
  | 0 => decide (v < t.threshold)
  | 1 => decide (v ≤ t.threshold)
  | 2 => decide (t.threshold < v)
  | _ => decide (t.threshold ≤ v)

/-- Triggers evaluated after a call, in index order (R241). -/
def evalTriggers (p : Program) (atEnd : Bool) (sample minute : Nat) (r : RunState) : RunState :=
  p.triggers.zipIdx.foldl (fun r x =>
    let t := x.1
    let i := x.2
    let fire (armed : Nat) : RunState :=
      { r with armed := armed, fired := r.fired ++ [(i, sample, minute, dsegWord r.chan 0, false)] }
    if t.cond = 4 then (if atEnd then fire r.armed else r)
    else if t.holds (dsegWord r.chan t.word) then (if bit r.armed i then fire (setBit r.armed i false) else r)
    else { r with armed := setBit r.armed i true }) r

/-- One call and its triggers. -/
def callOnce (x : Ext) (ch : Ch) (d : Device) (p : Program) (samples entry : Nat) (args : List Word) (atEnd : Bool)
    (sample minute : Nat) (r : RunState) : Except (Fail × Channel) RunState :=
  let c := callCore p samples entry args r.chan
  let k0 := c.core
  match runCall x ch d (k0.cycles + p.cycleLimit) (p.cycleLimit + 1) c with
  | (.left, c) =>
    .ok (evalTriggers p atEnd sample minute { r with chan := c, cycles := r.cycles + (c.core.cycles - k0.cycles) })
  | (.faulted v, c) => .error (⟨0x0501, v, 0⟩, c)
  | (.late, c) => .error (⟨0x0502, 0, 0⟩, c)

/-- The calls for the samples from index `k`, then the end call (R238). -/
def callAll (x : Ext) (ch : Ch) (d : Device) (p : Program) (total : Nat) :
    List (List Int) → Nat → Nat → RunState → Except (Fail × Channel) RunState
  | [], k, minute, r => callOnce x ch d p total p.entryEnd [BitVec.ofNat 32 total] true (k - 1) minute r
  | vs :: rest, k, _, r =>
    let m := (vs.headD 0).toNat
    match callOnce x ch d p total p.entrySample [BitVec.ofNat 32 k, BitVec.ofNat 32 (4 * p.fields.length * k)] false k m r with
    | .error e => .error e
    | .ok r => callAll x ch d p total rest (k + 1) m r

/-- Memory as the runtime sets it before the first call: account, scratch, samples (R237, R238). -/
def loadRun (a : Account) (samples : List (List Int)) (m : Mem) : Mem :=
  let m := memStore m 0x140000 (leBytes 4 (BitVec.ofInt 32 a.balance).toNat ++ padTo 160 a.state ++ zeros (4096 - 164))
  memStore m 0x130000 ((samples.map fun vs => (vs.map fun v => leBytes 4 (BitVec.ofInt 32 v).toNat).flatten).flatten)

/-- The channel after a run: its core goes back to firmware, with the cycles spent. -/
def afterRun (k0 : Kenten) (c : Channel) : Channel :=
  { c with core := { k0 with cycles := c.core.cycles, halted := k0.halted || c.core.halted } }

/-- Program calls over settled samples; none are made without a sample. -/
def runProgram (ch : Ch) (d : Device) (p : Program) (a : Account) (samples : List (List Int)) (c : Channel) :
    Except (Fail × Channel) RunState :=
  let x : Ext := { peek := fun _ _ => 0, irq := 0, held := false }
  let c' := { c with mem := loadRun a samples c.mem }
  if samples.isEmpty then .ok { chan := c', armed := a.armed }
  else match callAll x ch d p samples.length samples 0 0 { chan := c', armed := a.armed } with
    | .error (f, c) => .error (f, afterRun c'.core c)
    | .ok r => .ok { r with chan := afterRun c'.core r.chan }

/-- The head of a credit statement, bytes 0 to 63. -/
def statementHead (ch : Ch) (d : Device) (p : Program) (meter ref trigger kind : Nat) (balance : Int)
    (sample minute reference : Nat) : Bytes :=
  ascii "CXSTMT01" ++ leBytes 4 meter ++ leBytes 4 ref ++ leBytes 2 p.id ++ [byte trigger, byte kind] ++
  leBytes 4 (BitVec.ofInt 32 balance).toNat ++ [byte p.scale, 0] ++ leBytes 2 (d.member % 4096) ++ [byte ch.val, 0, 0, 0] ++
  leBytes 4 sample ++ leBytes 4 minute ++ leBytes 8 reference ++ leBytes 8 d.tick ++ zeros 8

/-- A credit statement, signed with the STATEMENT key; the nonce is drawn (R181). It waits while no batch may be pushed (R191). -/
def signStatement (key : Nat) (head : Bytes) (c : Channel) : Except RngStop (Bytes × Channel) :=
  if !engineOpen c then .error .waits
  else match signFresh .p384 key (sha384 head) c with
  | .error x => .error x
  | .ok (s, c) => .ok (head ++ s, c)

/-- The STATEMENT key. -/
def statementKey (c : Channel) : Option Nat := c.keys.scalar .p384 4

/-- What the actions of a run carry: the channel after their draws, the meter record after their counters, the owed bits, and what
ends the run, if anything did. -/
structure Acted where
  chan : Channel
  record : MRec
  owed : Nat
  units : Nat := 0
  out : List Bytes := []
  /-- Actions that took effect: an owed one among them is owed no more (R244). -/
  released : Nat := 0
  skipped : Bool := false
  /-- The job's failure by a missing key (R579), or a draw that gave nothing (R181). -/
  fail : Option Fail := none
  wait : Option RngStop := none

/-- One action record of the output (R246). -/
def actionRecord (trigger action outcome sample minute : Nat) (payload : Bytes) : Bytes :=
  [byte trigger, byte action, byte outcome, 0] ++ leBytes 4 sample ++ leBytes 4 minute ++ leBytes 2 payload.length ++ [0, 0] ++
  padTo (roundUp payload.length 8) payload

/-- The submission a disconnect-class action is protected as: PROTECT_DISCONNECT with the header's FORM, authenticated and
encrypted, signed for suites 1 and 2 (R242). -/
def actionEntry (e : JEntry) (p : Program) (suite : Nat) : JEntry :=
  { e with sub := { e.sub with
    opcode := 0x0230, flags := 0, param := p.form + 256 * (0x30 + suite) + 65536 * b2n (suite != 0) } }

/-- A disconnect-class action (R242, R243): released, deferred or refused; a key that is not loaded ends the job as it would end
PROTECT_DISCONNECT (R579). Each use takes the next counter of the record whose acknowledgement the job has brought up to date
once (R158). -/
def actDisconnect (d : Device) (e : JEntry) (p : Program) (tpl : Bytes) (t : Trigger)
    (i sample minute : Nat) (owedOne : Bool) (s : Acted) : Acted :=
  let c := s.chan
  let suite := s.record.suite
  let x := actionEntry e p suite
  let put (outcome : Nat) (pay : Bytes) (owed : Bool) (s : Acted) : Acted :=
    { s with out := s.out ++ [actionRecord i t.action outcome sample minute pay], owed := setBit s.owed i owed }
  let tag := if p.form = 0 then counterpart 0 false (fieldBE tpl 0 1) else some 0
  if !s.record.disconnectClass || (suite == 0 && p.form == 2) then put 3 [] false s
  else match outKeyCheck c x s.record, tag with
    | some f, _ => { s with fail := some f }
    | none, none => put 3 [] false s
    | none, some tag =>
      if e.refused then put 1 [] true s
      else if c.gov.hold d.tick && c.gov.baseFree d.tick == 0 && !c.gov.tokenActive d.tick then put 2 [] true s
      else match outKey c x (c.gov.soloNow d.tick) s.record [] 0 with
        | .error _ => put 2 [] true s
        | .ok k => match signOut x k (protectApdu c x tag k tpl) c with
          | .error w => { s with wait := some w }
          | .ok (apdu, c) => put (if owedOne then 4 else 0) apdu false
              { s with chan := c, record := k.record, units := s.units + 1, released := s.released + 1
                       skipped := s.skipped || k.skipped }

/-- One fired or owed trigger's action; an owed trigger that the program no longer makes a disconnect-class action takes effect as
what it now is, and is owed no more. -/
def actOne (ch : Ch) (d : Device) (e : JEntry) (p : Program) (key ref : Nat)
    (f : Nat × Nat × Nat × Int × Bool) (s : Acted) : Acted :=
  match p.triggers[f.1]? with
  | none => s
  | some t =>
    let put (pay : Bytes) (s : Acted) : Acted :=
      { s with out := s.out ++ [actionRecord f.1 t.action (if f.2.2.2.2 then 4 else 0) f.2.1 f.2.2.1 pay]
               owed := setBit s.owed f.1 false, released := s.released + 1 }
    if s.fail.isSome || s.wait.isSome then s
    else if t.action = 0 then put [] s
    else if t.action = 1 then
      match signStatement key (statementHead ch d p e.sub.meter ref f.1 1 f.2.2.2.1 f.2.1 f.2.2.1 0) s.chan with
      | .error w => { s with wait := some w }
      | .ok (b, c) => put b { s with chan := c }
    else
      let tpl := p.templates.getD (t.action - 2) []
      if tpl.isEmpty then put [] s else actDisconnect d e p tpl t f.1 f.2.1 f.2.2.1 f.2.2.2.2 s

/-- Owed triggers in index order, as actions of no sample (R244). -/
def owedList (owed : Nat) : List (Nat × Nat × Nat × Int × Bool) :=
  ((List.range 32).filter fun i => bit owed i).map fun i => (i, 0xFFFFFFFF, 0, 0, true)

end Sys2Proof.Machine
end

