-- ==== Sys2Proof/Machine/Settle.lean ====
section
/-! DEFINITION. The settlement jobs and the jobs that load, list and remove settlement programs (R235, R236, R245 to
R249). -/

namespace Sys2Proof.Machine

/-- Adds an account to a record effect: the account is wrapped after the record, held in a second slot, and written before
the output (R230). -/
def withAccount (ch : Ch) (d : Device) (e : JEntry) (addr : Nat) (a : Account) (out : List HostWrite) (x : Effect) : Effect :=
  let w := wrapBlock d.member ch { x.shard with gen := x.basisShard.gen } 0x02 a.toBytes
  let (sh, rolled) := countSecond x.rollRaised x.shard
  { x with
    shard := sh
    leaf := x.leaf.map fun l => { l with account := some w }
    items := x.items ++ if rolled then [NoteItem.generation ((x.basisShard.epoch + 1) % 2 ^ 64) sh.gen] else []
    rollRaised := x.rollRaised || rolled
    writes := x.writes ++ [⟨.account, e.jidx, addr, w⟩] ++ out }

/-- A settlement job that changes the account: record and account committed together. -/
def stageSettle (ch : Ch) (d : Device) (e : JEntry) (k : RecCheck) (r : MRec) (addr : Nat) (a : Account) (units outBytes : Nat)
    (out : List HostWrite) (c : Channel) : Channel :=
  let x := { plainEffect e 0 0 0 [] c with writes := [], units := units }
  let x := { x with cpl := { x.cpl with outBytes := outBytes } }
  stageJob e.jidx (withAccount ch d e addr a out (recordEffect ch d e k.leaf r x c)) c

/-- The record and account checks of a settlement job with an account, then the rest of it (R229, R245). -/
def withSettle (d : Device) (e : JEntry) (f : RecCheck → Account → Program → Channel → Channel) (c : Channel) : Channel :=
  withRecord d e (fun k c =>
    match accountCheck c k.record (e.data 56 224) with
    | .error x => failE e x c
    | .ok a => match jobProgram c a.program e.serial with
      | none => invalidField e 56 c
      | some p => if p.layout ≠ a.layout then invalidField e 56 c else f k a p c) c

/-- The SETTLE_RUN header (R246). -/
def runHeader (samples actions : Nat) (before after : Int) (lastMin ref cycles : Nat) : Bytes :=
  leBytes 4 samples ++ leBytes 2 actions ++ [0, 0] ++ leBytes 4 (BitVec.ofInt 32 before).toNat ++
  leBytes 4 (BitVec.ofInt 32 after).toNat ++ leBytes 4 lastMin ++ leBytes 4 ref ++ leBytes 4 cycles ++ zeros 4

/-- SETTLE_RUN from the calls on: actions, the new account, the commit (R241 to R246). -/
def settleActions (ch : Ch) (d : Device) (e : JEntry) (k : RecCheck) (a : Account) (p : Program) (seq : Nat)
    (samples : List (List Int)) (rs : RunState) (c : Channel) : Channel :=
  let todo := owedList a.owed ++ rs.fired
  let ref := 2 ^ 31 + seq
  let needsKey := todo.any fun f => (p.triggers[f.1]?.map (·.action)) == some 1
  if 64 < todo.length then failE e ⟨0x0105, 52, 0⟩ c
  else if needsKey ∧ (statementKey c).isNone then invalidField e 0 c
  else match reserveIn c.shard (c.gov.soloNow d.tick) k.record with
    | .error f => failE e f c
    | .ok r0 =>
      let s0 : Acted := { chan := c, record := r0, owed := a.owed }
      let s := todo.foldl (fun s f => actOne ch d e p ((statementKey c).getD 0) ref f s) s0
      match s.fail, s.wait with
      | some f, _ => failE e f c
      | none, some x => drawStop e x c
      | none, none =>
      if samples.isEmpty ∧ a.owed ≠ 0 ∧ s.released = 0 then failE e ⟨0x0400, 0, 0⟩ s.chan
      else
        let last := (samples.getLast?.map fun vs => (vs.headD 0).toNat).getD a.lastMin
        let after := dsegWord rs.chan 0
        let a' := { a with
          ref := ref, lastMin := last, balance := after, armed := rs.armed, owed := s.owed
          state := memBytes rs.chan.mem 0x140004 160 }
        let body := runHeader samples.length s.out.length a.balance after last ref rs.cycles ++ s.out.flatten
        stageSettle ch d e k { s.record with settleRef := ref } e.sub.param a' s.units body.length
          (outWrite e.jidx e.sub body) s.chan

/-- SETTLE_RUN (R246). -/
def settleRunJob (ch : Ch) (d : Device) (e : JEntry) (c : Channel) : Channel :=
  withSettle d e (fun k a p c =>
    match nextSeq a.ref with
    | none => invalidField e 56 c
    | some seq => match jobSamples c p e a.lastMin with
      | .error f => failE e f c
      | .ok samples =>
        let calls := if samples.isEmpty then 0 else samples.length + 1
        if 12000000 < calls * p.cycleLimit then failE e ⟨0x0105, 48, 0⟩ c
        else match runProgram ch d p a samples c with
          | .error (f, c) => failE e f c
          | .ok rs => settleActions ch d e k a p seq samples rs rs.chan) c

/-- SETTLE_OPEN (R247). -/
def settleOpenJob (ch : Ch) (d : Device) (e : JEntry) (c : Channel) : Channel :=
  withRecord d e (fun k c =>
    let b := e.data 32 16
    let bal := int32 (fieldLE b 4 4)
    if refOpen k.record.settleRef then invalidField e 12 c
    else if slice b 2 2 ≠ zeros 2 ∨ slice b 8 8 ≠ zeros 8 then invalidField e 32 c
    else match jobProgram c (fieldLE b 0 2) e.serial with
      | none => invalidField e 56 c
      | some p => match nextSeq k.record.settleRef, statementKey c with
        | none, _ => invalidField e 56 c
        | _, none => invalidField e 0 c
        | some seq, some key => match reserveIn c.shard (c.gov.soloNow d.tick) k.record with
          | .error f => failE e f c
          | .ok r =>
            let ref := 2 ^ 31 + seq
            let a : Account := { meter := e.sub.meter, ref := ref, program := p.id, layout := p.layout, lastMin := 0
                                 balance := bal, armed := 0xFFFFFFFF, owed := 0, state := p.state0 }
            match signStatement key (statementHead ch d p e.sub.meter ref 0xFF 3 bal 0xFFFFFFFF 0 0) c with
            | .error x => drawStop e x c
            | .ok (st, c) => stageSettle ch d e k { r with settleRef := ref } e.sub.outAddr a 0 384
                [⟨.output, e.jidx, e.sub.outAddr + 224, st⟩] c) c

/-- SETTLE_ADJUST (R248). -/
def settleAdjustJob (ch : Ch) (d : Device) (e : JEntry) (c : Channel) : Channel :=
  withSettle d e (fun k a p c =>
    let b := e.data 32 16
    let amount := int32 (fieldLE b 0 4)
    let bal := a.balance + amount
    if slice b 4 4 ≠ zeros 4 ∨ p.maxAdjust < amount.natAbs ∨ bal < -2 ^ 31 ∨ 2 ^ 31 ≤ bal then invalidField e 32 c
    else match nextSeq a.ref, statementKey c with
      | none, _ => invalidField e 56 c
      | _, none => invalidField e 0 c
      | some seq, some key => match reserveIn c.shard (c.gov.soloNow d.tick) k.record with
        | .error f => failE e f c
        | .ok r =>
          let ref := 2 ^ 31 + seq
          let value (t : Trigger) : Int := if t.word = 0 then bal else int32 (fieldLE a.state (4 * (t.word - 1)) 4)
          let armed := p.triggers.zipIdx.foldl (fun n x =>
            if x.1.cond ≠ 4 ∧ !x.1.holds (value x.1) then setBit n x.2 true else n) a.armed
          match signStatement key (statementHead ch d p e.sub.meter ref 0xFF 2 bal 0xFFFFFFFF 0 (fieldLE b 8 8)) c with
          | .error x => drawStop e x c
          | .ok (st, c) =>
            stageSettle ch d e k { r with settleRef := ref } e.sub.param { a with ref := ref, balance := bal, armed := armed } 0
              160 (outWrite e.jidx e.sub st) c) c

/-- SETTLE_CLOSE (R249). -/
def settleCloseJob (ch : Ch) (d : Device) (e : JEntry) (c : Channel) : Channel :=
  withSettle d e (fun k a p c =>
    match nextSeq a.ref, statementKey c with
    | none, _ => invalidField e 56 c
    | _, none => invalidField e 0 c
    | some seq, some key => match reserveIn c.shard (c.gov.soloNow d.tick) k.record with
      | .error f => failE e f c
      | .ok r =>
        match signStatement key (statementHead ch d p e.sub.meter seq 0xFF 4 a.balance 0xFFFFFFFF 0 0) c with
        | .error x => drawStop e x c
        | .ok (st, c) =>
          stageJob e.jidx (recordEffect ch d e k.leaf { r with settleRef := seq } (plainEffect e 0 0 0 st c) c) c) c

/-- PROGRAM_LOAD (R235, R236). -/
def programLoadJob (e : JEntry) (c : Channel) : Channel :=
  let b := e.data 32 e.sub.inLen
  let p := Program.ofBytes b
  if loadBusy c e [0x0F70, 0x0F72] then c
  else match programAdmit c.keys b with
    | some k => failE e k.fail c
    | none => match versionCheck c.programs p.id p.version b with
      | .error _ => failE e (rejected 9 0xFFFF).fail c
      | .ok true => finishPlain e (p.version + 2 ^ 33) [] c
      | .ok false =>
        if 262144 < areaUsed c.programs + b.length ∧ ¬ c.programs.draining.isEmpty then c
        else match programSpace c.programs p.id b.length with
          | some f => failE e f c
          | none =>
            let replaced := c.programs.loaded.any fun i => i.id == p.id
            match admitImage settleStore (settleBound c.jr.entries) c.programs c.nv p.id p.version c.jr.serial b with
            | none => failE e storeFull c
            | some x => finishPlain e (p.version + 2 ^ 32 * b2n replaced) [] { c with programs := x.1, nv := x.2 }

/-- A line of PROGRAM_LIST. -/
def programLine (a : ImageArea) (i : Image) : Bytes :=
  let p := Program.ofBytes i.bytes
  leBytes 2 i.id ++ leBytes 2 p.layout ++ leBytes 4 i.version ++ leBytes 4 i.bytes.length ++
  [byte (b2n (a.draining.any fun x => x.id == i.id)), 0, 0, 0]

/-- PROGRAM_LIST (R236). -/
def programListJob (e : JEntry) (c : Channel) : Channel :=
  let l := imagesAscending c.programs.loaded
  let head := leBytes 2 l.length ++ [0, 0] ++ leBytes 4 (loadedBytes c.programs) ++ leBytes 4 (storeFree settleStore c.nv) ++ zeros 4
  finishPlain e l.length (head ++ (l.map (programLine c.programs)).flatten) c

/-- PROGRAM_REMOVE (R236). -/
def programRemoveJob (e : JEntry) (c : Channel) : Channel :=
  if loadBusy c e [0x0F70, 0x0F72] then c
  else if !(c.programs.loaded.any fun i => i.id == e.sub.recipe) then failE e ⟨0x0108, 0, 0⟩ c
  else match removeImage settleStore (settleBound c.jr.entries) c.programs c.nv e.sub.recipe c.jr.serial with
    | none => failE e storeFull c
    | some x => finishPlain e 0 [] { c with programs := x.1, nv := x.2 }

/-- The runtime runs one job at a time, in claim order (R237): an earlier settlement job has not run yet. -/
def settleBusy (c : Channel) (e : JEntry) : Bool :=
  c.jr.entries.any fun o =>
    o.serial < e.serial && o.sub.opcode == 0x0601 && o.state == .claimed && o.ready.isNone && o.writes.isEmpty && o.jidx != e.jidx &&
    jobReady c o 0x0601

/-- SETTLE_RUN. -/
def execSettleRun (ch : Ch) (jidx : Nat) (s : State) : Host.Outcome State Fault Refusal :=
  .next (onChanS ch (fun ch d c => runJob 0x0601 jidx (fun e c => if settleBusy c e then c else settleRunJob ch d e c) c) s)

/-- SETTLE_OPEN. -/
def execSettleOpen (ch : Ch) (jidx : Nat) (s : State) : Host.Outcome State Fault Refusal :=
  .next (onChan ch (fun ch d c => runJob 0x0602 jidx (settleOpenJob ch d) c) s)

/-- SETTLE_ADJUST. -/
def execSettleAdjust (ch : Ch) (jidx : Nat) (s : State) : Host.Outcome State Fault Refusal :=
  .next (onChan ch (fun ch d c => runJob 0x0603 jidx (settleAdjustJob ch d) c) s)

/-- SETTLE_CLOSE. -/
def execSettleClose (ch : Ch) (jidx : Nat) (s : State) : Host.Outcome State Fault Refusal :=
  .next (onChan ch (fun ch d c => runJob 0x0604 jidx (settleCloseJob ch d) c) s)

/-- PROGRAM_LOAD. -/
def execProgramLoad (ch : Ch) (jidx : Nat) (s : State) : Host.Outcome State Fault Refusal :=
  .next (onChan ch (fun _ _ c => runJob 0x0F70 jidx programLoadJob c) s)

/-- PROGRAM_LIST. -/
def execProgramList (ch : Ch) (jidx : Nat) (s : State) : Host.Outcome State Fault Refusal :=
  .next (onChan ch (fun _ _ c => runJob 0x0F71 jidx programListJob c) s)

/-- PROGRAM_REMOVE. -/
def execProgramRemove (ch : Ch) (jidx : Nat) (s : State) : Host.Outcome State Fault Refusal :=
  .next (onChan ch (fun _ _ c => runJob 0x0F72 jidx programRemoveJob c) s)

end Sys2Proof.Machine
end

