-- ==== Sys2Proof/Machine/Dispatch.lean ====
section
/-! DEFINITION. One arm for each command: the meaning it calls, or its rejection by name. -/

namespace Sys2Proof.Machine

open Host

def exec (i : Instr) (s : State) : Host.Outcome State Fault Refusal :=
  match i with
  | .mainPowerApply start => Sys2Proof.Machine.execMainPowerApply start s
  | .supplyFall => Sys2Proof.Machine.execSupplyFall s
  | .supplyRecover rail => Sys2Proof.Machine.execSupplyRecover rail s
  | .mainPowerLoss => Sys2Proof.Machine.execMainPowerLoss s
  | .linkTrain => Sys2Proof.Machine.execLinkTrain s
  | .linkTrainTimeout => Sys2Proof.Machine.execLinkTrainTimeout s
  | .linkTrainRetry trained => Sys2Proof.Machine.execLinkTrainRetry trained s
  | .linkFrameReceive toKeep frame => Sys2Proof.Machine.execLinkFrameReceive toKeep frame s
  | .tamperArm met micros => Sys2Proof.Machine.execTamperArm met micros s
  | .channelResetRelease ch => Sys2Proof.Machine.execChannelResetRelease ch s
  | .channelBoot ch seen => Sys2Proof.Machine.execChannelBoot ch seen s
  | .rootLoadRetry ch image flips micros => Sys2Proof.Machine.execRootLoadRetry ch image flips micros s
  | .proofing ch alarm rct => Sys2Proof.Machine.execProofing ch alarm rct s
  | .waitMgmtRetry ch => Sys2Proof.Machine.execWaitMgmtRetry ch s
  | .managementBoot torn0 torn1 => Sys2Proof.Machine.execManagementBoot torn0 torn1 s
  | .managementReset => Sys2Proof.Machine.execManagementReset s
  | .mgmtWatchdogExpiry => Sys2Proof.Machine.execMgmtWatchdogExpiry s
  | .warmReset => Sys2Proof.Machine.execWarmReset s
  | .perstAssert => Sys2Proof.Machine.execPerstAssert s
  | .perstDeassert => Sys2Proof.Machine.execPerstDeassert s
  | .configRequest fn => Sys2Proof.Machine.execConfigRequest fn s
  | .functionLevelReset ch => Sys2Proof.Machine.execFunctionLevelReset ch s
  | .flrMgmtFunction => Sys2Proof.Machine.execFlrMgmtFunction s
  | .d3hotEntry fn => Sys2Proof.Machine.execD3hotEntry fn s
  | .d0Return fn => Sys2Proof.Machine.execD0Return fn s
  | .hearthSliceFault fn fault => Sys2Proof.Machine.execHearthSliceFault fn fault s
  | .hearthLinkDown => Sys2Proof.Machine.execHearthLinkDown s
  | .hearthRecover => Sys2Proof.Machine.execHearthRecover s
  | .registerWrite space off data => Sys2Proof.Machine.execRegisterWrite space off data s
  | .chCtrlWrite ch value => Sys2Proof.Machine.execChCtrlWrite ch value s
  | .windowLock fn => Sys2Proof.Machine.execWindowLock fn s
  | .ringEnable ch pair value => Sys2Proof.Machine.execRingEnable ch pair value s
  | .ringDisable ch pair value => Sys2Proof.Machine.execRingDisable ch pair value s
  | .ringVecWrite ch pair value => Sys2Proof.Machine.execRingVecWrite ch pair value s
  | .sqDoorbellTail ch q value => Sys2Proof.Machine.execSqDoorbellTail ch q value s
  | .sqDoorbellInline ch q entry => Sys2Proof.Machine.execSqDoorbellInline ch q entry s
  | .sqDoorbellInlinePartial ch q off len => Sys2Proof.Machine.execSqDoorbellInlinePartial ch q off len s
  | .cqHeadWrite ch q value => Sys2Proof.Machine.execCqHeadWrite ch q value s
  | .jobClaim ch h0 h1 h2 h3 => Sys2Proof.Machine.execJobClaim ch h0 h1 h2 h3 s
  | .dmaReadDone ch jidx field data => Sys2Proof.Machine.execDmaReadDone ch jidx field data s
  | .jobCommit ch jidx => Sys2Proof.Machine.execJobCommit ch jidx s
  | .batteryTransactionDone ch => Sys2Proof.Machine.execBatteryTransactionDone ch s
  | .stagedWritesSend ch jidx => Sys2Proof.Machine.execStagedWritesSend ch jidx s
  | .writeAcknowledged fn => Sys2Proof.Machine.execWriteAcknowledged fn s
  | .completionPost ch jidx => Sys2Proof.Machine.execCompletionPost ch jidx s
  | .cqCoalesceTimeout ch q => Sys2Proof.Machine.execCqCoalesceTimeout ch q s
  | .mailboxGo => Sys2Proof.Machine.execMailboxGo s
  | .mailboxTakeUp request => Sys2Proof.Machine.execMailboxTakeUp request s
  | .mailboxTimeout => Sys2Proof.Machine.execMailboxTimeout s
  | .eventPortCrumb ch code p0 p1 p2 p3 => Sys2Proof.Machine.execEventPortCrumb ch code p0 p1 p2 p3 s
  | .eventPortDeliver ch => Sys2Proof.Machine.execEventPortDeliver ch s
  | .aonQueueDeliver => Sys2Proof.Machine.execAonQueueDeliver s
  | .updatePortGrant ch => Sys2Proof.Machine.execUpdatePortGrant ch s
  | .updatePortRevoke ch => Sys2Proof.Machine.execUpdatePortRevoke ch s
  | .commitList ch jidx => Sys2Proof.Machine.execCommitList ch jidx s
  | .commitRecover ch jidx => Sys2Proof.Machine.execCommitRecover ch jidx s
  | .journalList ch jidx => Sys2Proof.Machine.execJournalList ch jidx s
  | .unprotect ch jidx => Sys2Proof.Machine.execUnprotect ch jidx s
  | .unprotectSeq ch jidx => Sys2Proof.Machine.execUnprotectSeq ch jidx s
  | .protect ch jidx => Sys2Proof.Machine.execProtect ch jidx s
  | .protectBroadcast ch jidx => Sys2Proof.Machine.execProtectBroadcast ch jidx s
  | .protectDisconnect ch jidx => Sys2Proof.Machine.execProtectDisconnect ch jidx s
  | .keyTransport ch jidx => Sys2Proof.Machine.execKeyTransport ch jidx s
  | .keyActivate ch jidx => Sys2Proof.Machine.execKeyActivate ch jidx s
  | .keyDiscard ch jidx => Sys2Proof.Machine.execKeyDiscard ch jidx s
  | .dedicatedRelease ch jidx => Sys2Proof.Machine.execDedicatedRelease ch jidx s
  | .governorStatus ch jidx => Sys2Proof.Machine.execGovernorStatus ch jidx s
  | .tokenChallenge ch jidx => Sys2Proof.Machine.execTokenChallenge ch jidx s
  | .tokenApply ch jidx => Sys2Proof.Machine.execTokenApply ch jidx s
  | .governorLower ch jidx => Sys2Proof.Machine.execGovernorLower ch jidx s
  | .grantAgeOut ch => Sys2Proof.Machine.execGrantAgeOut ch s
  | .challengeExpiry ch => Sys2Proof.Machine.execChallengeExpiry ch s
  | .tokenExpiry ch => Sys2Proof.Machine.execTokenExpiry ch s
  | .promotionHoldEnd ch => Sys2Proof.Machine.execPromotionHoldEnd ch s
  | .recipeLoad ch jidx => Sys2Proof.Machine.execRecipeLoad ch jidx s
  | .recipeList ch jidx => Sys2Proof.Machine.execRecipeList ch jidx s
  | .recipeRemove ch jidx => Sys2Proof.Machine.execRecipeRemove ch jidx s
  | .recipeVersionDrained ch => Sys2Proof.Machine.execRecipeVersionDrained ch s
  | .frameUnitGo ch => Sys2Proof.Machine.execFrameUnitGo ch s
  | .frameUnitPhaseDone ch => Sys2Proof.Machine.execFrameUnitPhaseDone ch s
  | .recordImport ch jidx => Sys2Proof.Machine.execRecordImport ch jidx s
  | .recordRewrap ch jidx => Sys2Proof.Machine.execRecordRewrap ch jidx s
  | .recordRotate ch jidx => Sys2Proof.Machine.execRecordRotate ch jidx s
  | .recordRetire ch jidx => Sys2Proof.Machine.execRecordRetire ch jidx s
  | .shardCreate ch jidx => Sys2Proof.Machine.execShardCreate ch jidx s
  | .treeImage ch jidx => Sys2Proof.Machine.execTreeImage ch jidx s
  | .shardStatus ch jidx => Sys2Proof.Machine.execShardStatus ch jidx s
  | .rootBackup ch => Sys2Proof.Machine.execRootBackup ch s
  | .treeCheckpoint ch => Sys2Proof.Machine.execTreeCheckpoint ch s
  | .keepPreferenceExpiry ch => Sys2Proof.Machine.execKeepPreferenceExpiry ch s
  | .sigVerify ch jidx => Sys2Proof.Machine.execSigVerify ch jidx s
  | .rsaVerify ch jidx => Sys2Proof.Machine.execRsaVerify ch jidx s
  | .rsaSign ch jidx => Sys2Proof.Machine.execRsaSign ch jidx s
  | .attest ch jidx => Sys2Proof.Machine.execAttest ch jidx s
  | .pubkeyExport ch jidx => Sys2Proof.Machine.execPubkeyExport ch jidx s
  | .pkPush ch => Sys2Proof.Machine.execPkPush ch s
  | .pkeBatchStart ch => Sys2Proof.Machine.execPkeBatchStart ch s
  | .pkeBatchEnd ch fault => Sys2Proof.Machine.execPkeBatchEnd ch fault s
  | .pkDonePop ch => Sys2Proof.Machine.execPkDonePop ch s
  | .pkAbort ch finished => Sys2Proof.Machine.execPkAbort ch finished s
  | .pkClear ch => Sys2Proof.Machine.execPkClear ch s
  | .pkeClearDone ch => Sys2Proof.Machine.execPkeClearDone ch s
  | .hashInit ch value => Sys2Proof.Machine.execHashInit ch value s
  | .hashFeed ch value => Sys2Proof.Machine.execHashFeed ch value s
  | .hashFinal ch value => Sys2Proof.Machine.execHashFinal ch value s
  | .hashClear ch => Sys2Proof.Machine.execHashClear ch s
  | .hashOpDone ch lane => Sys2Proof.Machine.execHashOpDone ch lane s
  | .ceAlloc ch => Sys2Proof.Machine.execCeAlloc ch s
  | .ceFree ch cx => Sys2Proof.Machine.execCeFree ch cx s
  | .ceClearDone ch cx => Sys2Proof.Machine.execCeClearDone ch cx s
  | .ceZero ch => Sys2Proof.Machine.execCeZero ch s
  | .cxCfgWrite ch cx value => Sys2Proof.Machine.execCxCfgWrite ch cx value s
  | .cxCounterWrite ch cx reg value => Sys2Proof.Machine.execCxCounterWrite ch cx reg value s
  | .cxLimitWrite ch cx value => Sys2Proof.Machine.execCxLimitWrite ch cx value s
  | .keyload ch cx mark => Sys2Proof.Machine.execKeyload ch cx mark s
  | .start ch cx mark => Sys2Proof.Machine.execStart ch cx mark s
  | .aad ch cx mark => Sys2Proof.Machine.execAad ch cx mark s
  | .data ch cx irq fault => Sys2Proof.Machine.execData ch cx irq fault s
  | .final ch cx irq fault => Sys2Proof.Machine.execFinal ch cx irq fault s
  | .abort ch cx irq => Sys2Proof.Machine.execAbort ch cx irq s
  | .settleRun ch jidx => Sys2Proof.Machine.execSettleRun ch jidx s
  | .settleOpen ch jidx => Sys2Proof.Machine.execSettleOpen ch jidx s
  | .settleAdjust ch jidx => Sys2Proof.Machine.execSettleAdjust ch jidx s
  | .settleClose ch jidx => Sys2Proof.Machine.execSettleClose ch jidx s
  | .programLoad ch jidx => Sys2Proof.Machine.execProgramLoad ch jidx s
  | .programList ch jidx => Sys2Proof.Machine.execProgramList ch jidx s
  | .programRemove ch jidx => Sys2Proof.Machine.execProgramRemove ch jidx s
  | .nop core => Sys2Proof.Machine.execNop core s
  | .drop core => Sys2Proof.Machine.execDrop core s
  | .dup core => Sys2Proof.Machine.execDup core s
  | .swap core => Sys2Proof.Machine.execSwap core s
  | .over core => Sys2Proof.Machine.execOver core s
  | .rot core => Sys2Proof.Machine.execRot core s
  | .nip core => Sys2Proof.Machine.execNip core s
  | .pick core n => Sys2Proof.Machine.execPick core n s
  | .depth core => Sys2Proof.Machine.execDepth core s
  | .drop2 core => Sys2Proof.Machine.execDrop2 core s
  | .dup2 core => Sys2Proof.Machine.execDup2 core s
  | .push8 core imm => Sys2Proof.Machine.execPush8 core imm s
  | .push16 core imm => Sys2Proof.Machine.execPush16 core imm s
  | .push32 core imm => Sys2Proof.Machine.execPush32 core imm s
  | .pushu8 core imm => Sys2Proof.Machine.execPushu8 core imm s
  | .pushu16 core imm => Sys2Proof.Machine.execPushu16 core imm s
  | .pushh core imm => Sys2Proof.Machine.execPushh core imm s
  | .add core => Sys2Proof.Machine.execAdd core s
  | .sub core => Sys2Proof.Machine.execSub core s
  | .neg core => Sys2Proof.Machine.execNeg core s
  | .abs core => Sys2Proof.Machine.execAbs core s
  | .min core => Sys2Proof.Machine.execMin core s
  | .max core => Sys2Proof.Machine.execMax core s
  | .addi8 core imm => Sys2Proof.Machine.execAddi8 core imm s
  | .addi16 core imm => Sys2Proof.Machine.execAddi16 core imm s
  | .eq core => Sys2Proof.Machine.execEq core s
  | .ne core => Sys2Proof.Machine.execNe core s
  | .lt core => Sys2Proof.Machine.execLt core s
  | .le core => Sys2Proof.Machine.execLe core s
  | .ltu core => Sys2Proof.Machine.execLtu core s
  | .leu core => Sys2Proof.Machine.execLeu core s
  | .sel core => Sys2Proof.Machine.execSel core s
  | .addw core => Sys2Proof.Machine.execAddw core s
  | .and core => Sys2Proof.Machine.execAnd core s
  | .or core => Sys2Proof.Machine.execOr core s
  | .xor core => Sys2Proof.Machine.execXor core s
  | .not core => Sys2Proof.Machine.execNot core s
  | .shl core n => Sys2Proof.Machine.execShl core n s
  | .shr core n => Sys2Proof.Machine.execShr core n s
  | .sarr core n => Sys2Proof.Machine.execSarr core n s
  | .shlv core => Sys2Proof.Machine.execShlv core s
  | .shrv core => Sys2Proof.Machine.execShrv core s
  | .sarv core => Sys2Proof.Machine.execSarv core s
  | .clz core => Sys2Proof.Machine.execClz core s
  | .subw core => Sys2Proof.Machine.execSubw core s
  | .mul core => Sys2Proof.Machine.execMul core s
  | .mulq core => Sys2Proof.Machine.execMulq core s
  | .add2 core => Sys2Proof.Machine.execAdd2 core s
  | .sub2 core => Sys2Proof.Machine.execSub2 core s
  | .mul2 core => Sys2Proof.Machine.execMul2 core s
  | .pack core => Sys2Proof.Machine.execPack core s
  | .unpk core => Sys2Proof.Machine.execUnpk core s
  | .clra core k => Sys2Proof.Machine.execClra core k s
  | .lda core k => Sys2Proof.Machine.execLda core k s
  | .mac core k => Sys2Proof.Machine.execMac core k s
  | .msu core k => Sys2Proof.Machine.execMsu core k s
  | .rda core k => Sys2Proof.Machine.execRda core k s
  | .rdas core k n => Sys2Proof.Machine.execRdas core k n s
  | .adda core k => Sys2Proof.Machine.execAdda core k s
  | .ldw core seg => Sys2Proof.Machine.execLdw core seg s
  | .ldwi core seg imm => Sys2Proof.Machine.execLdwi core seg imm s
  | .ldh core seg => Sys2Proof.Machine.execLdh core seg s
  | .ldb core seg => Sys2Proof.Machine.execLdb core seg s
  | .stw core seg => Sys2Proof.Machine.execStw core seg s
  | .stwi core seg imm => Sys2Proof.Machine.execStwi core seg imm s
  | .sth core seg => Sys2Proof.Machine.execSth core seg s
  | .stb core seg => Sys2Proof.Machine.execStb core seg s
  | .br core r => Sys2Proof.Machine.execBr core r s
  | .brs core r => Sys2Proof.Machine.execBrs core r s
  | .bz core r => Sys2Proof.Machine.execBz core r s
  | .bnz core r => Sys2Proof.Machine.execBnz core r s
  | .call core r => Sys2Proof.Machine.execCall core r s
  | .ret core => Sys2Proof.Machine.execRet core s
  | .jmp core => Sys2Proof.Machine.execJmp core s
  | .bmov core m stop => Sys2Proof.Machine.execBmov core m stop s
  | .vmac core m stop => Sys2Proof.Machine.execVmac core m stop s
  | .loops core b => Sys2Proof.Machine.execLoops core b s
  | .hblkInit core alg hi wait => Sys2Proof.Machine.execHblkInit core alg hi wait s
  | .hblkFeed core hi wait stop => Sys2Proof.Machine.execHblkFeed core hi wait stop s
  | .hblkFinal core hi wait stop => Sys2Proof.Machine.execHblkFinal core hi wait stop s
  | .divs core n stop => Sys2Proof.Machine.execDivs core n stop s
  | .feat core n => Sys2Proof.Machine.execFeat core n s
  | .gate core n => Sys2Proof.Machine.execGate core n s
  | .rete core => Sys2Proof.Machine.execRete core s
  | .mfsr core n => Sys2Proof.Machine.execMfsr core n s
  | .mtsr core n => Sys2Proof.Machine.execMtsr core n s
  | .segr core n => Sys2Proof.Machine.execSegr core n s
  | .segw core n => Sys2Proof.Machine.execSegw core n s
  | .setrnd core m => Sys2Proof.Machine.execSetrnd core m s
  | .setsat core m => Sys2Proof.Machine.execSetsat core m s
  | .clrov core => Sys2Proof.Machine.execClrov core s
  | .brk core n => Sys2Proof.Machine.execBrk core n s
  | .wait core => Sys2Proof.Machine.execWait core s
  | .resultLand core => Sys2Proof.Machine.execResultLand core s
  | .faultEntry core opcode => Sys2Proof.Machine.execFaultEntry core opcode s
  | .interruptEntry core => Sys2Proof.Machine.execInterruptEntry core s
  | .timerMatch core => Sys2Proof.Machine.execTimerMatch core s
  | .doubleFault core => Sys2Proof.Machine.execDoubleFault core s
  | .lockstepMiscompare core => Sys2Proof.Machine.execLockstepMiscompare core s
  | .conditioningBlock ch => Sys2Proof.Machine.execConditioningBlock ch s
  | .healthAlarm ch rct apt value => Sys2Proof.Machine.execHealthAlarm ch rct apt value s
  | .instantiate ch inst irq outer => Sys2Proof.Machine.execInstantiate ch inst irq outer s
  | .generate ch inst irq outer => Sys2Proof.Machine.execGenerate ch inst irq outer s
  | .reseed ch inst irq outer => Sys2Proof.Machine.execReseed ch inst irq outer s
  | .uninstantiate ch inst irq outer => Sys2Proof.Machine.execUninstantiate ch inst irq outer s
  | .drbgRequestDone ch inst => Sys2Proof.Machine.execDrbgRequestDone ch inst s
  | .drbgReseedDue ch inst => Sys2Proof.Machine.execDrbgReseedDue ch inst s
  | .drbgReseedApply ch inst => Sys2Proof.Machine.execDrbgReseedApply ch inst s
  | .drbgInstanceError ch inst => Sys2Proof.Machine.execDrbgInstanceError ch inst s
  | .calibrationStart ch => Sys2Proof.Machine.execCalibrationStart ch s
  | .calibrationDone ch fault => Sys2Proof.Machine.execCalibrationDone ch fault s
  | .rgTestWrite ch value => Sys2Proof.Machine.execRgTestWrite ch value s
  | .rgTpDataWrite ch value => Sys2Proof.Machine.execRgTpDataWrite ch value s
  | .rgRawRead ch => Sys2Proof.Machine.execRgRawRead ch s
  | .atPermWrite unit entry value => Sys2Proof.Machine.execAtPermWrite unit entry value s
  | .atEntryLock unit entry => Sys2Proof.Machine.execAtEntryLock unit entry s
  | .lockAll unit => Sys2Proof.Machine.execLockAll unit s
  | .cntClr unit => Sys2Proof.Machine.execCntClr unit s
  | .scrubLine unit corrected bad => Sys2Proof.Machine.execScrubLine unit corrected bad s
  | .bucketLeak unit nv => Sys2Proof.Machine.execBucketLeak unit nv s
  | .bucketThresholdWrite unit nv value => Sys2Proof.Machine.execBucketThresholdWrite unit nv value s
  | .atViewUpdate unit => Sys2Proof.Machine.execAtViewUpdate unit s
  | .program bank irq => Sys2Proof.Machine.execProgram bank irq s
  | .programSeg bank irq => Sys2Proof.Machine.execProgramSeg bank irq s
  | .erase bank autosusp irq => Sys2Proof.Machine.execErase bank autosusp irq s
  | .format bank irq => Sys2Proof.Machine.execFormat bank irq s
  | .check bank irq => Sys2Proof.Machine.execCheck bank irq s
  | .nvCommandDone bank senses fail => Sys2Proof.Machine.execNvCommandDone bank senses fail s
  | .suspend bank => Sys2Proof.Machine.execSuspend bank s
  | .resume bank => Sys2Proof.Machine.execResume bank s
  | .eraseAutosuspend bank => Sys2Proof.Machine.execEraseAutosuspend bank s
  | .eraseAutoresume bank => Sys2Proof.Machine.execEraseAutoresume bank s
  | .flashWindowRead bank off corr uncorr => Sys2Proof.Machine.execFlashWindowRead bank off corr uncorr s
  | .flashScrubSense bank corr uncorr => Sys2Proof.Machine.execFlashScrubSense bank corr uncorr s
  | .refreshPop bank => Sys2Proof.Machine.execRefreshPop bank s
  | .noteBuild ch jidx => Sys2Proof.Machine.execNoteBuild ch jidx s
  | .pairBeat ch jidx => Sys2Proof.Machine.execPairBeat ch jidx s
  | .snapshotStart ch jidx => Sys2Proof.Machine.execSnapshotStart ch jidx s
  | .snapshotChunk ch jidx => Sys2Proof.Machine.execSnapshotChunk ch jidx s
  | .snapshotCommit ch jidx => Sys2Proof.Machine.execSnapshotCommit ch jidx s
  | .promote ch jidx image => Sys2Proof.Machine.execPromote ch jidx image s
  | .relinquish ch jidx => Sys2Proof.Machine.execRelinquish ch jidx s
  | .pairReceive ch jidx => Sys2Proof.Machine.execPairReceive ch jidx s
  | .receiveNote ch jidx => Sys2Proof.Machine.execReceiveNote ch jidx s
  | .receiveAck ch jidx => Sys2Proof.Machine.execReceiveAck ch jidx s
  | .receiveBeat ch jidx => Sys2Proof.Machine.execReceiveBeat ch jidx s
  | .receiveChunk ch jidx => Sys2Proof.Machine.execReceiveChunk ch jidx s
  | .receiveCommit ch jidx => Sys2Proof.Machine.execReceiveCommit ch jidx s
  | .receiveRelinquish ch jidx => Sys2Proof.Machine.execReceiveRelinquish ch jidx s
  | .pairBindActive ch jidx => Sys2Proof.Machine.execPairBindActive ch jidx s
  | .pairBindStandby ch jidx => Sys2Proof.Machine.execPairBindStandby ch jidx s
  | .pairUnbind ch jidx => Sys2Proof.Machine.execPairUnbind ch jidx s
  | .pairStatus ch jidx => Sys2Proof.Machine.execPairStatus ch jidx s
  | .revocationLoad ch jidx => Sys2Proof.Machine.execRevocationLoad ch jidx s
  | .ackOverdue ch => Sys2Proof.Machine.execAckOverdue ch s
  | .ackLagRelease ch => Sys2Proof.Machine.execAckLagRelease ch s
  | .soloPermitExpiry ch => Sys2Proof.Machine.execSoloPermitExpiry ch s
  | .sensorSample values => Sys2Proof.Machine.execSensorSample values s
  | .telemetryPublish => Sys2Proof.Machine.execTelemetryPublish s
  | .sensorHistoryAppend => Sys2Proof.Machine.execSensorHistoryAppend s
  | .smbusRetry => Sys2Proof.Machine.execSmbusRetry s
  | .smbusPacketReceive vdm addr pecOk packet => Sys2Proof.Machine.execSmbusPacketReceive vdm addr pecOk packet s
  | .setEndpointId => Sys2Proof.Machine.execSetEndpointId s
  | .getEndpointId => Sys2Proof.Machine.execGetEndpointId s
  | .getEndpointUuid => Sys2Proof.Machine.execGetEndpointUuid s
  | .getMctpVersionSupport => Sys2Proof.Machine.execGetMctpVersionSupport s
  | .getMessageTypeSupport => Sys2Proof.Machine.execGetMessageTypeSupport s
  | .gettid => Sys2Proof.Machine.execGettid s
  | .settid => Sys2Proof.Machine.execSettid s
  | .getpldmversion => Sys2Proof.Machine.execGetpldmversion s
  | .getpldmtypes => Sys2Proof.Machine.execGetpldmtypes s
  | .getpldmcommands => Sys2Proof.Machine.execGetpldmcommands s
  | .getsensorreading => Sys2Proof.Machine.execGetsensorreading s
  | .getstatesensorreadings => Sys2Proof.Machine.execGetstatesensorreadings s
  | .getpdrrepositoryinfo => Sys2Proof.Machine.execGetpdrrepositoryinfo s
  | .getpdr => Sys2Proof.Machine.execGetpdr s
  | .querydeviceidentifiers => Sys2Proof.Machine.execQuerydeviceidentifiers s
  | .getfirmwareparameters => Sys2Proof.Machine.execGetfirmwareparameters s
  | .requestupdate => Sys2Proof.Machine.execRequestupdate s
  | .passcomponenttable => Sys2Proof.Machine.execPasscomponenttable s
  | .updatecomponent => Sys2Proof.Machine.execUpdatecomponent s
  | .requestfirmwaredata response => Sys2Proof.Machine.execRequestfirmwaredata response s
  | .activatefirmware => Sys2Proof.Machine.execActivatefirmware s
  | .getstatus => Sys2Proof.Machine.execGetstatus s
  | .cancelupdatecomponent => Sys2Proof.Machine.execCancelupdatecomponent s
  | .cancelupdate => Sys2Proof.Machine.execCancelupdate s
  | .getInfo => Sys2Proof.Machine.execGetInfo s
  | .sensorConfig => Sys2Proof.Machine.execSensorConfig s
  | .sensorHistory => Sys2Proof.Machine.execSensorHistory s
  | .sidebandConfig => Sys2Proof.Machine.execSidebandConfig s
  | .updateBegin => Sys2Proof.Machine.execUpdateBegin s
  | .updateData => Sys2Proof.Machine.execUpdateData s
  | .updateVerify => Sys2Proof.Machine.execUpdateVerify s
  | .updateActivate => Sys2Proof.Machine.execUpdateActivate s
  | .updateCommit => Sys2Proof.Machine.execUpdateCommit s
  | .updateRevert => Sys2Proof.Machine.execUpdateRevert s
  | .updateAbort => Sys2Proof.Machine.execUpdateAbort s
  | .updateStatus => Sys2Proof.Machine.execUpdateStatus s
  | .trialBootTimeout target => Sys2Proof.Machine.execTrialBootTimeout target s
  | .lifecycleAdvance => Sys2Proof.Machine.execLifecycleAdvance s
  | .lifecycleBlowDone => Sys2Proof.Machine.execLifecycleBlowDone s
  | .crumbAccept => Sys2Proof.Machine.execCrumbAccept s
  | .segmentFlushTimeout => Sys2Proof.Machine.execSegmentFlushTimeout s
  | .classTokenRefill cls => Sys2Proof.Machine.execClassTokenRefill cls s
  | .operatingSecond => Sys2Proof.Machine.execOperatingSecond s
  | .counterCopy => Sys2Proof.Machine.execCounterCopy s
  | .freeze value => Sys2Proof.Machine.execFreeze value s
  | .unfreeze value => Sys2Proof.Machine.execUnfreeze value s
  | .freezeExpiry => Sys2Proof.Machine.execFreezeExpiry s
  | .evLogSelect value => Sys2Proof.Machine.execEvLogSelect value s
  | .evDataRead word => Sys2Proof.Machine.execEvDataRead word s
  | .classGet => Sys2Proof.Machine.execClassGet s
  | .classSet => Sys2Proof.Machine.execClassSet s
  | .logRead => Sys2Proof.Machine.execLogRead s
  | .stats => Sys2Proof.Machine.execStats s
  | .pinnedClear => Sys2Proof.Machine.execPinnedClear s
  | .tamperTrip met samples => Sys2Proof.Machine.execTamperTrip met samples s
  | .zeroizeDone unit => Sys2Proof.Machine.execZeroizeDone unit s
  | .episodeEnd source => Sys2Proof.Machine.execEpisodeEnd source s
  | .crustReseed => Sys2Proof.Machine.execCrustReseed s
  | .monitorSelfCheck failing => Sys2Proof.Machine.execMonitorSelfCheck failing s
  | .batteryBurst met => Sys2Proof.Machine.execBatteryBurst met s
  | .removalArm => Sys2Proof.Machine.execRemovalArm s
  | .cellRemovedOnMain => Sys2Proof.Machine.execCellRemovedOnMain s
  | .cellRemoved => Sys2Proof.Machine.execCellRemoved s
  | .tamperStatus => Sys2Proof.Machine.execTamperStatus s
  | .tamperChallenge => Sys2Proof.Machine.execTamperChallenge s
  | .tamperClear => Sys2Proof.Machine.execTamperClear s
  | .tamperWiden => Sys2Proof.Machine.execTamperWiden s
  | .tamperNarrow => Sys2Proof.Machine.execTamperNarrow s
  | .tamperMode => Sys2Proof.Machine.execTamperMode s
  | .tamperBattInterval => Sys2Proof.Machine.execTamperBattInterval s
  | .safetyReport ch mech info job => Sys2Proof.Machine.execSafetyReport ch mech info job s
  | .safetyResetTimeout ch => Sys2Proof.Machine.execSafetyResetTimeout ch s
  | .safetyExchange result => Sys2Proof.Machine.execSafetyExchange result s
  | .sfReport ch value => Sys2Proof.Machine.execSfReport ch value s
  | .kick ch => Sys2Proof.Machine.execKick ch s
  | .watchdogEnable ch => Sys2Proof.Machine.execWatchdogEnable ch s
  | .watchdogExpiry ch => Sys2Proof.Machine.execWatchdogExpiry ch s
  | .bistNoticeStart ch => Sys2Proof.Machine.execBistNoticeStart ch s
  | .bistCycle ch => Sys2Proof.Machine.execBistCycle ch s
  | .bistCycleDone ch signature uncorr rows => Sys2Proof.Machine.execBistCycleDone ch signature uncorr rows s
  | .safetyStatus => Sys2Proof.Machine.execSafetyStatus s
  | .safetyRelease => Sys2Proof.Machine.execSafetyRelease s
  | .bistSchedule => Sys2Proof.Machine.execBistSchedule s
  | .bistDefer => Sys2Proof.Machine.execBistDefer s
  | .bistNow => Sys2Proof.Machine.execBistNow s
  | .mbistResults => Sys2Proof.Machine.execMbistResults s
  | .fieldOn => Sys2Proof.Machine.execFieldOn s
  | .fieldLoss => Sys2Proof.Machine.execFieldLoss s
  | .fdWakeRelease => Sys2Proof.Machine.execFdWakeRelease s
  | .inventory frame => Sys2Proof.Machine.execInventory frame s
  | .nextSlot frame => Sys2Proof.Machine.execNextSlot frame s
  | .ack frame => Sys2Proof.Machine.execAck frame s
  | .nak frame => Sys2Proof.Machine.execNak frame s
  | .halt frame => Sys2Proof.Machine.execHalt frame s
  | .tagGetInfo frame => Sys2Proof.Machine.execTagGetInfo frame s
  | .authStart frame => Sys2Proof.Machine.execAuthStart frame s
  | .authFinish frame => Sys2Proof.Machine.execAuthFinish frame s
  | .dtSelect frame => Sys2Proof.Machine.execDtSelect frame s
  | .dtAccess frame => Sys2Proof.Machine.execDtAccess frame s
  | .dtRead frame => Sys2Proof.Machine.execDtRead frame s
  | .readLog frame strong => Sys2Proof.Machine.execReadLog frame strong s
  | .readTransit frame => Sys2Proof.Machine.execReadTransit frame s
  | .readTamper frame => Sys2Proof.Machine.execReadTamper frame s
  | .readNote frame => Sys2Proof.Machine.execReadNote frame s
  | .writeNote frame strong failed => Sys2Proof.Machine.execWriteNote frame strong failed s
  | .readIdentity frame => Sys2Proof.Machine.execReadIdentity frame s
  | .endSession frame => Sys2Proof.Machine.execEndSession frame s
  | .tagDeferredReply => Sys2Proof.Machine.execTagDeferredReply s
  | .transitSample temp cellLow => Sys2Proof.Machine.execTransitSample temp cellLow s
  | .nfMemDataAccess write => Sys2Proof.Machine.execNfMemDataAccess write s
  | .nfStatus => Sys2Proof.Machine.execNfStatus s
  | .nfNotesRead => Sys2Proof.Machine.execNfNotesRead s
  | .nfTransitRead => Sys2Proof.Machine.execNfTransitRead s
  | .nfSetPassword => Sys2Proof.Machine.execNfSetPassword s
  | .sdCardDetect card => Sys2Proof.Machine.execSdCardDetect card s
  | .sdTransferDone crcErrors ok => Sys2Proof.Machine.execSdTransferDone crcErrors ok s
  | .sdRetune window => Sys2Proof.Machine.execSdRetune window s
  | .scInsert => Sys2Proof.Machine.execScInsert s
  | .scRemove => Sys2Proof.Machine.execScRemove s
  | .scAtrTimeout => Sys2Proof.Machine.execScAtrTimeout s
  | .scBlockReceived data => Sys2Proof.Machine.execScBlockReceived data s
  | .activate => Sys2Proof.Machine.execActivate s
  | .deactivate => Sys2Proof.Machine.execDeactivate s
  | .cardStatus info => Sys2Proof.Machine.execCardStatus info s
  | .ceremonyBegin => Sys2Proof.Machine.execCeremonyBegin s
  | .cardStep card => Sys2Proof.Machine.execCardStep card s
  | .ceremonyFinish => Sys2Proof.Machine.execCeremonyFinish s
  | .ceremonyAbort => Sys2Proof.Machine.execCeremonyAbort s
  | .ceremonyTimeout => Sys2Proof.Machine.execCeremonyTimeout s
  | .cardSign card => Sys2Proof.Machine.execCardSign card s
  | .sdStatus => Sys2Proof.Machine.execSdStatus s
  | .sdBackupWrite => Sys2Proof.Machine.execSdBackupWrite s
  | .authChallenge => Sys2Proof.Machine.execAuthChallenge s
  | .sdEject => Sys2Proof.Machine.execSdEject s
  | .sleepEntry ch quiet => Sys2Proof.Machine.execSleepEntry ch quiet s
  | .deepSleepEntry ch => Sys2Proof.Machine.execDeepSleepEntry ch s
  | .channelWake ch => Sys2Proof.Machine.execChannelWake ch s
  | .crystalSwitch => Sys2Proof.Machine.execCrystalSwitch s
  | .crystalLoss => Sys2Proof.Machine.execCrystalLoss s
  | .refclkLoss => Sys2Proof.Machine.execRefclkLoss s
  | .refclkReturn => Sys2Proof.Machine.execRefclkReturn s
  | .pllLockTimeout ch => Sys2Proof.Machine.execPllLockTimeout ch s
  | .cellInsert => Sys2Proof.Machine.execCellInsert s
  | .hourCountAgeOut ch => Sys2Proof.Machine.execHourCountAgeOut ch s
  | .bwtExpiry => Sys2Proof.Machine.execBwtExpiry s
  | .smbusTimeout => Sys2Proof.Machine.execSmbusTimeout s

end Sys2Proof.Machine
end

