-- ==== Sys2Proof/Machine/HostView.lean ====
section
/-! DEFINITION. What the host reads: the configuration registers of a function and its BAR0 (R1, R28, R30 to R36, R41, R52, R54, R57,
R130, R195, R224, R342, R399, R428, R452, R550). The table has no command that reads: these are functions of the state. -/

namespace Sys2Proof.Machine

/-- The capabilities of *Endpoint capabilities*; the list of a function holds no others (R28). -/
inductive Capability where
  | ari
  /-- The vectors of the function. -/
  | msix (vectors : Nat)
  | functionLevelReset
  /-- Advanced error reporting with ECRC; whether an advisory non-fatal error is logged (R29). -/
  | errorReporting (advisory : Bool)
  /-- D0 and D3hot. -/
  | powerManagement (d3hot : Bool)
  | serialNumber (serial : Nat)
  deriving DecidableEq, Repr

/-- The configuration registers the spec gives a function. -/
structure FunctionConfig where
  vendorId : Nat
  deviceId : Nat
  classCode : Nat
  /-- BAR0: its size in bytes, whether it is 64-bit and prefetchable. -/
  bar0Size : Nat
  bar0Wide : Bool := true
  bar0Prefetch : Bool := false
  /-- BAR2 to BAR5 and the Expansion ROM BAR. -/
  otherBars : List Nat := [0, 0, 0, 0, 0]
  interruptPin : Nat := 0
  /-- Max_Payload_Size supported and the largest read request issued, in bytes. -/
  maxPayload : Nat := 256
  maxRead : Nat := 512
  noSoftReset : Bool := true
  capabilities : List Capability
  deriving DecidableEq, Repr

/-- The configuration space of a function as an answered request reads it; none for a function that is not enumerated (R3, R4). -/
def configSpace (fn : Fin 17) (s : State) : Option FunctionConfig :=
  if s.dev.enabled < fn.val then none
  else
    let caps (vectors : Nat) (advisory d3hot : Bool) : List Capability :=
      [.ari, .msix vectors, .functionLevelReset, .errorReporting advisory, .powerManagement d3hot, .serialNumber Config.serial.toNat]
    some (if h : fn.val = 0 then
      { vendorId := Config.vendorId.toNat, deviceId := 0x0880, classCode := 0x108000, bar0Size := 262144, capabilities := caps 64 false s.fn0.d3hot }
    else
      let c := (s.chan ⟨fn.val - 1, by omega⟩).host
      { vendorId := Config.vendorId.toNat, deviceId := 0x0881, classCode := 0x108000, bar0Size := 65536, capabilities := caps 32 c.advisory c.d3hot })

/-- Low and high word of a 64-bit register: the value in force. DESIGN CHOICE: a low word written and not yet followed by its high
word is not shown. -/
def Reg64.words (r : Reg64) : List Nat := [r.value.toNat % 2 ^ 32, r.value.toNat / 2 ^ 32]

/-- WIN_BASE_LO to WIN_CTRL. -/
def Window.view (w : Window) : List Nat := w.base.words ++ w.limit.words ++ [b2n w.lock + 2 * b2n w.overlap + 4 * b2n w.badRange]

/-- SQ_BASE_LO to RING_SEQ. -/
def RingPair.view (p : RingPair) : List Nat :=
  p.sqBase.words ++ p.cqBase.words ++
  [p.sqLog2 + 256 * p.cqLog2,
   b2n p.en + 2 * b2n p.irqEn + 4 * b2n p.cfgErr + 256 * p.vec + 65536 * p.coCount + 2 ^ 24 * p.coTime,
   p.sqHead + 65536 * p.cqTail, p.seqLast + 65536 * b2n p.seqValid]

/-- The words of an MSI-X table. -/
def msixView (t : List MsixEntry) : List Nat :=
  (t.map fun e => [e.addr.toNat % 2 ^ 32, e.addr.toNat / 2 ^ 32, e.data.toNat, b2n e.mask]).flatten

/-- Word `i` of the pending-bit array. -/
def pbaWord (pba : List Nat) (i : Nat) : Nat :=
  (List.range 32).foldl (fun w k => if pba.contains (32 * i + k) then setBit w k true else w) 0

/-- Management is available to a channel: its firmware runs and works with the channel's image (R409, R416). -/
def mgmtFor (ch : Ch) (s : State) : Bool := mgmtServes s && !bit s.mg.incompat ch.val

/-- Milliseconds until logic BIST begins. -/
def noticeMs (d : Device) (c : Channel) : Nat := if c.notice then c.sf.noticeTick + 500 - d.tick else 0

/-- CH_STATE (R33). -/
def chStateWord (ch : Ch) (s : State) : Nat :=
  let c := s.chan ch
  chStateCode c.state + 16 * c.bootStep + 256 * b2n c.notice + 512 * b2n (mgmtFor ch s) + 1024 * b2n (quiesced c) +
    65536 * noticeMs s.dev c

/-- CH_ID: INDEX, KIND, PART (R32). -/
def chIdWord (ch : Ch) : Nat := ch.val + 256 * 0x01 + 65536 * 0x0880

/-- CH_FAULT_INFO. -/
def Slice.faultInfo (h : Slice) : Nat := h.faultValue + 65536 * h.faultQueue + 2 ^ 24 * h.faultBit

/-- The aligned word at an offset of a channel function's BAR0; doorbells, CQ heads and reserved offsets read 0 (R31). -/
def channelWord (ch : Ch) (off : Nat) (s : State) : Nat :=
  let c := s.chan ch
  let h := c.host
  if 0x10 ≤ off ∧ off < 0x30 then (featWord false ((off - 0x10) / 4)).toNat
  else if 0xC0 ≤ off ∧ off < 0xD4 then h.win.view.getD ((off - 0xC0) / 4) 0
  else if 0x1000 ≤ off ∧ off < 0x1100 then (c.pairOf (pairIx ((off - 0x1000) / 0x40))).view.getD (off % 0x40 / 4) 0
  else if 0x2000 ≤ off ∧ off < 0x2200 then (msixView h.msix).getD ((off - 0x2000) / 4) 0
  else if off = 0x3000 then pbaWord h.pba 0
  else match off with
    | 0x0000 => chIdWord ch
    | 0x0004 => fwWord c.image
    | 0x0008 => c.ifEpoch
    | 0x0040 => chStateWord ch s
    | 0x0044 => b2n h.en + 2 * b2n h.sleepOk + 256 * h.idle
    | 0x0048 => 0x1000 + 65536 * inflight c
    | 0x0050 => h.w1 + 256 * h.w2 + 65536 * h.w3
    | 0x0060 => h.irqEn.toNat
    | 0x0064 => h.irqStat.toNat
    | 0x0080 => h.faultWord.toNat
    | 0x0084 => h.faultInfo
    | _ => 0

/-- The crumb EV_DATA shows: at the cursor, which stands at EV_OLDEST when it lay below it; zeros where no slot is programmed (R429). -/
def evData (s : State) : Bytes :=
  let l := s.logOf s.log.logSel
  ((l.slots.find? fun p => p.1 == max s.log.cursor l.oldest).map (·.2)).getD (zeros 32)

/-- The aligned word of the event window, at an offset from 0x2000; all zero while management is unavailable (R428). -/
def eventWord (o : Nat) (s : State) : Nat :=
  if !mgmtServes s then 0
  else if o < 0x24 then fieldLE (evWindow s) o 4
  else if 0x100 ≤ o ∧ o < 0x120 then fieldLE (evData s) (o - 0x100) 4
  else 0

/-- The aligned word of telemetry, at an offset from 0x3000 (R399). -/
def telemetryWord (o : Nat) (s : State) : Nat :=
  if 0x100 ≤ o ∧ o < 0x200 then fieldLE s.mg.record (o - 0x100) 4
  else match o with
    | 0x00 => s.mg.tmSeq
    | 0x04 => b2n s.mg.tmIrq
    | 0x08 => warnBits s.mg % 2 ^ 32
    | 0x0C => warnBits s.mg / 2 ^ 32
    | _ => 0

/-- The aligned word of the tamper status, at an offset from 0x4000; served while management is away (R452). -/
def tamperWord (o : Nat) (s : State) : Nat :=
  if o < 0x2C then fieldLE (tamperView s) o 4
  else if 0x100 ≤ o ∧ o < 0x180 then s.tp.trips.getD ((o - 0x100) / 4) 0
  else 0

/-- The aligned word of the access-table view, at an offset from 0x8000 (R342): a table not yet reported reads zero, and STALE shows
while management is unavailable. -/
def accessViewWord (o : Nat) (s : State) : Nat :=
  if o < 0x4400 then (((s.mg.views.getD (o / 0x400) none).getD []).getD (o % 0x400 / 4) 0)
  else if o < 0x4620 then
    let t := (o - 0x4400) / 0x20
    let i := (o - 0x4400) % 0x20 / 4
    if s.dev.enabled < t then 0
    else if i < 6 then ((s.mg.views.getD t none).getD []).getD (256 + i) 0
    else if i = 6 then b2n (!mgmtServes s)
    else 0
  else 0

/-- The aligned word at an offset of the management function's BAR0. -/
def mgmtWord (off : Nat) (s : State) : Nat :=
  if off < 0x20 then fieldLE (devIdentity s) off 4
  else if 0x500 ≤ off ∧ off < 0x514 then s.fn0.win.view.getD ((off - 0x500) / 4) 0
  else if 0x800 ≤ off ∧ off < 0xC00 then (msixView s.fn0.msix).getD ((off - 0x800) / 4) 0
  else if 0xC00 ≤ off ∧ off < 0xC08 then pbaWord s.fn0.pba ((off - 0xC00) / 4)
  else if 0x2000 ≤ off ∧ off < 0x3000 then eventWord (off - 0x2000) s
  else if 0x3000 ≤ off ∧ off < 0x4000 then telemetryWord (off - 0x3000) s
  else if 0x4000 ≤ off ∧ off < 0x5000 then tamperWord (off - 0x4000) s
  else if 0x8000 ≤ off ∧ off < 0x10000 then accessViewWord (off - 0x8000) s
  else match off with
    | 0x0400 => b2n (s.fn0.phase == .waiting || s.fn0.current.isSome)
    | 0x0404 => b2n s.fn0.done + 65536 * s.fn0.status
    | 0x0408 => s.fn0.req.value.toNat % 2 ^ 32
    | 0x040C => s.fn0.req.value.toNat / 2 ^ 32
    | 0x0410 => s.fn0.reqLen
    | 0x0418 => s.fn0.rsp.value.toNat % 2 ^ 32
    | 0x041C => s.fn0.rsp.value.toNat / 2 ^ 32
    | 0x0420 => s.fn0.rspLen
    | _ => 0

/-- The aligned word at an offset of a function's BAR0. -/
def bar0Word (fn : Fin 17) (off : Nat) (s : State) : Nat :=
  if h : fn.val = 0 then mgmtWord off s else channelWord ⟨fn.val - 1, by omega⟩ off s

/-- A host read of BAR0, of any size at any offset (R31): none of a function that is not enumerated, or while the link is down. -/
def bar0Read (fn : Fin 17) (off n : Nat) (s : State) : Option Bytes :=
  if s.dev.enabled < fn.val ∨ !s.pw.pcieUp then none
  else some ((List.range n).map fun i => byteAt (leBytes 4 (bar0Word fn ((off + i) / 4 * 4) s)) ((off + i) % 4))

end Sys2Proof.Machine
end

