-- ==== Sys2Proof/Certificates/Slice0/Obligations.lean ====
section
/-! DEFINITION. The statements about the block, each a proposition for the provers, and the few words they share. -/

namespace Sys2Proof.Says

open Sys2Proof.Machine

/-- The command completes: `exec` answers the next state `t`. -/
def Ends (i : Instr) (s t : State) : Prop := exec i s = .next t

/-- The record of the unit that core `u` belongs to: a channel's, or management's (16). -/
def unit (s : State) (u : Core) : Channel := if h : u.val < 16 then s.chan ⟨u.val, h⟩ else s.mgu

/-- The unit is there: management's always, a channel's when it is enabled (R4). -/
abbrev Present (s : State) (u : Core) : Prop := ∀ h : u.val < 16, s.dev.has ⟨u.val, h⟩ = true

/-! ### The Kenten core -/

/-- A unit as its core issues: results due by now have landed, WAIT is over. -/
def issuing (c : Channel) : Channel := { c with core := { c.core.land with waiting := false } }

/-- The core of `u` can issue and no check at issue fails: its unit is out of reset and clocked, it is not stopped, no fault waits for
its entry, the flash bank serves its fetch, and the fetch, ILLEGAL, PRIVILEGE, delay-slot and STACK checks of R264 pass. -/
abbrev Ready (s : State) (u : Core) (i : KOp) : Prop :=
  Present s u ∧ canIssue (coreExt u s) (unit s u).core = true ∧ fetchReads i (unit s u) = some (unit s u) ∧
  preFault (issuing (unit s u)) i = none

/-- A unit whose core runs the ordinary instruction `i`: the cycles of its spills and fills have passed, and what was due by then has
landed (R251, R267). -/
def begun (i : KOp) (c : Channel) : Channel := atIssue i { issuing c with core := { (issuing c).core with long := false } }

/-- Its core. -/
def coreAt (s : State) (u : Core) (i : KOp) : Kenten := (begun i (unit s u)).core

/-- The inputs of an instruction, deepest first. -/
def inputs (s : State) (u : Core) (i : KOp) : List Word := (coreAt s u i).top i.pops

/-- DEPTH after an instruction. -/
def depthAfter (c : Channel) (i : KOp) : Nat := c.core.depth - i.pops + i.pushes

/-- The accesses of an instruction pass: the spills and fills of its change of DEPTH, then those given (R264); the flash bank serves
its reads (R352). -/
abbrev Passes (s : State) (u : Core) (i : KOp) (es : List KExt) : Prop :=
  let c := begun i (unit s u)
  let all := depthExts c.core.depth (depthAfter c i) ++ es
  extentsBad c i.opcode all = none ∧ flashReads ((all.filter fun e => e.kind != .write).map fun e => (e.phys c.core, e.width)) c = some c

/-- PSW at issue. -/
def pswOf (s : State) (u : Core) : Word := (issuing (unit s u)).core.psw

/-- Results pushed with the latency of the instruction's class, PSW `p` after it, one cycle and the next PC (R266 to R268). -/
def pushes (i : KOp) (outs : List Word) (p : Word) (x : Ext) (ch : Ch) (d : Device) (c : Channel) : Channel :=
  let b := begun i c
  let m := moveDepth x ch d (depthAfter b i) b
  kDone x ch d i.len { m with core := pushResults (b.core.depth - i.pops) i.cls.latency outs { m.core with psw := p } }

/-- An accumulator written, PSW `p` after it. -/
def writesAcc (i : KOp) (n : Bool) (v : Int) (p : Word) (x : Ext) (ch : Ch) (d : Device) (c : Channel) : Channel :=
  let b := begun i c
  let m := moveDepth x ch d (depthAfter b i) b
  kDone x ch d i.len { m with core := { (m.core.accWrite n v (some m.core.cycles)) with psw := p } }

/-- A row of a table of pushing instructions: the command, its operation, its results from its inputs, PSW after it. -/
abbrev PushRow := Instr × KOp × (List Word → List Word) × (List Word → Word)

/-- A row whose PSW stays. -/
def plain (p : Word) (c : Instr) (i : KOp) (outs : List Word → List Word) : PushRow := (c, i, outs, fun _ => p)

/-- A row with one result that can overflow: it is fitted to 32 bits, and OV is set when it does not fit (R256). -/
def fitted (p : Word) (c : Instr) (i : KOp) (v : List Word → Int) : PushRow :=
  (c, i, fun l => [(fit32 p (v l)).1], fun l => (fit32 p (v l)).2)

/-- A row with a pair of results, each fitted to 16 bits (R256). -/
def paired (p : Word) (c : Instr) (i : KOp) (h l : List Word → Int) : PushRow :=
  (c, i, fun y => [(fitPair p (h y) (l y)).1], fun y => (fitPair p (h y) (l y)).2)

/-- What a table of pushing instructions says. -/
def Pushing (s : State) (u : Core) (rows : List PushRow) : Prop :=
  ∀ r ∈ rows, Ready s u r.2.1 → Passes s u r.2.1 [] →
    Ends r.1 s (onCore u (pushes r.2.1 (r.2.2.1 (inputs s u r.2.1)) (r.2.2.2 (inputs s u r.2.1))) s)

/-- The first, second and third input. -/
def in0 (l : List Word) : Word := inp l 0
def in1 (l : List Word) : Word := inp l 1
def in2 (l : List Word) : Word := inp l 2

/-- The stack and constant instructions (R265). -/
def stackRows (u : Core) (k : KOp → Kenten) (p : Word) (b : Byte) (h : Half) (w : Word) : List PushRow :=
  [plain p (.nop u) .nop fun _ => [], plain p (.drop u) .drop fun _ => [], plain p (.drop2 u) .drop2 fun _ => [],
   plain p (.dup u) .dup fun l => [in0 l, in0 l], plain p (.swap u) .swap fun l => [in1 l, in0 l],
   plain p (.over u) .over fun l => [in0 l, in1 l, in0 l], plain p (.rot u) .rot fun l => [in1 l, in2 l, in0 l],
   plain p (.nip u) .nip fun l => [in1 l], plain p (.dup2 u) .dup2 fun l => [in0 l, in1 l, in0 l, in1 l],
   plain p (.pick u b) (.pick b.toNat) fun _ => [(k (.pick b.toNat)).slot ((k (.pick b.toNat)).depth - 1 - b.toNat)],
   plain p (.depth u) .depth fun _ => [BitVec.ofNat 32 (k .depth).depth],
   plain p (.push8 u b) (.push8 b) fun _ => [b.signExtend 32], plain p (.push16 u h) (.push16 h) fun _ => [h.signExtend 32],
   plain p (.push32 u w) (.push32 w) fun _ => [w], plain p (.pushu8 u b) (.pushu8 b) fun _ => [b.zeroExtend 32],
   plain p (.pushu16 u h) (.pushu16 h) fun _ => [h.zeroExtend 32], plain p (.pushh u h) (.pushh h) fun _ => [h ++ (0 : Half)]]

/-- The integer instructions that can overflow (R256, R258). -/
def fittedRows (u : Core) (p : Word) (b : Byte) (h : Half) : List PushRow :=
  [fitted p (.add u) .add fun l => (in0 l).toInt + (in1 l).toInt, fitted p (.sub u) .sub fun l => (in0 l).toInt - (in1 l).toInt,
   fitted p (.neg u) .neg fun l => -(in0 l).toInt, fitted p (.abs u) .abs fun l => (in0 l).toInt.natAbs,
   fitted p (.addi8 u b) (.addi8 b) fun l => (in0 l).toInt + b.toInt,
   fitted p (.addi16 u h) (.addi16 h) fun l => (in0 l).toInt + h.toInt,
   fitted p (.shl u b) (.shl b.toNat) fun l => (in0 l).toInt * 2 ^ b.toNat,
   fitted p (.shlv u) .shlv fun l => (in0 l).toInt * 2 ^ ((in1 l).toNat % 32),
   fitted p (.mul u) .mul fun l => (in0 l).toInt * (in1 l).toInt,
   fitted p (.mulq u) .mulq fun l => roundDiv (pswRnd p) ((in0 l).toInt * (in1 l).toInt) (2 ^ 31),
   paired p (.add2 u) .add2 (fun l => pairHi (in0 l) + pairHi (in1 l)) (fun l => pairLo (in0 l) + pairLo (in1 l)),
   paired p (.sub2 u) .sub2 (fun l => pairHi (in0 l) - pairHi (in1 l)) (fun l => pairLo (in0 l) - pairLo (in1 l)),
   paired p (.mul2 u) .mul2 (fun l => roundDiv (pswRnd p) (pairHi (in0 l) * pairHi (in1 l)) (2 ^ 15))
     (fun l => roundDiv (pswRnd p) (pairLo (in0 l) * pairLo (in1 l)) (2 ^ 15)),
   paired p (.pack u) .pack (fun l => roundDiv (pswRnd p) (in0 l).toInt (2 ^ 16)) (fun l => roundDiv (pswRnd p) (in1 l).toInt (2 ^ 16))]

/-- The comparisons, selections, logic and shifts that cannot overflow (R258, R265). -/
def logicRows (u : Core) (p : Word) (b : Byte) : List PushRow :=
  [plain p (.min u) .min fun l => [if (in1 l).toInt < (in0 l).toInt then in1 l else in0 l],
   plain p (.max u) .max fun l => [if (in0 l).toInt < (in1 l).toInt then in1 l else in0 l],
   plain p (.eq u) .eq fun l => [if in0 l = in1 l then 1 else 0], plain p (.ne u) .ne fun l => [if in0 l ≠ in1 l then 1 else 0],
   plain p (.lt u) .lt fun l => [if (in0 l).slt (in1 l) then 1 else 0], plain p (.le u) .le fun l => [if (in0 l).sle (in1 l) then 1 else 0],
   plain p (.ltu u) .ltu fun l => [if in0 l < in1 l then 1 else 0], plain p (.leu u) .leu fun l => [if in0 l ≤ in1 l then 1 else 0],
   plain p (.sel u) .sel fun l => [if in2 l = 0 then in1 l else in0 l],
   plain p (.addw u) .addw fun l => [in0 l + in1 l], plain p (.subw u) .subw fun l => [in0 l - in1 l],
   plain p (.and u) .and fun l => [in0 l &&& in1 l], plain p (.or u) .or fun l => [in0 l ||| in1 l],
   plain p (.xor u) .xor fun l => [in0 l ^^^ in1 l], plain p (.not u) .not fun l => [~~~ in0 l],
   plain p (.shr u b) (.shr b.toNat) fun l => [in0 l >>> b.toNat], plain p (.shrv u) .shrv fun l => [in0 l >>> ((in1 l).toNat % 32)],
   plain p (.sarr u b) (.sarr b.toNat) fun l => [BitVec.ofInt 32 (roundDiv (pswRnd p) (in0 l).toInt (2 ^ b.toNat))],
   plain p (.sarv u) .sarv fun l => [BitVec.ofInt 32 (roundDiv (pswRnd p) (in0 l).toInt (2 ^ ((in1 l).toNat % 32)))],
   plain p (.clz u) .clz fun l => [BitVec.ofNat 32 (if in0 l = 0 then 32 else 31 - Nat.log2 (in0 l).toNat)],
   plain p (.unpk u) .unpk fun l => [(in0 l).extractLsb' 16 16 ++ (0 : Half), (in0 l).extractLsb' 0 16 ++ (0 : Half)]]

/-- The accumulator reads (R269): the value of every write but one issued in the cycle before. -/
def accReadRows (u : Core) (k : KOp → Kenten) (p : Word) (n : Bool) (b : Byte) : List PushRow :=
  [fitted p (.rda u n) (.rda n) fun _ => (k (.rda n)).accRead n,
   fitted p (.rdas u n b) (.rdas n b.toNat) fun _ => roundDiv (pswRnd p) ((k (.rdas n b.toNat)).accRead n) (2 ^ b.toNat)]

/-- The accumulator writes: the value and PSW after it, fitted to 40 bits where it can overflow (R256, R258). -/
def accRows (u : Core) (k : Kenten) (p : Word) (n : Bool) : List (Instr × KOp × (List Word → Int × Word)) :=
  let q (l : List Word) : Int := roundDiv (pswRnd p) ((in0 l).toInt * (in1 l).toInt) (2 ^ 31)
  [(.clra u n, .clra n, fun _ => (0, p)), (.lda u n, .lda n, fun l => ((in0 l).toInt, p)),
   (.adda u n, .adda n, fun l => fit p 40 ((k.acc n).value + (in0 l).toInt)),
   (.mac u n, .mac n, fun l => fit p 40 ((k.acc n).value + q l)), (.msu u n, .msu n, fun l => fit p 40 ((k.acc n).value - q l))]

/-- The system instructions that push or change PSW alone (R259, R265, R287). -/
def systemRows (u : Core) (c : Channel) (p : Word) (b : Byte) : List PushRow :=
  let k := c.core
  let g := k.seg b.toNat
  [plain p (.feat u b) (.feat b.toNat) fun _ => [featWord c.table.mgmt b.toNat],
   plain p (.segr u b) (.segr b.toNat) fun _ => [if k.sup then BitVec.ofNat 32 g.base else 0, BitVec.ofNat 32 g.limit],
   (.setrnd u b, .setrnd b.toNat, fun _ => [], fun _ => (p &&& 0xFFFFFFFC) ||| BitVec.ofNat 32 (b.toNat % 4)),
   (.setsat u b, .setsat b.toNat, fun _ => [], fun _ => (p &&& 0xFFFFFFFB) ||| BitVec.ofNat 32 (4 * (b.toNat % 2))),
   (.clrov u, .clrov, fun _ => [], fun _ => p &&& 0xFFFFFFF7)]

/-- A load: the value read is pushed with latency 3 (R266, R270). -/
def loads (i : KOp) (e : KExt) (value : Nat → Word) (x : Ext) (ch : Ch) (d : Device) (c : Channel) : Channel :=
  let b := begun i c
  let r := coreLoad x ch d (e.phys b.core) e.width (moveDepth x ch d (depthAfter b i) b)
  kDone x ch d i.len { r.2 with core := pushResults (b.core.depth - i.pops) 3 [value r.1] r.2.core }

/-- A store of the low bytes of a value (R270). -/
def stores (i : KOp) (e : KExt) (v : Word) (x : Ext) (ch : Ch) (d : Device) (c : Channel) : Channel :=
  let b := begun i c
  kDone x ch d i.len (coreStore ch d (e.phys b.core) e.width (v.toNat % 2 ^ (8 * e.width)) (moveDepth x ch d (depthAfter b i) b))

/-- The loads: their extent from their inputs, and what is pushed of the value read (R270). -/
def loadRows (u : Core) (g : Fin 6) (h : Half) : List (Instr × KOp × (List Word → KExt) × (Nat → Word)) :=
  [(.ldw u g, .ldw g.val, fun l => ⟨g.val, (in0 l).toNat, 4, .read, 2⟩, BitVec.ofNat 32),
   (.ldwi u g h, .ldwi g.val h, fun _ => ⟨g.val, h.toNat, 4, .read, 2⟩, BitVec.ofNat 32),
   (.ldh u g, .ldh g.val, fun l => ⟨g.val, (in0 l).toNat, 2, .read, 1⟩, fun n => (BitVec.ofNat 16 n).signExtend 32),
   (.ldb u g, .ldb g.val, fun l => ⟨g.val, (in0 l).toNat, 1, .read, 0⟩, BitVec.ofNat 32)]

/-- The stores: their extent from their inputs; the value is the first input (R270). -/
def storeRows (u : Core) (g : Fin 6) (h : Half) : List (Instr × KOp × (List Word → KExt)) :=
  [(.stw u g, .stw g.val, fun l => ⟨g.val, (in1 l).toNat, 4, .write, 2⟩),
   (.stwi u g h, .stwi g.val h, fun _ => ⟨g.val, h.toNat, 4, .write, 2⟩),
   (.sth u g, .sth g.val, fun l => ⟨g.val, (in1 l).toNat, 2, .write, 1⟩),
   (.stb u g, .stb g.val, fun l => ⟨g.val, (in1 l).toNat, 1, .write, 0⟩)]

/-- A branch: control passes after its two delay slots, which begin at the next PC (R271). -/
def branches (i : KOp) (taken : Bool) (target : Nat) (outs : List Word) (x : Ext) (ch : Ch) (d : Device) (c : Channel) : Channel :=
  let b := begun i c
  let m := moveDepth x ch d (depthAfter b i) b
  let k := pushResults (b.core.depth - i.pops) 1 outs m.core
  { m with core := { k with
    cycles := k.cycles + 1, pc := k.pc + i.len, branch := some ⟨2, taken, target⟩
    lpExit := if taken && k.looping && k.lpExit.isNone then some target else k.lpExit } }

/-- The branches: whether taken, the target, what is pushed (R271, R272). CALL pushes the offset after its delay slots. -/
def branchRows (u : Core) (c : Channel) (h : Half) (b : Byte) :
    List (Instr × KOp × (List Word → Bool) × (List Word → Nat) × List Word) :=
  let pc := c.core.pc
  [(.br u h, .br h, fun _ => true, fun _ => relTarget pc h.toInt, []), (.brs u b, .brs b, fun _ => true, fun _ => relTarget pc b.toInt, []),
   (.bz u h, .bz h, fun l => in0 l == 0, fun _ => relTarget pc h.toInt, []),
   (.bnz u h, .bnz h, fun l => in0 l != 0, fun _ => relTarget pc h.toInt, []),
   (.call u h, .call h, fun _ => true, fun _ => relTarget pc h.toInt, [BitVec.ofNat 32 (slotsOf c (pc + 3)).2]),
   (.ret u, .ret, fun _ => true, fun l => (in0 l).toNat, []), (.jmp u, .jmp, fun _ => true, fun l => (in0 l).toNat, [])]

/-- An instruction that changes the core's registers; DEPTH, the stack registers and the cycle counter move as ever. -/
def changes (i : KOp) (f : Kenten → Kenten) (x : Ext) (ch : Ch) (d : Device) (c : Channel) : Channel :=
  let b := begun i c
  let k := f b.core
  let m := moveDepth x ch d (depthAfter b i) b
  kDone x ch d i.len { m with core := { k with
    cycles := m.core.cycles, regs := m.core.regs, inner := { k.inner with depth := m.core.inner.depth }
    outer := { k.outer with depth := m.core.outer.depth } } }

/-- MFSR: the special register's value is pushed; reading number 6 latches the cycle counter's high word (R260). -/
def readsSr (n v : Nat) (x : Ext) (ch : Ch) (d : Device) (c : Channel) : Channel :=
  let b := begun (.mfsr n) c
  let m := moveDepth x ch d (b.core.depth + 1) b
  let k := { m.core with cycleHi := if n = 6 then m.core.cycles / 2 ^ 32 else m.core.cycleHi }
  kDone x ch d 2 { m with core := pushResults b.core.depth 1 [BitVec.ofNat 32 v] k }

/-- A fault is raised: nothing but its record and its capture changes, and it waits for its entry (R264). -/
def raises (i : KOp) (f : KFault) (_ : Ext) (ch : Ch) (d : Device) (c : Channel) : Channel := raiseFault ch d f (begun i c)

/-! ### Channels -/

/-- The state with the record of channel `ch` changed. -/
def put (s : State) (ch : Ch) (f : Channel → Channel) : State := setChan s ch (f (s.chan ch))

/-- Journal entry `e` stands at its index. -/
abbrev Holds (c : Channel) (e : JEntry) : Prop := c.entry e.jidx = some e

/-- Job `e` of channel `ch` has opcode `op` and may run (R47 to R49). -/
abbrev MayRun (s : State) (ch : Ch) (e : JEntry) (op : Nat) : Prop :=
  s.dev.has ch = true ∧ Holds (s.chan ch) e ∧ jobReady (s.chan ch) e op = true

/-- What a job leaves alone before its commit: shard state, governor, tree cache, dedicated keys and channel keys. -/
def Untouched (a b : Channel) : Prop := b.shard = a.shard ∧ b.gov = a.gov ∧ b.tree = a.tree ∧ b.ded = a.ded ∧ b.keys = a.keys

/-- Job `e` ends with failure `f`, without output and without side effects (R46, R64). -/
def Fails (i : Instr) (s : State) (ch : Ch) (e : JEntry) (f : Fail) : Prop :=
  ∃ t n, Ends i s t ∧ (t.chan ch).entry e.jidx = some n ∧ n.state = .written ∧ n.cpl.status = f.status ∧ n.cpl.detail = f.detail ∧
    n.cpl.result = f.result ∧ n.cpl.outBytes = 0 ∧ n.writes = [] ∧ Untouched (s.chan ch) (t.chan ch)

/-- Job `e` ends well with RESULT `result` and output `out`, which waits to be sent (R62, R64). -/
def Answers (i : Instr) (s : State) (ch : Ch) (e : JEntry) (result : Nat) (out : Bytes) : Prop :=
  ∃ t n, Ends i s t ∧ (t.chan ch).entry e.jidx = some n ∧ n.state = (if out = [] then .written else .claimed) ∧ n.cpl.status = 0 ∧
    n.cpl.detail = 0 ∧ n.cpl.result = result ∧ n.cpl.outBytes = out.length ∧ n.writes = outWrite e.jidx e.sub out

/-- Job `e` stages an effect for its commit: nothing is applied yet, and the effect `x` is computed from the battery state that
stands (R64, R65). -/
def Stages (i : Instr) (s : State) (ch : Ch) (e : JEntry) (P : Effect → Prop) : Prop :=
  ∃ t n x, Ends i s t ∧ (t.chan ch).entry e.jidx = some n ∧ n.state = .claimed ∧ n.ready = some x ∧ Untouched (s.chan ch) (t.chan ch) ∧
    x.basisShard = (s.chan ch).shard ∧ x.basisGov = (s.chan ch).gov ∧ P x

/-- Job `e` stages the act `a` for its commit, with RESULT `result` and the writes `ws` (R65). -/
def StagesAct (i : Instr) (s : State) (ch : Ch) (e : JEntry) (result : Nat) (a : ShardAct) (ws : List HostWrite) : Prop :=
  Stages i s ch e fun x => x.act = some a ∧ x.leaf = none ∧ x.units = 0 ∧ x.ded = none ∧ x.cpl.status = 0 ∧ x.cpl.result = result ∧ x.writes = ws

/-- The channel as a job runs that has its turn at the public-key engine (R191). -/
def turned (e : JEntry) (c : Channel) : Channel := { c with pke := { c.pke with pending := c.pke.pending.filter (· != e.jidx) } }

/-- The channel once the record look-up of job `e` has entered the key cache (R142). -/
def seen (s : State) (ch : Ch) (e : JEntry) : Channel := touchCache s.dev e (s.chan ch)

/-- The record checks of R141 pass for job `e`. -/
abbrev Checked (s : State) (ch : Ch) (e : JEntry) (k : RecCheck) : Prop := recordCheck (s.chan ch) e.sub e.wrapped e.proof = .ok k

/-- Job `e` finds a cipher context, no earlier job waiting for one and, when it has operations for the public-key engine, its turn for
a batch (R191, R225). -/
abbrev EnginesOpen (uses : Bool) (e : JEntry) (c : Channel) : Prop :=
  (c.ce.cxs.toList.any fun x => x.st == .free) = true ∧
  (((c.ce.waiters.filter (· != e.jidx)).filterMap c.entry).all fun o => !waitsBefore e o) = true ∧ (uses = true → engineTurn c e = true)

/-- The channel as a traffic job runs: off firmware's lists of the jobs that wait for an engine (R191, R225). -/
def admitted (uses : Bool) (e : JEntry) (c : Channel) : Channel :=
  let c := { c with ce := { c.ce with waiters := c.ce.waiters.filter (· != e.jidx) } }
  if uses then { c with pke := { c.pke with pending := c.pke.pending.filter (· != e.jidx) } } else c

/-- The channel once the record look-up of such a job has entered the key cache. -/
def seenBy (uses : Bool) (s : State) (ch : Ch) (e : JEntry) : Channel := touchCache s.dev e (admitted uses e (s.chan ch))

/-- Every check of an outbound job up to its counter passes (R96 to R101, R110, R115). -/
abbrev Sendable (s : State) (ch : Ch) (e : JEntry) (r : Recipe) (k : RecCheck) (stat : Bytes) (tag : Nat) : Prop :=
  let c := seenBy e.sub.usesEngine s ch e
  let p := splitCert e r
  let m := e.sub.outParam
  let suite := k.record.suite
  EnginesOpen e.sub.usesEngine e (s.chan ch) ∧ p.1.length ≤ 65024 ∧ jobRecipe (s.chan ch) e = some r ∧ Checked s ch e k ∧ outRecordCheck e k.record = none ∧
  outParamCheck c e suite p.1.length = none ∧ outKeyCheck c e k.record = none ∧
  r.fits (jobsBit e.sub.opcode) suite p.1.length (e.sub.opflag 1) (some m.form) = true ∧
  runGuards r p.1 p.2 (m.place, fillLen e.sub suite) = none ∧ releaseCheck e.sub.opcode p.1 = none ∧
  outTag m.form (decide (e.sub.opcode = 0x0201) && e.sub.opflag 3) (fieldBE p.1 0 1) = some tag ∧
  outStatic c e r k.record p.2 = .ok stat

/-- The command ends, and the record of channel `ch` is then as `P` says. -/
def Gives (i : Instr) (s : State) (ch : Ch) (P : Channel → Prop) : Prop := ∃ t, Ends i s t ∧ P (t.chan ch)

/-- The command ends, and the record of unit `u` is then as `P` says. -/
def Leaves (i : Instr) (s : State) (u : Core) (P : Channel → Prop) : Prop := ∃ t, Ends i s t ∧ P (unit t u)

/-! ### The mailbox -/

/-- Management runs and has taken up a message with command `code` and payload `p`. -/
abbrev Given (s : State) (code : Nat) (p : Bytes) : Prop :=
  mgmtRuns s = true ∧ ∃ flags seq tag : Nat, s.fn0.current = some (code, flags, seq, tag, p)

/-- The sideband's oldest request `m` asks for `c`, and management serves. -/
abbrev Asked (s : State) (m : SideMsg) (c : SideCmd) : Prop :=
  mgmtServes s = true ∧ m.cmd = some c ∧ ∃ rest, s.mg.side.requests = m :: rest

/-- The state once the oldest request is taken off the queue. -/
def taken (s : State) : State := onSide (fun d => { d with requests := d.requests.tail }) s

/-! ### The tag -/

/-- Frame `f`, of command `code`, reaches a tag in a field that prepares no reply; its body is `b`. -/
abbrev Hears (s : State) (code : Nat) (f b : Bytes) : Prop :=
  s.nf.field = true ∧ s.nf.reply = none ∧ frameBody code f = some b

/-- The frame carries the tag's own handle, and the tag holds one; `b` is the body after the handle. -/
abbrev HearsOwn (s : State) (code : Nat) (f b : Bytes) : Prop :=
  s.nf.held = true ∧ ∃ w, Hears s code f w ∧ fieldLE w 0 2 = s.nf.handle ∧ 2 ≤ w.length ∧ b = w.drop 2

/-- A SECURE frame of the session `k` with inner command `inner` and parameters `p`: its MAC and CTR hold (R503). -/
abbrev HearsSecure (s : State) (f : Bytes) (k : TagSession) (inner : Nat) (p : Bytes) : Prop :=
  ∃ b, HearsOwn s 0x20 f b ∧ s.nf.st = .active ∧ s.nf.session = some k ∧ 13 ≤ b.length ∧ fieldLE b 0 4 = k.ctr ∧ k.ctr ≤ 0xFFFF ∧
    (let ct := slice b 4 (b.length - 12)
     b.drop (b.length - 8) = (cmac k.kmac ([0] ++ s.nf.handleBytes ++ b.take 4 ++ ct)).take 8 ∧
     fieldLE (aesCtr k.kenc (secureBlock 0 k.ctr) ct) 0 1 = inner ∧ p = (aesCtr k.kenc (secureBlock 0 k.ctr) ct).drop 1)

/-- The tag with no AUTH_START before it, and with CTR one higher in its session. -/
def inSession (s : State) (k : TagSession) : State :=
  { s with nf := { s.nf with auth := none, session := some { k with ctr := k.ctr + 1 } } }

/-- A unit whose core issues outside loops and delay slots, with its whole stack in the stack registers and its flash bank idle. -/
abbrev Shallow (c : Channel) : Prop :=
  c.core.depth ≤ 16 ∧ c.core.looping = false ∧ c.core.branch = none ∧ c.nv.writes = false

/-- Such a unit whose core issues a long instruction from its first step, with no request that it could yield to. -/
abbrev Calm (x : Ext) (c : Channel) : Prop :=
  Shallow c ∧ c.core.long = false ∧ ∀ y, takeable x { c.core with cycles := y } = none

/-- A unit whose core issues the long instruction `i`, first issue or resumption. -/
def opened (i : KOp) (c : Channel) : Channel := atIssue i (issuing c)

/-- A long instruction raises a fault before its first step (R264). -/
def refusesLong (i : KOp) (f : KFault) (_ : Ext) (ch : Ch) (d : Device) (c : Channel) : Channel := raiseFault ch d f (opened i c)

/-- GATE or RETE raises a fault. -/
def refusesPass (f : KFault) (_ : Ext) (ch : Ch) (d : Device) (c : Channel) : Channel := raiseFault ch d f (issuing c)

/-- An entry finds its frame area and its vector slot: room in the area, and the access table and the memory allow the frame's
writes and the slot's fetch (R292, R303). -/
abbrev Room (c : Channel) (inner : Bool) (vector : Nat) : Prop :=
  let k := c.core
  let ptr := if inner then k.framePtrI else k.framePtrO
  let base := if inner then k.frameBaseI else k.frameBaseO
  let code : Seg := if inner then ⟨k.wcsBaseI, k.wcsLimitI⟩ else ⟨k.wcsBaseO, k.wcsLimitO⟩
  let slot := code.base + 16 * vector
  base + 80 ≤ ptr ∧ ptr < 2 ^ 32 ∧
  (∀ j, j < 80 → isPeriph (ptr - 80 + j) = false ∧ atAllows c.table (if inner then 0 else 2) .write (ptr - 80 + j) = true) ∧
  badWordIn c.table (ptr - 80) 80 = none ∧ 16 * vector + 16 ≤ code.limit ∧
  atAllows c.table (if inner then 0 else 2) .fetch slot = true ∧ isPeriph slot = false ∧ badWordIn c.table slot 16 = none

/-- Unit `c'` is `c` after an entry that stays in its world: the frame is stored below the frame pointer, PSW is the handler's, and
the PC is the vector's slot (R292, R293). -/
def Entered (c c' : Channel) (vector kind args pc faddr finfo : Nat) : Prop :=
  let k := c.core
  let inner := k.inWorld
  let addr := (if inner then k.framePtrI else k.framePtrO) - 80
  let stored := c.store addr (frameBytes k vector kind args pc faddr finfo (k.depth - args) false)
  c'.mem = stored.mem ∧ c'.patches = stored.patches ∧
  c'.core.psw = (if inner then 0x700 else 0x300) ∧ c'.core.pc = 16 * vector ∧
  (if inner then c'.core.framePtrI else c'.core.framePtrO) = addr ∧
  c'.core.seg 0 = (if inner then ⟨k.wcsBaseI, k.wcsLimitI⟩ else ⟨k.wcsBaseO, k.wcsLimitO⟩) ∧
  c'.core.fault = none ∧ c'.core.branch = none ∧ c'.core.looping = false ∧ c'.core.long = false ∧
  c'.core.cycles = k.cycles + 7 ∧ c'.core.depth = k.depth ∧ c'.core.halted = k.halted

/-- A channel whose core has left the Outer world, `args` arguments taken off its stack (R292, R295). -/
def outside (ch : Ch) (d : Device) (args : Nat) (c : Channel) : Channel :=
  leaveWorld ch d args c

/-- Channel `c'` is `c` after an entry from the Outer world into the Inner one, `l` being the channel as it left (R292, R295). -/
def Crossed (c l c' : Channel) (vector args : Nat) : Prop :=
  c'.core.psw = 0x700 ∧ c'.core.pc = 16 * vector ∧ c'.core.framePtrI = l.core.framePtrI - 80 ∧
  c'.core.seg 0 = ⟨c.core.wcsBaseI, c.core.wcsLimitI⟩ ∧ c'.core.inner.depth = c.core.inner.depth + args ∧
  c'.core.outer.depth = c.core.depth - args ∧ c'.core.fault = none ∧ c'.core.dfault = c.core.dfault

/-- The registers of a core that an instruction leaves when it only computes on the stack: every PSW bit but RND, SAT and OV, the
accumulators, segments, loop, divide, frame, interrupt and routing registers. -/
def KeepsRegisters (k k' : Kenten) : Prop :=
  k'.psw &&& 0xFFFFFFF0 = k.psw &&& 0xFFFFFFF0 ∧ (∀ n, k'.acc n = k.acc n) ∧ (∀ n, k'.seg n = k.seg n) ∧ k'.prog % 2 ^ 16 = k.prog % 2 ^ 16 ∧
  k'.lpStart = k.lpStart ∧ k'.lpEnd = k.lpEnd ∧ k'.lpCount = k.lpCount ∧ k'.lpStride = k.lpStride ∧ k'.dvq = k.dvq ∧ k'.dvr = k.dvr ∧
  k'.wcsBaseI = k.wcsBaseI ∧ k'.wcsLimitI = k.wcsLimitI ∧ k'.wcsBaseO = k.wcsBaseO ∧ k'.wcsLimitO = k.wcsLimitO ∧
  k'.framePtrI = k.framePtrI ∧ k'.framePtrO = k.framePtrO ∧ k'.irqEn = k.irqEn ∧ k'.irqWorld = k.irqWorld ∧ k'.froute = k.froute ∧
  k'.gateEn = k.gateEn ∧ k'.tcmp = k.tcmp ∧ k'.hblkWait = k.hblkWait ∧ k'.df = k.df ∧ k'.traceTag = k.traceTag

/-- The parts of a unit outside its core, its memory and its outgoing reports are as before. -/
def KeepsBlocks (c c' : Channel) : Prop :=
  c'.table = c.table ∧ c'.nv = c.nv ∧ c'.ce = c.ce ∧ c'.pke = c.pke ∧ c'.hash = c.hash ∧ c'.rng = c.rng ∧ c'.host = c.host ∧ c'.jr = c.jr ∧
  c'.shard = c.shard ∧ c'.gov = c.gov ∧ c'.keys = c.keys ∧ c'.state = c.state

/-- The commands confined to one channel, and that channel: its jobs, its registers, its engines, its flash, its core (R14). -/
def reaches : Instr → Option Ch
  | .proofing ch .. | .chCtrlWrite ch .. | .ringEnable ch .. | .ringDisable ch .. | .ringVecWrite ch .. | .sqDoorbellTail ch ..
  | .sqDoorbellInline ch .. | .sqDoorbellInlinePartial ch .. | .cqHeadWrite ch .. | .jobClaim ch .. | .dmaReadDone ch ..
  | .jobCommit ch .. | .batteryTransactionDone ch | .stagedWritesSend ch .. | .completionPost ch .. | .cqCoalesceTimeout ch ..
  | .eventPortCrumb ch .. | .updatePortRevoke ch | .commitList ch .. | .commitRecover ch .. | .journalList ch ..
  | .unprotect ch .. | .unprotectSeq ch .. | .protect ch .. | .protectBroadcast ch .. | .protectDisconnect ch ..
  | .keyTransport ch .. | .keyActivate ch .. | .keyDiscard ch .. | .dedicatedRelease ch .. | .governorStatus ch ..
  | .tokenChallenge ch .. | .tokenApply ch .. | .governorLower ch .. | .grantAgeOut ch | .challengeExpiry ch | .tokenExpiry ch
  | .promotionHoldEnd ch | .recipeLoad ch .. | .recipeList ch .. | .recipeRemove ch .. | .recipeVersionDrained ch
  | .frameUnitGo ch | .frameUnitPhaseDone ch | .recordImport ch .. | .recordRewrap ch .. | .recordRotate ch ..
  | .recordRetire ch .. | .shardCreate ch .. | .treeImage ch .. | .shardStatus ch .. | .rootBackup ch | .treeCheckpoint ch
  | .keepPreferenceExpiry ch | .sigVerify ch .. | .rsaVerify ch .. | .rsaSign ch .. | .attest ch .. | .pubkeyExport ch ..
  | .pkPush ch | .pkeBatchStart ch | .pkeBatchEnd ch .. | .pkDonePop ch | .pkAbort ch .. | .pkClear ch | .pkeClearDone ch
  | .hashInit ch .. | .hashFeed ch .. | .hashFinal ch .. | .hashClear ch | .hashOpDone ch .. | .ceAlloc ch | .ceFree ch ..
  | .ceClearDone ch .. | .ceZero ch | .cxCfgWrite ch .. | .cxCounterWrite ch .. | .cxLimitWrite ch .. | .keyload ch ..
  | .start ch .. | .aad ch .. | .data ch .. | .final ch .. | .abort ch .. | .settleRun ch .. | .settleOpen ch ..
  | .settleAdjust ch .. | .settleClose ch .. | .programLoad ch .. | .programList ch .. | .programRemove ch ..
  | .conditioningBlock ch | .healthAlarm ch .. | .instantiate ch .. | .generate ch .. | .reseed ch .. | .uninstantiate ch ..
  | .drbgRequestDone ch .. | .drbgReseedDue ch .. | .drbgReseedApply ch .. | .drbgInstanceError ch .. | .calibrationStart ch
  | .calibrationDone ch .. | .rgTestWrite ch .. | .rgTpDataWrite ch .. | .rgRawRead ch | .noteBuild ch .. | .pairBeat ch ..
  | .snapshotStart ch .. | .snapshotChunk ch .. | .snapshotCommit ch .. | .promote ch .. | .relinquish ch ..
  | .pairReceive ch .. | .receiveNote ch .. | .receiveAck ch .. | .receiveBeat ch .. | .receiveChunk ch ..
  | .receiveCommit ch .. | .receiveRelinquish ch .. | .pairBindActive ch .. | .pairBindStandby ch .. | .pairUnbind ch ..
  | .pairStatus ch .. | .revocationLoad ch .. | .ackOverdue ch | .ackLagRelease ch | .soloPermitExpiry ch | .safetyReport ch ..
  | .sfReport ch .. | .kick ch | .watchdogEnable ch | .watchdogExpiry ch | .bistCycle ch | .bistCycleDone ch ..
  | .sleepEntry ch .. | .deepSleepEntry ch | .channelWake ch | .pllLockTimeout ch | .hourCountAgeOut ch => some ch
  | .nop u | .drop u | .dup u | .swap u | .over u | .rot u | .nip u | .pick u .. | .depth u | .drop2 u | .dup2 u | .push8 u ..
  | .push16 u .. | .push32 u .. | .pushu8 u .. | .pushu16 u .. | .pushh u .. | .add u | .sub u | .neg u | .abs u | .min u
  | .max u | .addi8 u .. | .addi16 u .. | .eq u | .ne u | .lt u | .le u | .ltu u | .leu u | .sel u | .addw u | .and u | .or u
  | .xor u | .not u | .shl u .. | .shr u .. | .sarr u .. | .shlv u | .shrv u | .sarv u | .clz u | .subw u | .mul u | .mulq u
  | .add2 u | .sub2 u | .mul2 u | .pack u | .unpk u | .clra u .. | .lda u .. | .mac u .. | .msu u .. | .rda u .. | .rdas u ..
  | .adda u .. | .ldw u .. | .ldwi u .. | .ldh u .. | .ldb u .. | .stw u .. | .stwi u .. | .sth u .. | .stb u .. | .br u ..
  | .brs u .. | .bz u .. | .bnz u .. | .call u .. | .ret u | .jmp u | .bmov u .. | .vmac u .. | .loops u .. | .hblkInit u ..
  | .hblkFeed u .. | .hblkFinal u .. | .divs u .. | .feat u .. | .gate u .. | .rete u | .mfsr u .. | .mtsr u .. | .segr u ..
  | .segw u .. | .setrnd u .. | .setsat u .. | .clrov u | .brk u .. | .wait u | .resultLand u | .faultEntry u ..
  | .interruptEntry u | .timerMatch u | .doubleFault u | .lockstepMiscompare u | .atPermWrite u .. | .atEntryLock u ..
  | .lockAll u | .cntClr u | .scrubLine u .. | .bucketLeak u .. | .bucketThresholdWrite u .. | .program u .. | .programSeg u ..
  | .erase u .. | .format u .. | .check u .. | .nvCommandDone u .. | .suspend u | .resume u | .eraseAutosuspend u
  | .eraseAutoresume u | .flashWindowRead u .. | .flashScrubSense u .. | .refreshPop u => if h : u.val < 16 then some ⟨u.val, h⟩ else none
  | _ => none

/-- A channel that never left reset and holds no job, no key and no data. -/
abbrev Dark (c : Channel) : Prop :=
  c.state = .reset ∧ c.bootStep = 0 ∧ c.jr.entries = [] ∧ c.kek = none ∧ c.kekCopy = none ∧ c.mem = [] ∧ c.updatePort = false

/-- Every channel that the fuses do not enable is dark (R4). -/
abbrev DisabledDark (s : State) : Prop := ∀ ch : Ch, s.dev.has ch = false → Dark (s.chan ch)

end Sys2Proof.Says

open Sys2Proof Sys2Proof.Machine Sys2Proof.Says


/-- R265: the stack and constant instructions push what their rows say, in every state in which their checks pass. Covers
NOP, DROP, DROP2, DUP, SWAP, OVER, ROT, NIP, DUP2, PICK, DEPTH, PUSH8, PUSH16, PUSH32, PUSHU8, PUSHU16, PUSHH. -/
def Obligations.KentenStack : Prop :=
  ∀ (s : State) (u : Core) (b : Byte) (h : Half) (w : Word),
    Pushing s u (stackRows u (coreAt s u) (pswOf s u) b h w)

/-- R256, R258, R265: the integer instructions. One that can overflow pushes the exact result fitted to its width, and OV is set
when it does not fit; comparisons, selections, logic and shifts leave OV. Covers ADD, SUB, NEG, ABS, ADDI8, ADDI16, SHL, SHLV, MUL,
MULQ, ADD2, SUB2, MUL2, PACK, MIN, MAX, EQ, NE, LT, LE, LTU, LEU, SEL, ADDW, SUBW, AND, OR, XOR, NOT, SHR, SHRV, SARR, SARV, CLZ, UNPK. -/
def Obligations.KentenInteger : Prop :=
  ∀ (s : State) (u : Core) (b : Byte) (h : Half),
    Pushing s u (fittedRows u (pswOf s u) b h) ∧ Pushing s u (logicRows u (pswOf s u) b)

/-- R256, R269: the accumulator instructions. Covers CLRA, LDA, MAC, MSU, ADDA, RDA, RDAS. -/
def Obligations.KentenAccumulators : Prop :=
  ∀ (s : State) (u : Core) (n : Bool) (b : Byte),
    Pushing s u (accReadRows u (coreAt s u) (pswOf s u) n b) ∧
    ∀ r ∈ accRows u (issuing (unit s u)).core (pswOf s u) n, Ready s u r.2.1 → Passes s u r.2.1 [] →
      Ends r.1 s (onCore u (writesAcc r.2.1 n (r.2.2 (inputs s u r.2.1)).1 (r.2.2 (inputs s u r.2.1)).2) s)

/-- R270: loads push what lies at their extent, stores store the low bytes of their value there; a fetch that the flash bank holds up
waits (R266, R352). Covers LDW, LDWI, LDH, LDB,
STW, STWI, STH, STB. -/
def Obligations.KentenMemory : Prop :=
  ∀ (s : State) (u : Core) (g : Fin 6) (h : Half),
    (∀ r ∈ loadRows u g h, Ready s u r.2.1 → Passes s u r.2.1 [r.2.2.1 (inputs s u r.2.1)] →
      Ends r.1 s (onCore u (loads r.2.1 (r.2.2.1 (inputs s u r.2.1)) r.2.2.2) s)) ∧
    (∀ r ∈ loadRows u g h, Present s u → canIssue (coreExt u s) (unit s u).core = true → fetchReads r.2.1 (unit s u) = none →
      Ends r.1 s (onCore u (fun _ _ _ c => c) s)) ∧
    (∀ r ∈ storeRows u g h, Ready s u r.2.1 → Passes s u r.2.1 [r.2.2 (inputs s u r.2.1)] →
      Ends r.1 s (onCore u (stores r.2.1 (r.2.2 (inputs s u r.2.1)) (in0 (inputs s u r.2.1))) s))

/-- R271, R272: a branch takes effect after two delay slots; a taken one whose target is not below CSEG.LIMIT raises LIMIT and changes
nothing else. Covers BR, BRS, BZ,
BNZ, CALL, RET, JMP. -/
def Obligations.KentenBranches : Prop :=
  ∀ (s : State) (u : Core) (h : Half) (b : Byte), ∀ r ∈ branchRows u (issuing (unit s u)) h b,
    let v := inputs s u r.2.1
    Ready s u r.2.1 →
    (Passes s u r.2.1 [] → (r.2.2.1 v = true → r.2.2.2.1 v < ((issuing (unit s u)).core.seg 0).limit) →
      Ends r.1 s (onCore u (branches r.2.1 (r.2.2.1 v) (r.2.2.2.1 v) r.2.2.2.2) s)) ∧
    (r.2.2.1 v = true → ((issuing (unit s u)).core.seg 0).limit ≤ r.2.2.2.1 v →
      Ends r.1 s (onCore u (raises r.2.1 ⟨4, r.2.2.2.1 v, 16 + 256 * r.2.1.opcode⟩) s))

/-- R259, R260, R287, R290, R291: the system instructions. MFSR 6 latches CYCLE_HI; MTSR and SEGW change registers when the value is
in range; WAIT holds issue; BRK raises its fault. Covers FEAT, SEGR, SETRND, SETSAT, CLROV, MFSR, MTSR, SEGW, WAIT, BRK. -/
def Obligations.KentenSystem : Prop :=
  ∀ (s : State) (u : Core) (b : Byte),
    let c := issuing (unit s u)
    let v := inputs s u
    Pushing s u (systemRows u c (pswOf s u) b) ∧
    (Ready s u (.mfsr b.toNat) → Passes s u (.mfsr b.toNat) [] →
      Ends (.mfsr u b) s (onCore u (readsSr b.toNat (srRead (coreExt u s) (coreAt s u (.mfsr b.toNat)) b.toNat)) s)) ∧
    (Ready s u (.mtsr b.toNat) → Passes s u (.mtsr b.toNat) [] →
      srRange c.core b.toNat (in0 (v (.mtsr b.toNat))).toNat = false →
      Ends (.mtsr u b) s (onCore u (changes (.mtsr b.toNat) (srWrite b.toNat (in0 (v (.mtsr b.toNat))))) s)) ∧
    (Ready s u (.segw b.toNat) → Passes s u (.segw b.toNat) [] →
      (in0 (v (.segw b.toNat))).toNat + (in1 (v (.segw b.toNat))).toNat ≤ 2 ^ 32 →
      Ends (.segw u b) s (onCore u (changes (.segw b.toNat)
        (Kenten.onBank fun y => y.setSeg b.toNat ⟨(in0 (v (.segw b.toNat))).toNat, (in1 (v (.segw b.toNat))).toNat⟩)) s)) ∧
    (Ready s u .wait → Passes s u .wait [] →
      Ends (.wait u) s (onCore u (changes .wait (fun k => { k with waiting := true })) s)) ∧
    (Ready s u (.brk b.toNat) → Ends (.brk u b) s (onCore u (raises (.brk b.toNat) ⟨8, 0, 0xCA00⟩) s))

/-- R406, R436, R461, R547, R549: MAIN_POWER_APPLY is a cold reset: every channel and management in reset, the journals empty, the boot
count one higher; with a failed self-test it ends in the device safe state. SUPPLY_FALL holds every channel and management in
reset; a lifecycle bit it cuts off then reads as the old state or the new one (R406). MAIN_POWER_LOSS leaves the battery domain, and takes it too without a cell. WARM_RESET resets every channel and
management and keeps the journals. Covers MAIN_POWER_APPLY, SUPPLY_FALL, MAIN_POWER_LOSS, WARM_RESET. -/
def Obligations.PowerResets : Prop := ∀ s : State,
  (∀ (b entropy : Bool), s.pw.main = false → ∃ t, Ends (.mainPowerApply { selfTest := b, entropy := entropy }) s t ∧ t.pw.main = true ∧ t.pw.perst = true ∧
    t.pw.mgHeld = true ∧ t.dev.mgmtUp = false ∧ t.dev.hearthUp = false ∧ t.tp.armed = false ∧ t.dev.deviceSafe = !b ∧ t.pw.entropy = entropy ∧
    t.dev.bootCount = (s.dev.bootCount + 1) % 2 ^ 32 ∧
    (s.tp.battery = true → t.dev.seconds = s.dev.seconds ∧ t.dev.cycles = (s.dev.cycles + 1) % 2 ^ 24) ∧
    ∀ ch, s.dev.has ch = true → (t.chan ch).jr.entries = [] ∧ (t.chan ch).mem = [] ∧ (t.chan ch).shard = (s.chan ch).shard ∧
      (t.chan ch).state = if b then .reset else .fault) ∧
  (s.pw.main = true → s.pw.fallen = false → s.mg.blow = none → ∃ t, Ends .supplyFall s t ∧
    t.pw = { s.pw with fallen := true, mgHeld := true } ∧ t.dev.lifecycle = s.dev.lifecycle ∧
    t.dev.mgmtUp = false ∧ t.tp.sticky = s.tp.sticky ∧
    ∀ ch, s.dev.has ch = true → (t.chan ch).state = .reset ∧ (t.chan ch).jr.entries.length = (s.chan ch).jr.entries.length ∧
      (t.chan ch).shard = (s.chan ch).shard) ∧
  (∀ l, s.pw.main = true → s.pw.fallen = false → s.mg.blow = some l → ∃ t, Ends .supplyFall s t ∧
    (t.dev.lifecycle = s.dev.lifecycle ∨ t.dev.lifecycle = l) ∧ t.mg.blow = none) ∧
  (s.pw.fallen = true → ∃ t, Ends .mainPowerLoss s t ∧ t.pw.main = false ∧ t.pw.link = false ∧ t.pw.pcieUp = false ∧
    t.tp.armed = false ∧ t.tp.battery = (s.tp.battery && s.tp.cell) ∧
    ∀ ch, s.dev.has ch = true → (t.chan ch).state = .reset ∧ (t.chan ch).jr.entries = [] ∧
      (t.chan ch).kek = (if s.tp.cell then (s.chan ch).kek else none) ∧
      (t.chan ch).shard = (if s.tp.cell then (s.chan ch).shard else {})) ∧
  (s.pw.main = true → s.pw.warmDue = true → ∃ t, Ends .warmReset s t ∧ t.pw.warmDue = false ∧ t.dev.mgmtUp = false ∧
    ∀ ch, s.dev.has ch = true → (t.chan ch).state = .reset ∧ (t.chan ch).jr.lastReset = 1 ∧ (t.chan ch).shard = (s.chan ch).shard ∧
      (t.chan ch).jr.entries.map (·.serial) = (s.chan ch).jr.entries.map (·.serial))

/-- R9 to R12, R436, R442, R450: the link between the dice, the supply's return and the arming of the tamper monitor. A training draws a
nonce on each die and derives the link key from them and the pairing secret; without the logic die's entropy source there is none. A
frame that verifies advances its direction's counter; any other is discarded and trips source 27. A training that fails is recorded for
the event recorder. The nonces, the derivation and the crumb's code are the model's free values. Covers SUPPLY_RECOVER, LINK_TRAIN,
LINK_TRAIN_TIMEOUT, LINK_TRAIN_RETRY, LINK_FRAME_RECEIVE, TAMPER_ARM. -/
def Obligations.LinkAndArming : Prop := ∀ s : State,
  let k := 16 * (2 ^ 32 * s.dev.bootCount + s.pw.keyed)
  let logic := freeBytes 19 k 16
  let keep := freeBytes 18 k 16
  let trained : State := { s with pw := { s.pw with
    link := true, frames := (0, 0), keyed := s.pw.keyed + 1, nonces := (logic, keep)
    linkKey := padTo 16 (Config.linkKdf Config.pairingSecret logic keep) } }
  let failed : State := { s with pw := { s.pw with linkFails := s.pw.linkFails + 1, hpLog := true } }
  (∀ rail : Byte, s.pw.fallen = true → Ends (.supplyRecover rail) s (tripSample [(22, rail.toNat)] (countSamples 1
    { s with pw := { s.pw with fallen := false, mgHeld := !s.tp.armed } }))) ∧
  (s.pw.main = true → s.pw.selfTest = true → s.pw.link = false → s.pw.fallen = false →
    (s.pw.entropy = true → Ends .linkTrain s trained ∧ Ends (.linkTrainRetry true) s trained) ∧
    (s.pw.entropy = false → Ends .linkTrain s s ∧ Ends (.linkTrainRetry true) s s)) ∧
  (s.pw.main = true → s.pw.link = false → ∃ x : Crumb, x.seconds = s.dev.seconds ∧ x.cycles = s.dev.cycles ∧
    Ends .linkTrainTimeout s (aonCrumb x failed) ∧ Ends (.linkTrainRetry false) s (aonCrumb x failed)) ∧
  (∀ f : LinkFrame, s.pw.link = true →
    (frameVerifies true f s.pw = true →
      Ends (.linkFrameReceive true f) s { s with pw := { s.pw with frames := (s.pw.frames.1 + 1, s.pw.frames.2) } }) ∧
    (frameVerifies false f s.pw = true →
      Ends (.linkFrameReceive false f) s { s with pw := { s.pw with frames := (s.pw.frames.1, s.pw.frames.2 + 1) } }) ∧
    (frameVerifies true f s.pw = false → Ends (.linkFrameReceive true f) s (tripSample [(27, 1)] (countSamples 1 s))) ∧
    (frameVerifies false f s.pw = false → Ends (.linkFrameReceive false f) s (tripSample [(27, 0)] (countSamples 1 s)))) ∧
  (∀ micros : Nat, s.pw.main = true → s.pw.link = true → s.tp.armed = false → s.tp.queue = [] → s.tp.drops = 0 →
    Ends (.tamperArm [] micros) s (tamperCrumb 0x0205 micros s.tp.live 0 0
      { s with tp := { s.tp with
                 armed := true, samples := (s.tp.samples + 256) % 2 ^ 64, reseeds := s.tp.reseeds + 1, seedSample := s.tp.samples
                 missed := [], checks := s.tp.checks + 1 }
               pw := { s.pw with mgHeld := !s.pw.refclk, hpLog := true } }))

/-- R12, R21, R24, R465, R549, R552: the release of a channel: BOOTING when the part is up, WAIT_LINK without the link, FAULT
under a latch; and the retry of a channel that waits for management, which goes on only while management firmware serves. Covers CHANNEL_RESET_RELEASE, WAIT_MGMT_RETRY. -/
def Obligations.ChannelRelease : Prop := ∀ (s : State) (ch : Ch),
  (s.dev.has ch = true → ((s.chan ch).state = .reset ∨ (s.chan ch).state = .waitLink) → s.pw.main = true → s.pw.fallen = false →
    s.dev.lifecycle ≠ 0 →
    ((s.chan ch).sf.latched = true → Ends (.channelResetRelease ch) s (setChan s ch (setChState .fault (s.chan ch)))) ∧
    ((s.chan ch).sf.latched = false → s.pw.link = false →
      Ends (.channelResetRelease ch) s (setChan s ch (setChState .waitLink (s.chan ch)))) ∧
    ((s.chan ch).sf.latched = false → s.pw.link = true → s.tp.armed = true → s.pw.refclk = true → bit s.tp.clearing ch.val = false →
      ∃ t, Ends (.channelResetRelease ch) s t ∧ (t.chan ch).state = .booting ∧ (t.chan ch).bootStep = 0 ∧
        (t.chan ch).bootTick = s.dev.tick ∧ (t.chan ch).shard = (s.chan ch).shard ∧ (t.chan ch).jr = (s.chan ch).jr)) ∧
  (s.dev.has ch = true → (s.chan ch).state = .waitMgmt → mgmtServes s = true → ∃ t, Ends (.waitMgmtRetry ch) s t ∧
    (t.chan ch).state = .booting ∧ (t.chan ch).bootStep = 0 ∧ (t.chan ch).needsConfirm = false ∧ (t.chan ch).shard = (s.chan ch).shard) ∧
  (mgmtServes s = false → Ends (.waitMgmtRetry ch) s s)

/-- R18, R35, R71, R546, R547, R550: the PCI Express side. Covers PERST_ASSERT, PERST_DEASSERT, CONFIG_REQUEST, FUNCTION_LEVEL_RESET,
FLR_MGMT_FUNCTION, D3HOT_ENTRY, D0_RETURN, HEARTH_SLICE_FAULT, HEARTH_LINK_DOWN, HEARTH_RECOVER. -/
def Obligations.FunctionEvents : Prop := ∀ s : State,
  (s.pw.main = true → s.pw.perst = false → ∃ t, Ends .perstAssert s t ∧ t.dev.hearthUp = false ∧
    t.pw = { s.pw with perst := true, pcieUp := false, crs := true } ∧
    ∀ ch, s.dev.has ch = true → (t.chan ch).state = .reset ∧ (t.chan ch).jr.lastReset = 2 ∧
      (t.chan ch).jr.entries.map (·.serial) = (s.chan ch).jr.entries.map (·.serial)) ∧
  (s.pw.main = true → s.pw.perst = true →
    Ends .perstDeassert s { raiseMg 3 s with pw := { s.pw with perst := false, pcieUp := true }, dev := { s.dev with hearthUp := true } }) ∧
  (∀ f : Fin 17, Ends (.configRequest f) s
    (if s.dev.enabled < f.val then s else { s with pw := { s.pw with crs := !(s.pw.hpLog && s.pw.pcieUp) } })) ∧
  (∀ ch : Ch, s.pw.pcieUp = true → s.dev.has ch = true →
    Ends (.functionLevelReset ch) s (functionCrumb (ch.val + 1) (setChan s ch (channelReset .flr ch s.dev (s.chan ch))))) ∧
  (s.pw.pcieUp = true → s.fn0.phase = .idle → s.fn0.current = none →
    Ends .flrMgmtFunction s (functionCrumb 0 { s with fn0 := {} })) ∧
  (s.pw.pcieUp = true → s.fn0.phase = .waiting →
    Ends .flrMgmtFunction s (functionCrumb 0 { s with fn0 := { status := 0x0A04, done := true } })) ∧
  Ends (.d3hotEntry 0) s { s with fn0 := { s.fn0 with d3hot := true } } ∧
  Ends (.d0Return 0) s { s with fn0 := { s.fn0 with d3hot := false } } ∧
  (∀ k : SliceError, Ends (.hearthSliceFault 0 k) s { raiseMg 3 s with fn0 := { s.fn0 with faulted := true } }) ∧
  (∀ ch : Ch, s.dev.has ch = true →
    Ends (.d3hotEntry ch.succ) s (setChan s ch { s.chan ch with host := { (s.chan ch).host with d3hot := true } }) ∧
    Ends (.d0Return ch.succ) s (setChan s ch { s.chan ch with host := { (s.chan ch).host with d3hot := false } }) ∧
    ∀ k : SliceError, Ends (.hearthSliceFault ch.succ k) s
      (setChan (raiseMg 3 s) ch (setFault k.kind.val k.value.toNat k.pair.val (s.chan ch)))) ∧
  Ends .hearthLinkDown s { raiseMg 3 s with dev := { s.dev with hearthUp := false }, pw := { s.pw with pcieUp := false, crs := true } } ∧
  (s.pw.main = true → s.pw.perst = false →
    Ends .hearthRecover s { raiseMg 3 s with dev := { s.dev with hearthUp := true }, pw := { s.pw with pcieUp := true } })

/-- R313, R542 to R544: sleep and clocks. Covers SLEEP_ENTRY, DEEP_SLEEP_ENTRY, CHANNEL_WAKE, CRYSTAL_SWITCH, CRYSTAL_LOSS, REFCLK_LOSS,
REFCLK_RETURN, PLL_LOCK_TIMEOUT. -/
def Obligations.SleepAndClocks : Prop := ∀ s : State,
  (∀ (ch : Ch) (quiet : Nat), s.dev.has ch = true → (s.chan ch).state = .ready → (s.chan ch).host.sleepOk = true →
    quiesced (s.chan ch) = true → (s.chan ch).host.idle ≤ quiet → enginesIdle (s.chan ch) = true → (s.chan ch).notice = false →
    Ends (.sleepEntry ch quiet) s (setChan s ch (raiseSource 8 { s.chan ch with sleepTick := s.dev.tick, state := .asleep }))) ∧
  (∀ ch : Ch, s.dev.has ch = true → (s.chan ch).state = .asleep → (s.chan ch).deep = false →
    (s.chan ch).sleepTick + 1000 ≤ s.dev.tick → ∃ t, Ends (.deepSleepEntry ch) s t ∧ (t.chan ch).deep = true ∧
      (t.chan ch).state = .asleep ∧ (t.chan ch).hash = {} ∧ (t.chan ch).pke.queue = [] ∧ (t.chan ch).rng.source = .off ∧
      (t.chan ch).mem = (s.chan ch).mem ∧ (t.chan ch).keys = (s.chan ch).keys) ∧
  (∀ ch : Ch, s.dev.has ch = true → (s.chan ch).state = .asleep → s.pw.refclk = true → (s.chan ch).outSources = [] →
    (s.chan ch).outCrumbs = [] → (s.chan ch).deep = false →
    Ends (.channelWake ch) s (setChan s ch (raiseSource 8
      { raiseCause 18 (s.chan ch) with
        deep := false, rng := { (s.chan ch).rng with source := .proofing, proofOk := false, again := 0 }, state := .ready }))) ∧
  (s.pw.main = true → Ends .crystalSwitch s { s with pw := { s.pw with crystal := true } }) ∧
  (s.pw.crystal = true → Ends .crystalLoss s
    (let t : State := { s with pw := { s.pw with crystal := false } }; if mgmtRuns s then mgCrumb 0x18 0x2200 32 0 0 0 t else t)) ∧
  (s.pw.main = true → s.pw.refclk = true → ∃ t, Ends .refclkLoss s t ∧ t.pw.refclk = false ∧ t.pw.mgHeld = true ∧
    t.dev.mgmtUp = false ∧ ∀ ch, s.dev.has ch = true → ((s.chan ch).state = .ready ∨ (s.chan ch).state = .recovery ∨
      (s.chan ch).state = .booting) → (t.chan ch).state = .fault ∧ (t.chan ch).sf.mech = 9) ∧
  (s.pw.refclk = false →
    Ends .refclkReturn s { s with pw := { s.pw with refclk := true, mgHeld := !s.tp.armed || s.pw.fallen } }) ∧
  (∀ ch : Ch, s.dev.has ch = true → (s.chan ch).state = .ready → ∃ t, Ends (.pllLockTimeout ch) s t ∧
    (t.chan ch).state = .fault ∧ (t.chan ch).sf.mech = 9 ∧ (t.chan ch).host.fault.getLsbD 4 = true)

/-- R444, R447, R448, R454: the cell. Taking it out under main power disarms removal detection; without main power it takes the
battery domain, and leaves a mark in SECURE mode. Covers CELL_INSERT, REMOVAL_ARM, CELL_REMOVED_ON_MAIN, CELL_REMOVED. -/
def Obligations.CellEvents : Prop := ∀ s : State,
  (s.pw.main = true → s.tp.cell = false →
    Ends .cellInsert s (tamperSource 29 { s with tp := { s.tp with cell := true, cellTick := s.dev.tick } })) ∧
  (s.pw.main = true → s.tp.cell = true → s.tp.cellTick + 1000 ≤ s.dev.tick →
    Ends .removalArm s { s with tp := { s.tp with removalArmed := true } }) ∧
  (s.pw.main = true → s.tp.cell = true → Ends .cellRemovedOnMain s
    (tamperSource 29 (tamperCrumb 0x0203 0 0 0 0 { s with tp := { s.tp with cell := false, removalArmed := false } }))) ∧
  (s.pw.main = false → s.tp.cell = true → ∃ t, Ends .cellRemoved s t ∧ t.tp.cell = false ∧ t.tp.battery = false ∧
    t.dev.tick = 0 ∧ t.dev.seconds = 0 ∧
    t.tp.marks = (if s.tp.removalArmed = true ∧ s.tp.ship = false then min (s.tp.marks + 1) 16 else s.tp.marks) ∧
    ∀ ch, s.dev.has ch = true → (t.chan ch).kek = none ∧ (t.chan ch).shard = {} ∧ (t.chan ch).jr = (s.chan ch).jr)

/-- R57 to R59, R404: a mailbox message is posted by GO when the window holds both buffers, is taken up by management, and ends
with a status, a response and vector 0. Covers MAILBOX_GO, MAILBOX_TAKE_UP, MAILBOX_TIMEOUT. -/
def Obligations.MailboxProtocol : Prop := ∀ s : State,
  let f := s.fn0
  (f.phase = .idle → f.faulted = false → 16 ≤ f.reqLen → f.reqLen ≤ 4096 → f.win.lock = true →
    f.win.holds f.req.value.toNat 4096 = true → f.win.holds f.rsp.value.toNat 4096 = true →
    Ends .mailboxGo s { s with fn0 := { f with phase := .waiting } }) ∧
  (∀ r : Bytes, let b := padTo f.reqLen r
    f.phase = .waiting → f.current = none → mgmtRuns s = true → s.mg.romOnly = false →
    fieldLE b 6 2 = f.reqLen - 16 → slice b 12 4 = zeros 4 → fieldLE b 0 2 ∈ mailboxCommands →
    Ends (.mailboxTakeUp (some r)) s
      { raiseMg 2 s with fn0 := { f with current := some (fieldLE b 0 2, fieldLE b 2 2, fieldLE b 4 2, fieldLE b 8 4, b.drop 16) } }) ∧
  (f.phase = .waiting → f.current = none → mgmtRuns s = true → Ends (.mailboxTakeUp none) s (endMessage 0x0109 none s)) ∧
  (f.phase = .waiting → f.current = none → Ends .mailboxTimeout s (endMessage 0x0A03 none s)) ∧
  (∀ (st : Nat) (b : Bytes), let t := endMessage st (some b) s
    t.fn0.phase = .idle ∧ t.fn0.done = true ∧ t.fn0.status = st ∧ t.fn0.current = none ∧ t.fn0.rspData = b ∧
    t.fn0.rspLen = b.length ∧ ⟨.response, 0, f.rsp.value.toNat, b⟩ ∈ t.fn0.sent ∧
    t.chans = s.chans ∧ t.mg = s.mg ∧ t.log = s.log ∧ t.tp = s.tp ∧ t.dev = s.dev ∧
    ∀ e, f.msix[0]? = some e → if e.mask = true ∨ f.faulted = true then 0 ∈ t.fn0.pba else ⟨.msix, 0, e.addr.toNat, leBytes 4 e.data.toNat⟩ ∈ t.fn0.sent)

/-- R394, R404 to R407, R409, R547: management's boot and resets, its identity commands and the lifecycle. Covers MANAGEMENT_BOOT,
MANAGEMENT_RESET, MGMT_WATCHDOG_EXPIRY, GET_INFO, SIDEBAND_CONFIG, LIFECYCLE_ADVANCE, LIFECYCLE_BLOW_DONE. -/
def Obligations.ManagementEvents : Prop := ∀ s : State,
  (∀ (x y : List Bytes) (b : Bool) (i : FwImage), s.pw.main = true → s.pw.mgHeld = false → s.pw.link = true → s.dev.mgmtUp = false →
    (bootSlot true s.mg.mgSvn false s.mg.fw s.mg.fw.order).1 = some (b, i) →
    ∃ t, Ends (.managementBoot x y) s t ∧ t.dev.mgmtUp = true ∧ t.mg.image = some i.hdr ∧ t.mg.fw.running = some b ∧
      t.mg.fw.active = s.mg.fw.active ∧ t.mgu.table.lockAll = true ∧ t.mg.copy = some (s.dev.seconds, s.dev.cycles, s.dev.tick) ∧
      t.chans = s.chans) ∧
  (∀ x y : List Bytes, s.pw.link = false → Ends (.managementBoot x y) s s) ∧
  (∀ x y : List Bytes, s.pw.main = true → s.pw.mgHeld = false → s.pw.link = true → s.dev.mgmtUp = false →
    (bootSlot true s.mg.mgSvn false s.mg.fw s.mg.fw.order).1 = none → (s.cards.sd.objects.find? fun o => o.1 == 1) = none →
    ∃ t, Ends (.managementBoot x y) s t ∧ t.dev.mgmtUp = true ∧ t.mg.romOnly = true ∧ t.mg.image = none ∧ t.chans = s.chans) ∧
  (∀ i ∈ [Instr.managementReset, .mgmtWatchdogExpiry], (i = .managementReset → s.pw.main = true) →
    (i = .mgmtWatchdogExpiry → mgmtRuns s = true) →
    ∃ t, Ends i s t ∧ t.dev.mgmtUp = false ∧ t.mg.image = none ∧ t.fn0.current = none ∧ t.log.rolling.frozen = false ∧
      t.log.pinned.frozen = false ∧ t.mg.side.eid = s.mg.side.eid ∧ t.cards.session = none ∧ t.pw = s.pw ∧
      ∀ ch, (t.chan ch).jr = (s.chan ch).jr ∧ (t.chan ch).state = (s.chan ch).state) ∧
  (∀ p, Given s 0x0001 p → ∃ tail, Ends .getInfo s (answer (devIdentity s ++ leBytes 4 (fwWord s.mg.image) ++ tail) s)) ∧
  (∀ p, Given s 0x0020 p → fieldLE p 0 1 ≤ 127 → fieldLE p 1 1 ≤ 2 → Ends .sidebandConfig s
    (answer [] (onMg (fun m => { m with side := { m.side with nextAddr := fieldLE p 0 1, nextRate := fieldLE p 1 1 } }) s))) ∧
  (∀ p, Given s 0x0040 p → s.mg.blow = none → fieldLE p 0 1 = 7 → advanceAllowed 7 (p.drop 4) s = true →
    Ends .lifecycleAdvance s (onMg (fun m => { m with blow := some 7 }) s)) ∧
  (∀ n, s.mg.blow = some n → ∃ t, Ends .lifecycleBlowDone s t ∧ t.dev.lifecycle = n ∧ t.mg.blow = none ∧ t.pw.warmDue = true ∧
    (∀ ch, s.dev.has ch = true → (t.chan ch).confirm = true) ∧ (n = 0xF → ∀ ch, s.dev.has ch = true → (t.chan ch).kek = none ∧ (t.chan ch).shard = {}))

/-- R23, R366, R408 to R413: an update session over the mailbox; a command whose target banks are occupied waits. Covers UPDATE_PORT_GRANT, UPDATE_PORT_REVOKE, UPDATE_BEGIN, UPDATE_DATA,
UPDATE_VERIFY, UPDATE_ACTIVATE, UPDATE_COMMIT, UPDATE_REVERT, UPDATE_ABORT, UPDATE_STATUS, TRIAL_BOOT_TIMEOUT. -/
def Obligations.UpdateSessions : Prop := ∀ s : State,
  let u := s.mg.update
  (∀ ch : Ch, s.dev.has ch = true → ((s.chan ch).state = .ready ∨ (s.chan ch).state = .recovery) → mgmtRuns s = true → bit s.tp.tampered ch.val = false →
    Ends (.updatePortGrant ch) s (setChan s ch { dropCause 15 (s.chan ch) with updatePort := true })) ∧
  (∀ ch : Ch, s.dev.has ch = true → Ends (.updatePortRevoke ch) s (setChan s ch { s.chan ch with updatePort := false })) ∧
  (∀ p, Given s 0x0030 p → (u.state = 0 ∨ u.state = 5) → u.pldm = false → s.mg.romOnly = false → fieldLE p 0 2 = 0x10 →
    fieldLE p 2 2 ≠ 0 → 352 ≤ fieldLE p 4 4 → fieldLE p 4 4 ≤ 524288 →
    (portsOpen 0x10 (fieldLE p 2 2) s = false → Ends .updateBegin s (refuse 0x0B04 (requestPorts (fieldLE p 2 2) s))) ∧
    (portsOpen 0x10 (fieldLE p 2 2) s = true → portsWait 0x10 (fieldLE p 2 2) s = true →
      Ends .updateBegin s (portWaits 0x10 (fieldLE p 2 2) s)) ∧
    (portsOpen 0x10 (fieldLE p 2 2) s = true → portsWait 0x10 (fieldLE p 2 2) s = false →
      ∃ t, Ends .updateBegin s t ∧ t.mg.update.state = 1 ∧ t.mg.update.component = 0x10 ∧ t.mg.update.mask = fieldLE p 2 2 ∧
      t.mg.update.length = fieldLE p 4 4 ∧ t.mg.update.data = [] ∧ t.fn0.status = 0 ∧
      ∀ ch : Ch, s.dev.has ch = true → bit (fieldLE p 2 2) ch.val = true → (t.chan ch).fw.image (!(s.chan ch).fw.active) = none ∧
        (t.chan ch).fw.image (s.chan ch).fw.active = (s.chan ch).fw.image (s.chan ch).fw.active ∧
        (t.chan ch).nv = { (s.chan ch).nv.eraseSlot false (!(s.chan ch).fw.active) with port := false })) ∧
  (∀ p, Given s 0x0031 p → u.pldm = false → u.state = 1 → fieldLE p 0 4 = u.data.length → p.drop 16 ≠ [] →
    u.data.length + (p.drop 16).length ≤ u.length → portsOpen u.component u.mask s = true →
    (portsWait u.component u.mask s = true → Ends .updateData s (portWaits u.component u.mask s)) ∧
    (portsWait u.component u.mask s = false → Ends .updateData s (answer [] (writePiece (p.drop 16) s)) ∧
      (writePiece (p.drop 16) s).mg.update = { u with data := u.data ++ p.drop 16 })) ∧
  (∀ p, Given s 0x0032 p → u.pldm = false → u.state = 1 → u.data.length = u.length → portsOpen u.component u.mask s = true →
    (portsWait u.component u.mask s = true → Ends .updateVerify s (portWaits u.component u.mask s)) ∧
    (portsWait u.component u.mask s = false → u.component = 0x10 → ∃ t, Ends .updateVerify s t ∧
      match (slotImages u s).findSome? fun i => verifyImage 0x10 i s with
      | none => t.mg.update.state = 2 ∧ t.fn0.status = 0 ∧ ∀ ch : Ch, s.dev.has ch = true → bit u.mask ch.val = true →
        (t.chan ch).fw.other = .pending ∧ (t.chan ch).fw.active = (s.chan ch).fw.active ∧
        (t.chan ch).fw.image (!(s.chan ch).fw.active) = some (slotImage u (s.chan ch).fw (s.chan ch).nv)
      | some n => t.mg.update.state = 5 ∧ t.fn0.status = n ∧ ∀ ch : Ch, s.dev.has ch = true → bit u.mask ch.val = true →
        (t.chan ch).fw.other ≠ .trial ∧ (t.chan ch).fw.active = (s.chan ch).fw.active)) ∧
  (∀ p, Given s 0x0033 p → u.pldm = false → u.state = 2 → u.component = 0x10 → ∃ t, Ends .updateActivate s t ∧
    t.mg.update.state = 3 ∧ t.fn0.status = 0 ∧ ∀ ch : Ch, s.dev.has ch = true → bit u.mask ch.val = true →
      (t.chan ch).fw = { (s.chan ch).fw with other := .trial } ∧ (t.chan ch).confirmSlot = true) ∧
  (∀ p, Given s 0x0034 p → u.pldm = false → u.state = 4 → u.component = 0x10 → svnHeld s = false →
    ∃ t, Ends .updateCommit s t ∧ t.mg.update = {} ∧ t.fn0.status = 0 ∧ t.mg.chSvn = max s.mg.chSvn (sessionSvn s) ∧
      t.mg.mgSvn = s.mg.mgSvn ∧ ∀ ch : Ch, s.dev.has ch = true → bit u.mask ch.val = true →
        (t.chan ch).fw = { (s.chan ch).fw with active := !(s.chan ch).fw.active, other := .empty }) ∧
  (∀ p, Given s 0x0035 p → u.pldm = false → (u.state = 3 ∨ u.state = 4) → u.component = 0x10 → ∃ t, Ends .updateRevert s t ∧
    t.mg.update.state = 2 ∧ t.fn0.status = 0 ∧ ∀ ch : Ch, s.dev.has ch = true → bit u.mask ch.val = true →
      (t.chan ch).fw = { (s.chan ch).fw with other := .pending }) ∧
  (∀ p, Given s 0x0036 p → u.pldm = false → 1 ≤ u.state → u.state ≤ 5 → u.component = 0x10 → ∃ t, Ends .updateAbort s t ∧
    t.mg.update = {} ∧ t.fn0.status = 0 ∧ ∀ ch : Ch, s.dev.has ch = true → bit u.mask ch.val = true →
      (t.chan ch).fw.other = .empty ∧ (t.chan ch).fw.image (!(s.chan ch).fw.active) = none) ∧
  (∀ p, Given s 0x0037 p → Ends .updateStatus s (answer ([byte u.state, byte (b2n u.pldm)] ++ leBytes 2 u.component ++ leBytes 4 u.mask ++
    leBytes 4 u.length ++ leBytes 4 u.data.length ++ leBytes 4 u.arrived) s)) ∧
  (∀ (n : Core) (h : n.val < 16), let ch : Ch := ⟨n.val, h⟩
    s.dev.has ch = true → (u.state = 3 ∨ u.state = 4) → u.component = 0x10 → bit u.mask n.val = true →
    channelTrialFailed s.dev (s.chan ch) = true → (s.chan ch).state ≠ .fault →
    ∃ t, Ends (.trialBootTimeout n) s t ∧ t.mg.update.state = 5 ∧ (t.chan ch).state = .reset ∧ (t.chan ch).fw.other = .empty ∧
      (t.chan ch).fw.active = (s.chan ch).fw.active ∧ (t.chan ch).jr.lastReset = 1)

/-- R397 to R400: the sensors, telemetry and history. A sample at or beyond a threshold sets WARN, files the crumb and signals.
Covers SENSOR_SAMPLE, TELEMETRY_PUBLISH, SENSOR_HISTORY_APPEND, SENSOR_CONFIG, SENSOR_HISTORY. -/
def Obligations.SensorEvents : Prop := ∀ s : State,
  (∀ values : List Int, mgmtServes s = true → ∃ t, Ends (.sensorSample values) s t ∧ t.chans = s.chans ∧ t.tp = s.tp ∧
    t.mg.sensors.length = s.mg.sensors.length ∧ ∀ (n : Nat) (x : Sensor) (v : Int), s.mg.sensors[n]? = some x → values[n]? = some v →
      ∃ y, t.mg.sensors[n]? = some y ∧ y.sample = v ∧ y.thr = x.thr ∧
        ((v ≤ (x.threshold n).1 ∨ (x.threshold n).2 ≤ v) → y.warn = true)) ∧
  (mgmtServes s = true → ∃ t, Ends .telemetryPublish s t ∧ t.mg.tmSeq = (s.mg.tmSeq + 2) % 2 ^ 32 ∧
    t.mg.record = telemetryRecord ((s.mg.tmSeq + 2) % 2 ^ 32 / 2) s ∧ t.mg.sensors = s.mg.sensors ∧ t.chans = s.chans) ∧
  (mgmtServes s = true → ∃ t, Ends .sensorHistoryAppend s t ∧ t.mg.history.length = (if 255 ≤ s.mg.history.length then 128
      else s.mg.history.length + 1) ∧ (∀ x ∈ t.mg.sensors, x.count = 0) ∧ t.mg.sensors.map (·.sample) = s.mg.sensors.map (·.sample)) ∧
  (∀ p, Given s 0x0010 p → fieldLE p 0 1 < 36 → fieldInt p 4 < fieldInt p 8 → Ends .sensorConfig s (answer [] (onMg (fun m => { m with
    sensors := m.sensors.modify (fieldLE p 0 1) fun x => { x with thr := some (fieldInt p 4, fieldInt p 8) } }) s))) ∧
  (∀ p, Given s 0x0011 p → let got := (s.mg.history.drop (fieldLE p 0 4)).take 7
    Ends .sensorHistory s (answer (leBytes 2 got.length ++ zeros 14 ++ got.flatten) s))

/-- R432 to R455: the tamper monitor. One mismatch of a crust wire is only counted; mismatches of two samples within eight trip the
segment. Covers TAMPER_TRIP, ZEROIZE_DONE, EPISODE_END, CRUST_RESEED, MONITOR_SELF_CHECK, BATTERY_BURST,
TAMPER_STATUS, TAMPER_CHALLENGE, TAMPER_CLEAR, TAMPER_WIDEN, TAMPER_NARROW, TAMPER_MODE, TAMPER_BATT_INTERVAL. -/
def Obligations.TamperEvents : Prop := ∀ s : State,
  (∀ (n j i d k : Nat) (a b a' b' : Bool), s.pw.main = true → s.pw.fallen = false → (hn : n < 16) → (hj : j < 8) → n < s.dev.enabled →
    bit s.tp.live n = false → bit s.tp.policy n = false → s.tp.clearing = 0 → s.cards.session = none → s.mg.update.state = 0 →
    s.tp.missed = [] → let line : Fin 140 := ⟨8 * n + j, by omega⟩
    let carries (step : Nat) : Bool := lineBit s.tp.reseeds line.val (s.tp.samples - s.tp.seedSample + step)
    (a ≠ carries i ∨ b = carries i) →
    (∃ t, Ends (.tamperTrip [.wires line i a b] k) s t ∧ t.tp.sticky = s.tp.sticky ∧ t.tp.tampered = s.tp.tampered ∧ t.chans = s.chans ∧
      t.tp.missed = [(line.val, s.tp.samples + i)] ∧ t.tp.samples = (s.tp.samples + k) % 2 ^ 64) ∧
    ((a' ≠ carries (i + d) ∨ b' = carries (i + d)) → 0 < d → d < 8 →
     ∃ t, Ends (.tamperTrip [.wires line i a b, .wires line (i + d) a' b'] k) s t ∧ t.tp.sticky = setBit s.tp.sticky n true ∧
      t.tp.live = setBit s.tp.live n true ∧
      t.tp.tampered = s.tp.tampered ||| 2 ^ n ∧ t.tp.clearing = 2 ^ n ∧ t.tp.samples = (s.tp.samples + k) % 2 ^ 64 ∧
      ∀ ch : Ch, if ch.val = n then (t.chan ch).state = .reset ∧ (t.chan ch).kek = none ∧ (t.chan ch).shard = {} ∧
          (t.chan ch).jr.entries = [] ∧ (t.chan ch).mem = [] ∧ (t.chan ch).host.fault.getLsbD 5 = true
        else t.chan ch = s.chan ch)) ∧
  (∀ u : Core, Ends (.zeroizeDone u) s { s with tp := { s.tp with clearing := setBit s.tp.clearing u.val false } }) ∧
  (∀ src : Fin 32, bit s.tp.live src.val = true → s.pw.main = true →
    Ends (.episodeEnd src) s (tamperSource 25 { s with tp := { s.tp with live := setBit s.tp.live src.val false } })) ∧
  (s.pw.main = true → Ends .crustReseed s { s with tp := { s.tp with reseeds := s.tp.reseeds + 1, seedSample := s.tp.samples } }) ∧
  (s.pw.main = true → s.pw.fallen = false →
    Ends (.monitorSelfCheck false) s { s with tp := { s.tp with checks := s.tp.checks + 1 } } ∧
    Ends (.monitorSelfCheck true) s (tripSample [(31, 0)] (countSamples 1 s))) ∧
  (∀ met : List TamperSense, s.pw.main = false → s.tp.battery = true → let r := senseBurst met s.tp
    Ends (.batteryBurst met) s (tripSample (r.1.filter fun p => onBattery p.1 p.2 && p.1 != 29) { s with tp := r.2 }) ∧
    r.2.samples = (s.tp.samples + 1) % 2 ^ 64 ∧ r.2.reseeds = s.tp.reseeds + 1) ∧
  (∀ p, Given s 0x0060 p → Ends .tamperStatus s (answer (tamperView s ++ (s.tp.trips.map fun n => leBytes 4 n).flatten) s)) ∧
  (∀ p, Given s 0x0061 p → let r := mgDraw 0 16 s
    Ends .tamperChallenge s (answer (r.1 ++ leBytes 8 Config.serial.toNat ++ leBytes 4 900)
      { r.2 with tp := { s.tp with challenge := some (r.1, s.dev.tick), since := 0 } })) ∧
  (∀ p, Given s 0x0062 p → let a := fieldLE p 0 4; let b := fieldLE p 4 4
    ∃ t, Ends .tamperClear s t ∧
      if authOk 0x11 (p.drop 8) s = true ∧ fieldLE (p.drop 8) 36 4 = a ∧ fieldLE (p.drop 8) 40 4 = b ∧ a &&& s.tp.live = 0 ∧
          a &&& s.tp.since = 0 ∧ b &&& stickyCover s.dev s.tp (without s.tp.sticky a) = 0 then
        t.tp.sticky = without s.tp.sticky a ∧ t.tp.tampered = without s.tp.tampered b ∧ t.tp.challenge = none ∧
        t.tp.live = s.tp.live ∧
        ∀ ch : Ch, s.dev.has ch = true → bit (b &&& s.tp.tampered) ch.val = true → (t.chan ch).state = .reset ∧ (t.chan ch).jr.entries = []
      else t = refuse 0x0B05 s) ∧
  (∀ p, Given s 0x0063 p → let n := s.tp.policy ||| fieldLE p 0 4
    Ends .tamperWiden s (answer [] (tamperSource 27 (tamperCrumb 0x0201 n 0 0 0 { s with tp := { s.tp with policy := n } })))) ∧
  (∀ p, Given s 0x0066 p → ∃ t, Ends .tamperNarrow s t ∧
    if authOk 0x12 (p.drop 4) s = true ∧ fieldLE (p.drop 4) 36 4 = fieldLE p 0 4 then
      t.tp.policy = without s.tp.policy (fieldLE p 0 4) ∧ t.tp.challenge = none ∧ t.tp.sticky = s.tp.sticky ∧ t.chans = s.chans
    else t = refuse 0x0B05 s) ∧
  (∀ p, Given s 0x0064 p → fieldLE p 0 1 = 0 →
    Ends .tamperMode s (answer [] (tamperSource 28 (tamperCrumb 0x0202 0 0 0 0 { s with tp := { s.tp with ship := false } })))) ∧
  (∀ p, Given s 0x0064 p → fieldLE p 0 1 = 1 → ∃ t, Ends .tamperMode s t ∧
    if authOk 0x13 (p.drop 4) s = true then t.tp.ship = true ∧ t.tp.challenge = none ∧ t.mg.kekCopy = s.mg.kek ∧
      ∀ ch, s.dev.has ch = true → (t.chan ch).kekCopy = (s.chan ch).kek
    else t = refuse 0x0B05 s) ∧
  (∀ p, Given s 0x0065 p → fieldLE p 0 1 ≤ 2 → Ends .tamperBattInterval s
    (answer [] (tamperCrumb 0x0204 (fieldLE p 0 1) 0 0 0 { s with tp := { s.tp with interval := fieldLE p 0 1 } })))

/-- R459 to R478: the safety controller. Three entries within an hour latch a channel. Covers SAFETY_REPORT, SAFETY_RESET_TIMEOUT,
SAFETY_EXCHANGE, SF_REPORT, KICK, WATCHDOG_ENABLE, WATCHDOG_EXPIRY, HOUR_COUNT_AGE_OUT. -/
def Obligations.SafetyEvents : Prop := ∀ s : State,
  (∀ (ch : Ch) (m : Byte) (info : Word), s.dev.has ch = true → 1 ≤ m.toNat → m.toNat ≤ 0x0B → (s.chan ch).state = .ready →
    ∃ t, Ends (.safetyReport ch m info none) s t ∧ (t.chan ch).state = .fault ∧ (t.chan ch).sf.mech = m.toNat ∧
      (t.chan ch).sf.info = info.toNat ∧ (t.chan ch).core.halted = true ∧ (t.chan ch).host.fault.getLsbD 4 = true ∧
      (t.chan ch).sf.latched = ((s.chan ch).sf.latched || decide (2 ≤ (s.chan ch).sf.hourCount s.dev.tick)) ∧
      (t.chan ch).jr = (s.chan ch).jr ∧ (t.chan ch).shard = (s.chan ch).shard) ∧
  (∀ ch : Ch, s.dev.has ch = true → (s.chan ch).state = .fault → (s.chan ch).sf.latched = false →
    (s.chan ch).sf.faultTick + 10 ≤ s.dev.tick → ∃ t, Ends (.safetyResetTimeout ch) s t ∧ (t.chan ch).state = .reset ∧
      (t.chan ch).jr.lastReset = 3 ∧ (t.chan ch).jr.entries.map (·.serial) = (s.chan ch).jr.entries.map (·.serial)) ∧
  (∀ r : Fin 3, r ≠ 0 → s.pw.main = true → s.dev.deviceSafe = false → ∃ t, Ends (.safetyExchange r) s t ∧
    t.dev.deviceSafe = true ∧ ∀ ch, s.dev.has ch = true → (t.chan ch).state = .fault ∧ (t.chan ch).sf.latched = true ∧
      (t.chan ch).core.halted = true) ∧
  Ends (.safetyExchange 0) s s ∧
  (∀ (ch : Ch) (v : Word), s.dev.has ch = true → v.toNat % 256 = 0x0B → (s.chan ch).state = .ready →
    ∃ t, Ends (.sfReport ch v) s t ∧ (t.chan ch).state = .fault ∧ (t.chan ch).sf.mech = 0x0B ∧ (t.chan ch).sf.info = v.toNat / 256) ∧
  (∀ ch : Ch, s.dev.has ch = true →
    Ends (.kick ch) s (setChan s ch { s.chan ch with sf := { (s.chan ch).sf with wdogTick := s.dev.tick } })) ∧
  (∀ ch : Ch, s.dev.has ch = true → Ends (.watchdogEnable ch) s (setChan s ch { s.chan ch with sf := { (s.chan ch).sf with
    wdogEn := true, wdogTick := if (s.chan ch).sf.wdogEn then (s.chan ch).sf.wdogTick else s.dev.tick } })) ∧
  (∀ ch : Ch, s.dev.has ch = true → (s.chan ch).sf.wdogEn = true → (s.chan ch).sf.wdogTick + 20 ≤ s.dev.tick →
    (s.chan ch).state = .ready → ∃ t, Ends (.watchdogExpiry ch) s t ∧ (t.chan ch).state = .fault ∧ (t.chan ch).sf.mech = 0x0A ∧
      (t.chan ch).sf.wdogTick = s.dev.tick) ∧
  (∀ ch : Ch, s.dev.has ch = true → Ends (.hourCountAgeOut ch) s (setChan s ch { s.chan ch with sf := { (s.chan ch).sf with
    entries := (s.chan ch).sf.entries.filter fun t => decide (s.dev.tick ≤ t + 3600000) } }))

/-- R59, R191, R462 to R476: the rolling self-test, which waits for the public-key engine to drain, and the safety commands. Covers BIST_NOTICE_START, BIST_CYCLE, BIST_CYCLE_DONE, SAFETY_STATUS,
SAFETY_RELEASE, BIST_SCHEDULE, BIST_DEFER, BIST_NOW, MBIST_RESULTS. -/
def Obligations.SelfTests : Prop := ∀ s : State,
  (∀ ch : Ch, s.dev.has ch = true → (∀ a : Ch, (s.chan a).notice = false ∧ (s.chan a).state ≠ .bist) →
    bistDue ch s.dev (s.chan ch).sf ≤ s.dev.tick → (s.chan ch).state = .ready → ∃ t, Ends (.bistNoticeStart ch) s t ∧
      (t.chan ch).notice = true ∧ (t.chan ch).sf.noticeTick = s.dev.tick ∧ (t.chan ch).sf.bistNext = s.dev.tick + 28800000 ∧
      (t.chan ch).host.irqStat.getLsbD 9 = true ∧ (t.chan ch).state = .ready) ∧
  (∀ ch : Ch, s.dev.has ch = true → (s.chan ch).notice = true → (s.chan ch).sf.noticeTick + 500 ≤ s.dev.tick →
    (s.chan ch).state = .ready → (s.chan ch).pke.running = none → (s.chan ch).pke.queue = [] →
    Ends (.bistCycle ch) s (setChan s ch (raiseSource 8 { s.chan ch with notice := false, state := .bist }))) ∧
  (∀ ch : Ch, s.dev.has ch = true → ((s.chan ch).pke.running.isSome = true ∨ (s.chan ch).pke.queue ≠ []) →
    Gives (.bistCycle ch) s ch fun c => c = s.chan ch) ∧
  (∀ ch : Ch, s.dev.has ch = true → (s.chan ch).state = .bist → ∃ t, Ends (.bistCycleDone ch none none []) s t ∧
    (t.chan ch).state = .reset ∧ (t.chan ch).jr.lastReset = 4 ∧ (t.chan ch).sf.mbDone = true ∧ (t.chan ch).sf.mbFail = false ∧
    (t.chan ch).jr.entries.map (·.serial) = (s.chan ch).jr.entries.map (·.serial)) ∧
  (∀ (ch : Ch) (lo hi : Nat), s.dev.has ch = true → (s.chan ch).state = .bist → ∃ t, Ends (.bistCycleDone ch (some (lo, hi)) none []) s t ∧
    (t.chan ch).state = .fault ∧ (t.chan ch).sf.latched = true ∧ (t.chan ch).sf.mech = 0x0C) ∧
  (∀ p, Given s 0x0070 p → Ends .safetyStatus s (answer ((s.chans.toList.map fun c =>
    leBytes 4 (sfStat s.dev c.sf) ++ leBytes 4 (sfMech c.sf) ++ leBytes 4 c.sf.info ++ leBytes 4 c.sf.tag).flatten ++
    leBytes 4 (b2n (safeAsserted s) + 2 * b2n (faultAsserted s))) s)) ∧
  (∀ p, Given s 0x0071 p → s.dev.deviceSafe = false →
    (∀ ch : Ch, bit (fieldLE p 0 2) ch.val = true → (s.chan ch).sf.mbUnrepairable = false) →
    ∃ t, Ends .safetyRelease s t ∧ t.fn0.status = 0 ∧ ∀ ch : Ch, bit (fieldLE p 0 2) ch.val = true → s.dev.has ch = true →
      (t.chan ch).sf.latched = false ∧ (t.chan ch).sf.entries = [] ∧
      (t.chan ch).state = if (s.chan ch).sf.latched then .reset else (s.chan ch).state) ∧
  (∀ p, Given s 0x0072 p → Ends .bistSchedule s (answer (((List.finRange 16).map fun ch =>
    leBytes 4 (bistAge s.dev (s.chan ch).sf) ++ leBytes 4 (bistSeconds ch s.dev (s.chan ch).sf)).flatten) s)) ∧
  (∀ (p : Bytes) (ch : Ch), Given s 0x0073 p → fieldLE p 0 1 = ch.val → s.dev.has ch = true →
    let due := bistDue ch s.dev (s.chan ch).sf + 1000 * fieldLE p 4 4
    due ≤ (s.chan ch).sf.bistTick + 28800000 - 540 → ∃ t, Ends .bistDefer s t ∧ t.fn0.status = 0 ∧
      t.chan ch = { s.chan ch with sf := { (s.chan ch).sf with bistNext := due } }) ∧
  (∀ (p : Bytes) (ch : Ch), Given s 0x0074 p → fieldLE p 0 1 = ch.val → s.dev.has ch = true → (s.chan ch).notice = false →
    (s.chan ch).state = .ready → ∃ t, Ends .bistNow s t ∧ t.fn0.status = 0 ∧ (t.chan ch).notice = true ∧
      (t.chan ch).sf.noticeTick = s.dev.tick) ∧
  (∀ (p : Bytes) (ch : Ch), Given s 0x0075 p → fieldLE p 0 1 = ch.val → s.dev.has ch = true → let f := (s.chan ch).sf
    (bit s.mg.incompat ch.val = true → Ends .mbistResults s (refuse 0x0A02 s)) ∧
    (bit s.mg.incompat ch.val = false → Ends .mbistResults s (answer ((leBytes 4 (sfMbResult f) ++ leBytes 4 f.mbAddr ++ leBytes 4 f.mbBit ++ leBytes 4 (sfSpares f) ++
      leBytes 4 (f.spares.getD 8 0) ++ (f.repairs.map Repair.toBytes).flatten).take 4080) s)))

/-- R20, R417 to R431: crumbs on their way to the logs. Covers EVENT_PORT_CRUMB, EVENT_PORT_DELIVER, AON_QUEUE_DELIVER, CRUMB_ACCEPT,
SEGMENT_FLUSH_TIMEOUT, CLASS_TOKEN_REFILL, OPERATING_SECOND, COUNTER_COPY. -/
def Obligations.CrumbFlow : Prop := ∀ s : State,
  (∀ (ch : Ch) (code : Half) (a b c d : Word), s.dev.has ch = true → let p := (s.chan ch).port
    (p.held.length < 32 → Ends (.eventPortCrumb ch code a b c d) s (setChan s ch { s.chan ch with port := { p with
      held := p.held ++ [⟨code.toNat, ch.val, s.dev.seconds, s.dev.cycles, a.toNat, b.toNat, c.toNat, d.toNat⟩] } })) ∧
    (32 ≤ p.held.length → Ends (.eventPortCrumb ch code a b c d) s
      (setChan s ch (raiseSource 19 { s.chan ch with port := { p with drops := p.drops + 1 } })))) ∧
  (∀ ch : Ch, s.dev.has ch = true → mgmtServes s = true → bit s.mg.incompat ch.val = false → let p := (s.chan ch).port
    ∃ t, Ends (.eventPortDeliver ch) s t ∧ t.chan ch = { s.chan ch with port := {} } ∧ t.log.inbox = s.log.inbox ++ p.held ++
      (if p.drops = 0 then [] else [⟨0x0C02, ch.val, s.dev.seconds, s.dev.cycles, ch.val, p.drops, 0, 0⟩])) ∧
  (mgmtServes s = true → ∃ t, Ends .aonQueueDeliver s t ∧ t.aon = {} ∧ t.chans = s.chans ∧ t.log.inbox = s.log.inbox ++ s.aon.held ++
    (if s.aon.drops = 0 then [] else [⟨0x0C07, 0x19, s.dev.seconds, s.dev.cycles, s.aon.drops, 0, 0, 0⟩])) ∧
  (∀ (x : Crumb) (rest : List Crumb) (k : ClassBucket), mgmtServes s = true → s.log.inbox = x :: rest →
    classBucket s (crumbClass x.code) = some k →
    (k.tokens = 0 → ∃ t, Ends .crumbAccept s t ∧ t.log.inbox = rest ∧ t.log.rolling = s.log.rolling ∧ t.log.pinned = s.log.pinned ∧
      t.log.suppressed = min (s.log.suppressed + 1) 0xFFFFFFFF) ∧
    (0 < k.tokens → 5 < crumbClass x.code → s.log.rolling.frozen = false → s.log.rolling.draining = false →
      s.log.rolling.pending.length < 3 → ∃ t, Ends .crumbAccept s t ∧ t.log.inbox = rest ∧
        t.log.rolling.pending = s.log.rolling.pending ++ [x.toBytes k.suppressed] ∧ t.log.pinned = s.log.pinned) ∧
    (0 < k.tokens → crumbClass x.code ≤ 5 → s.log.rolling.frozen = true → s.log.rolling.held.length < 64 →
      s.log.pinned.frozen = false → s.log.pinned.draining = false → s.log.pinned.full = false →
      ∃ t, Ends .crumbAccept s t ∧ t.log.inbox = rest ∧ t.log.pinned.pending = [] ∧
        t.log.rolling.held = s.log.rolling.held ++ [(true, x.toBytes k.suppressed)])) ∧
  (mgmtServes s = true → s.log.rolling.stale s.dev.tick = true → s.log.rolling.frozen = false → s.log.pinned.pending = [] →
    ∃ t, Ends .segmentFlushTimeout s t ∧ t.log.rolling.pending = [] ∧ t.log.pinned = s.log.pinned ∧
      t.log.rolling.next = s.log.rolling.next + (if s.log.rolling.next % 2048 = 0 then 8 else 4)) ∧
  (∀ n : Nat, Ends (.classTokenRefill n) s (onClass n (fun k => { k with tokens := min (k.tokens + 1) k.cap }) s)) ∧
  (s.pw.main = true → Ends .operatingSecond s { s with dev := { s.dev with seconds := (s.dev.seconds + 1) % 2 ^ 32 } }) ∧
  (mgmtServes s = true →
    Ends .counterCopy s (onMg (fun m => { m with copy := some (s.dev.seconds, s.dev.cycles, s.dev.tick) }) s))

/-- R424 to R430: the recorder's registers and commands. Covers FREEZE, UNFREEZE, FREEZE_EXPIRY, EV_LOG_SELECT, EV_DATA_READ, CLASS_GET,
CLASS_SET, LOG_READ, STATS, PINNED_CLEAR. -/
def Obligations.RecorderCommands : Prop := ∀ s : State,
  (∀ v : Word, mgmtServes s = true → v.getLsbD 2 = false → (s.logOf (v.getLsbD 0)).draining = false →
    ∃ t, Ends (.freeze v) s t ∧ t.log.logSel = v.getLsbD 0 ∧ (t.logOf (v.getLsbD 0)).frozen = true ∧
      (t.logOf (v.getLsbD 0)).slots = (s.logOf (v.getLsbD 0)).slots ∧ t.logOf (!v.getLsbD 0) = s.logOf (!v.getLsbD 0)) ∧
  (∀ v : Word, mgmtServes s = true → v.getLsbD 1 = false → (s.logOf (v.getLsbD 0)).frozen = true →
    ∃ t, Ends (.unfreeze v) s t ∧ t.log.logSel = v.getLsbD 0 ∧ (t.logOf (v.getLsbD 0)).frozen = false ∧
      (t.logOf (v.getLsbD 0)).held = []) ∧
  (mgmtServes s = true → s.log.rolling.frozen = true → s.log.rolling.freezeTick + 10000 ≤ s.dev.tick →
    ∃ t, Ends .freezeExpiry s t ∧ t.log.rolling.frozen = false ∧ t.log.rolling.expired = true ∧ t.log.rolling.held = []) ∧
  (∀ v : Word, mgmtServes s = true → v.getLsbD 1 = false → v.getLsbD 2 = false →
    Ends (.evLogSelect v) s { s with log := { s.log with
      logSel := v.getLsbD 0, irqNew := v.getLsbD 3
      cursor := if v.getLsbD 0 = s.log.logSel then s.log.cursor else (s.logOf (v.getLsbD 0)).oldest } }) ∧
  (mgmtServes s = true → let l := s.logOf s.log.logSel
    l.oldest ≤ s.log.cursor → s.log.cursor < l.next → Ends (.evDataRead 7) s { s with log := { s.log with
      cursor := match l.from (s.log.cursor + 1) with | p :: _ => p.1 | [] => l.next } }) ∧
  (∀ w : Fin 8, mgmtServes s = true → w ≠ 7 → s.log.cursor < (s.logOf s.log.logSel).oldest → Ends (.evDataRead w) s
    { s with log := { s.log with cursor := (s.logOf s.log.logSel).oldest, overrun := true } }) ∧
  (∀ (p : Bytes) (k : ClassBucket), Given s 0x0050 p → classBucket s (fieldLE p 0 1) = some k → Ends .classGet s
    (answer ([byte (fieldLE p 0 1)] ++ zeros 3 ++ leBytes 4 k.cap ++ leBytes 4 k.period ++ leBytes 4 k.tokens ++ leBytes 4 k.total) s)) ∧
  (∀ p : Bytes, Given s 0x0051 p → let cls := fieldLE p 0 1; let cap := fieldLE p 4 4; let per := fieldLE p 8 4
    (classBucket s cls).isSome = true → 1 ≤ cap → cap ≤ 255 → 1 ≤ per → per ≤ 86400 → (cls ≤ 5 → per ≤ 300) →
    periodsOk (per :: (s.log.classes.filter fun x => x.1 != cls).map (·.2.period)) = true →
    Ends .classSet s (answer [] (onClass cls (fun k => { k with cap := cap, period := per, tokens := min k.tokens cap }) s))) ∧
  (∀ p : Bytes, Given s 0x0052 p → fieldLE p 0 1 ≤ 1 → 1 ≤ fieldLE p 8 2 → fieldLE p 8 2 ≤ 127 →
    let l := s.logOf (fieldLE p 0 1 == 1); let got := (l.from (max (fieldLE p 4 4) l.oldest)).take (fieldLE p 8 2)
    ∃ head, Ends .logRead s (answer (head ++ (got.map (·.2)).flatten) s) ∧ head.length = 16 ∧
      head.take 2 = leBytes 2 got.length) ∧
  (∀ p, Given s 0x0053 p → Ends .stats s (answer (evWindow s) s)) ∧
  (∀ p, Given s 0x0054 p → ∃ t, Ends .pinnedClear s t ∧
    if authOk 0x14 p s then t.mg.auth = none ∧ t.log.rolling = s.log.rolling ∧
      (s.log.pinned.frozen = false → s.log.pinned.draining = false → t.log.pinned.oldest = roundUp s.log.pinned.next 2048)
    else t = refuse 0x0B05 s)

/-- R398, R401 to R403: the sideband's packets and MCTP control. The packet formats are presumed from DSP0236. Covers SMBUS_RETRY,
SMBUS_PACKET_RECEIVE, SMBUS_TIMEOUT, SET_ENDPOINT_ID, GET_ENDPOINT_ID, GET_ENDPOINT_UUID, GET_MCTP_VERSION_SUPPORT,
GET_MESSAGE_TYPE_SUPPORT. -/
def Obligations.SidebandMctp : Prop := ∀ s : State,
  (∀ m : SideMsg, mgmtServes s = true → (s.mg.side.out.reverse.find? fun m => !m.vdm) = some m →
    (s.mg.side.retries + 1 < 3 → Ends .smbusRetry s (onSide (fun d => { d with retries := d.retries + 1 }) s)) ∧
    (3 ≤ s.mg.side.retries + 1 → ∃ t, Ends .smbusRetry s t ∧ t.mg.side.retries = 0 ∧
      t.mg.side.failures = s.mg.side.failures + 1 ∧ t.mg.side.out.length + 1 = s.mg.side.out.length)) ∧
  (∀ (a : Byte) (p : Bytes), mgmtServes s = true → fieldLE p 0 1 % 16 = 1 → fieldLE p 1 1 = s.mg.side.eid → 5 ≤ p.length →
    p.length ≤ 68 → bit (fieldLE p 3 1) 7 = true → bit (fieldLE p 3 1) 6 = true →
    let x : SideMsg := { vdm := false, addr := a.toNat, eid := fieldLE p 2 1, tag := fieldLE p 3 1 % 16, seq := bits (fieldLE p 3 1) 5 4, bytes := p.drop 4 }
    Ends (.smbusPacketReceive false a true p) s
      (messageReceived x (onSide (fun d => { d with building := d.building.filter fun m => !m.sameFlow x }) (raiseMg 5 s)))) ∧
  (∀ (a : Byte) (p : Bytes), Ends (.smbusPacketReceive false a false p) s s) ∧
  Ends .smbusTimeout s (onSide (fun d => { d with building := d.building.filter fun m => m.vdm }) s) ∧
  (∀ m : SideMsg, Asked s m (.control 1) → let p := m.payload
    fieldLE p 0 1 % 4 < 2 → 1 ≤ fieldLE p 1 1 → fieldLE p 1 1 < 255 → Ends .setEndpointId s
      (sendSide (m.reply 0 [0, byte (fieldLE p 1 1), 0]) (onSide (fun d => { d with eid := fieldLE p 1 1 }) (taken s)))) ∧
  (∀ m : SideMsg, Asked s m (.control 2) → Ends .getEndpointId s (sendSide (m.reply 0 [byte s.mg.side.eid, 0, 0]) (taken s))) ∧
  (∀ m : SideMsg, Asked s m (.control 3) →
    Ends .getEndpointUuid s (sendSide (m.reply 0 (zeros 8 ++ beBytes 8 Config.serial.toNat)) (taken s))) ∧
  (∀ m : SideMsg, Asked s m (.control 4) →
    (fieldLE m.payload 0 1 = 255 → Ends .getMctpVersionSupport s (sendSide (m.reply 0 [1, 0xF1, 0xF3, 0xF1, 0]) (taken s))) ∧
    (fieldLE m.payload 0 1 = 1 → Ends .getMctpVersionSupport s (sendSide (m.reply 0 [1, 0xF1, 0xF0, 0xF0, 0]) (taken s)))) ∧
  (∀ m : SideMsg, Asked s m (.control 5) → Ends .getMessageTypeSupport s (sendSide (m.reply 0 [1, 1]) (taken s)))

/-- R401, R410, R411: PLDM base, monitoring and update. The formats are presumed from DSP0240, DSP0248 and DSP0267. Covers GETTID,
SETTID, GETPLDMVERSION, GETPLDMTYPES, GETPLDMCOMMANDS, GETSENSORREADING, GETSTATESENSORREADINGS, GETPDRREPOSITORYINFO, GETPDR,
QUERYDEVICEIDENTIFIERS, GETFIRMWAREPARAMETERS, REQUESTUPDATE, PASSCOMPONENTTABLE, UPDATECOMPONENT, REQUESTFIRMWAREDATA,
ACTIVATEFIRMWARE, GETSTATUS, CANCELUPDATECOMPONENT, CANCELUPDATE. -/
def Obligations.SidebandPldm : Prop := ∀ (s : State) (m : SideMsg),
  let p := m.payload
  let u := s.mg.update
  (∀ r ∈ [(Instr.gettid, SideCmd.pldm 0 2, (0, [byte s.mg.side.tid])), (.getpldmtypes, .pldm 0 4, (0, bitmap 8 [0, 2, 5])),
      (.getstatesensorreadings, .pldm 2 0x21, stateReading p s), (.getpdrrepositoryinfo, .pldm 2 0x50, pdrInfo p s),
      (.getpdr, .pldm 2 0x51, getPdr p s), (.querydeviceidentifiers, .pldm 5 1, deviceIdentifiers p s),
      (.getfirmwareparameters, .pldm 5 2, firmwareParameters p s), (.getstatus, .pldm 5 0x1B, getStatus p s)],
    Asked s m r.2.1 → Ends r.1 s (sendSide (m.reply r.2.2.1 r.2.2.2) (taken s))) ∧
  (Asked s m (.pldm 0 1) → 1 ≤ fieldLE p 0 1 → fieldLE p 0 1 < 255 →
    Ends .settid s (sendSide (m.reply 0 []) (onSide (fun d => { d with tid := fieldLE p 0 1 }) (taken s)))) ∧
  (Asked s m (.pldm 0 3) → fieldLE p 5 1 ∈ pldmTypes → Ends .getpldmversion s
    (sendSide (m.reply 0 (zeros 4 ++ [5] ++ [0, 0xF0, 0xF0, 0xF1] ++ leBytes 4 (crc32 [0, 0xF0, 0xF0, 0xF1]))) (taken s))) ∧
  (Asked s m (.pldm 0 5) → fieldLE p 0 1 ∈ pldmTypes →
    Ends .getpldmcommands s (sendSide (m.reply 0 (bitmap 32 (pldmCommands (fieldLE p 0 1)))) (taken s))) ∧
  (∀ x : Sensor, Asked s m (.pldm 2 0x11) → 1 ≤ fieldLE p 0 2 → s.mg.sensors[fieldLE p 0 2 - 1]? = some x →
    ∃ t, Ends .getsensorreading s t ∧ t.mg.sensors = s.mg.sensors ∧ t.mg.side.out = s.mg.side.out ++
      [m.reply 0 ([5, 0, 0, byte x.pldm, byte x.pldmPrev, byte x.pldm] ++ leInt 4 x.sample)]) ∧
  (Asked s m (.pldm 5 0x10) → u.pldm = false → (u.state = 0 ∨ u.state = 5) → 256 ≤ fieldLE p 0 4 →
    ∃ t, Ends .requestupdate s t ∧ t.mg.update.pldm = true ∧ t.mg.update.pldmState = 1 ∧
      t.mg.update.maxTransfer = min 1024 (fieldLE p 0 4) ∧ t.mg.update.agent = (m.vdm, m.addr, m.eid) ∧ t.chans = s.chans) ∧
  (Asked s m (.pldm 5 0x13) → u.pldm = true → u.pldmState = 1 → (fieldLE p 0 1 = 4 ∨ fieldLE p 0 1 = 5) →
    ∃ t, Ends .passcomponenttable s t ∧ t.mg.update = { u with pldmState := 2, pldmPrev := 1 } ∧ t.chans = s.chans) ∧
  (Asked s m (.pldm 5 0x14) → u.pldm = true → u.pldmState = 2 → u.state = 0 → s.mg.romOnly = false → fieldLE p 2 2 = 1 →
    352 ≤ fieldLE p 9 4 → fieldLE p 9 4 ≤ 262144 → s.mgu.nv.occupied = false → ∃ t, Ends .updatecomponent s t ∧ t.mg.update.state = 1 ∧
      t.mg.update.pldmState = 3 ∧ t.mg.update.component = 1 ∧ t.mg.update.length = fieldLE p 9 4 ∧
      t.mg.fw.image (!s.mg.fw.active) = none) ∧
  (∀ b : Bytes, mgmtServes s = true → u.pldm = true → u.pldmState = 3 → u.state = 1 → u.component = 1 →
    b.length = min u.maxTransfer (u.length - u.data.length) → u.data.length + b.length ≠ u.length → s.mgu.nv.occupied = false →
    ∃ t, Ends (.requestfirmwaredata (some b)) s t ∧ t.mg.update = { u with data := u.data ++ b } ∧
      t.mg.side.out.length = s.mg.side.out.length + 1) ∧
  (∀ r, mgmtServes s = true → u.pldm = true → u.pldmState = 3 → u.state = 1 → portsWait u.component u.mask s = true →
    Ends (.requestfirmwaredata r) s (portWaits u.component u.mask s)) ∧
  (Asked s m (.pldm 5 0x1A) → u.pldm = true → u.pldmState = 2 → u.state = 2 → u.component = 0x10 →
    ∃ t, Ends .activatefirmware s t ∧ t.mg.update.state = 3 ∧ t.mg.update.pldm = false ∧ ∀ ch : Ch, s.dev.has ch = true → bit u.mask ch.val = true →
      (t.chan ch).fw.other = .trial ∧ (t.chan ch).confirmSlot = true) ∧
  (Asked s m (.pldm 5 0x1C) → u.pldm = true → (u.pldmState = 3 ∨ u.pldmState = 4 ∨ u.pldmState = 5) →
    ∃ t, Ends .cancelupdatecomponent s t ∧ t.mg.update.state = 0 ∧ t.mg.update.pldm = true ∧ t.mg.update.pldmState = 2 ∧
      t.mg.update.data = []) ∧
  (Asked s m (.pldm 5 0x1D) → u.pldm = true → 1 ≤ u.pldmState → u.pldmState ≤ 6 →
    ∃ t, Ends .cancelupdate s t ∧ t.mg.update.state = 0 ∧ t.mg.update.pldm = false ∧ t.mg.update.data = [])

/-- R491 to R496, R512 to R515: the tag's field, inventory and transit samples. Covers FIELD_ON, FIELD_LOSS, FD_WAKE_RELEASE, INVENTORY,
NEXT_SLOT, ACK, NAK, HALT, TAG_GET_INFO, TAG_DEFERRED_REPLY, TRANSIT_SAMPLE. -/
def Obligations.TagInventory : Prop := ∀ s : State,
  let t := s.nf
  (t.field = false → ∃ n, Ends .fieldOn s n ∧ n.nf.field = true ∧ n.nf.st = .idle ∧ n.nf.session = none ∧ n.nf.wake = true ∧
    n.nf.count.inv = (t.count.inv + 1) % 2 ^ 16 ∧ n.nf.issued = t.count.nonce ∧ n.nf.count.nonce = t.count.nonce + 256 ∧
    n.nf.lfsr = (let seed := crc16 (tagUid ++ leBytes 2 n.nf.count.inv); if seed = 0 then 0xACE1 else seed) ∧ n.chans = s.chans) ∧
  (t.field = true → ∃ n, Ends .fieldLoss s n ∧ n.nf.field = false ∧ n.nf.st = .idle ∧ n.nf.session = none ∧ n.nf.reply = none ∧
    n.nf.notes = t.notes ∧ n.nf.count = t.count) ∧
  (t.field = false → Ends .fdWakeRelease s { s with nf := { t with wake := false } }) ∧
  (∀ f b : Bytes, Hears s 0x01 f b → b.length = 1 → fieldLE b 0 1 % 16 ≤ 8 → fieldLE b 0 1 < 32 → t.held = false →
    (t.st = .halted → bit (fieldLE b 0 1) 4 = true) →
    Ends (.inventory f) s { s with nf := slotReply (drawSlot (fieldLE b 0 1 % 16) t) }) ∧
  (∀ f b : Bytes, Hears s 0x02 f b → t.st = .ready → t.slot ≠ 0 →
    Ends (.nextSlot f) s { s with nf := slotReply { t with slot := t.slot - 1 } }) ∧
  (∀ f b : Bytes, Hears s 0x03 f b → t.st = .ready → t.replied = true → b.length = 2 → fieldLE b 0 2 = t.handle →
    Ends (.ack f) s
      { s with nf := replyNow (t.handleBytes ++ tagUid ++ leBytes 2 0x0880) { t with st := .active, replied := false } }) ∧
  (∀ f b : Bytes, Hears s 0x04 f b → t.st = .ready → Ends (.nak f) s { s with nf := { t with replied := false } }) ∧
  (∀ f b : Bytes, HearsOwn s 0x05 f b → Ends (.halt f) s
    { s with nf := replyNow (t.handleBytes ++ [0]) { t with auth := none, st := .halted, session := none } }) ∧
  (∀ f b : Bytes, HearsOwn s 0x06 f b → Ends (.tagGetInfo f) s { s with nf := replyNow (tagInfo s) { t with auth := none } }) ∧
  (∀ r : Bytes × Nat, t.reply = some r → Ends .tagDeferredReply s { s with nf := { t with sent := r.1, reply := none } }) ∧
  (∀ (temp : Nat) (low : Bool), s.pw.main = false → s.tp.battery = true → ∃ n, Ends (.transitSample temp low) s n ∧
    n.nf.writeIx = (t.writeIx + 1) % 4096 ∧ n.nf.lastTick = s.dev.tick ∧ n.nf.runStart = false ∧ n.nf.tripped = false ∧
    n.nf.ring = ringSet t.writeIx (temp % 2048 + 2048 * b2n t.runStart + 4096 * b2n t.tripped + 8192 * b2n low) t.ring ∧
    n.nf.count = t.count)

/-- R494, R498 to R502, R511: the tag's authentication, DT access and NF registers. A failed AUTH_FINISH or DT_ACCESS is counted. Covers
AUTH_START, AUTH_FINISH, DT_SELECT, DT_ACCESS, DT_READ, NF_MEM_DATA_ACCESS, NF_STATUS, NF_NOTES_READ, NF_TRANSIT_READ, NF_SET_PASSWORD. -/
def Obligations.TagAccess : Prop := ∀ s : State,
  let t := s.nf
  let q : Tag := { t with auth := none }
  (∀ f b kn kt : Bytes, HearsOwn s 0x10 f b → t.st = .active → b.length = 16 → keyOk s = true → t.kt = some kt → t.kn = some kn →
    t.issued < t.count.nonce → let rt := aesEncrypt kn (leBytes 16 t.issued)
    let answered := replyBy (1000 + 50000 * min t.count.authFails 40)
      (t.handleBytes ++ rt ++ (cmac kt ([0x01] ++ tagUid ++ b ++ rt)).take 8) { t with issued := t.issued + 1, auth := some (b, rt) }
    Ends (.authStart f) s { s with nf := answered }) ∧
  (∀ f b kt rr rt : Bytes, HearsOwn s 0x11 f b → t.st = .active → b.length = 8 → keyOk s = true → t.kt = some kt →
    t.auth = some (rr, rt) → ∃ n, Ends (.authFinish f) s n ∧ n.nf.auth = none ∧
      if b = (cmac kt ([0x02] ++ tagUid ++ rt ++ rr)).take 8 then
        n.nf.session = some { kenc := cmac kt ([0x03] ++ rr ++ rt), kmac := cmac kt ([0x04] ++ rr ++ rt) } ∧
        n.nf.count.authFails = 0 ∧ n.nf.count.authTotal = (t.count.authTotal + 1) % 2 ^ 32
      else n.nf.session = none ∧ n.nf.count.authFails = min (t.count.authFails + 1) 0xFFFF ∧
        n.nf.count.authTotal = t.count.authTotal) ∧
  (∀ f b : Bytes, HearsOwn s 0x40 f b → t.st = .active → Ends (.dtSelect f) s
    { s with nf := replyNow (t.handleBytes ++ [if t.password = 0 then 1 else 0])
               { q with st := if t.password = 0 then .secured else .opened, session := none } }) ∧
  (∀ f b : Bytes, HearsOwn s 0x41 f b → t.st = .opened → b.length = 4 → ∃ n, Ends (.dtAccess f) s n ∧
    if fieldLE b 0 4 = t.password then n.nf.st = .secured ∧ n.nf.count.dtFails = 0
    else n.nf.st = .opened ∧ n.nf.count.dtFails = min (t.count.dtFails + 1) 0xFFFF) ∧
  (∀ f b : Bytes, HearsOwn s 0x42 f b → (t.st = .opened ∨ t.st = .secured) → b.length = 3 → 1 ≤ fieldLE b 2 1 → fieldLE b 2 1 ≤ 4 →
    let blocks := (List.range (fieldLE b 2 1)).map fun j => fieldLE b 0 2 + j
    blocks.all (dtAllowed t.st) = true →
    Ends (.dtRead f) s { s with nf := replyBy 1000 (t.handleBytes ++ (blocks.map (dtBlock s)).flatten) q }) ∧
  (mgmtRuns s = true → Ends (.nfMemDataAccess none) s { s with nf := { t with memAddr := (t.memAddr + 1) % 1024 } } ∧
    ∀ v : Word, Ends (.nfMemDataAccess (some v)) s
      { s with nf := { tagMemWrite (4 * t.memAddr) v t with memAddr := (t.memAddr + 1) % 1024 } }) ∧
  (∀ p, Given s 0x0080 p → Ends .nfStatus s (answer (leBytes 4 (nfStat s) ++ t.count.toBytes ++ tagUid) s)) ∧
  (∀ p, Given s 0x0081 p → 1 ≤ fieldLE p 1 1 → fieldLE p 0 1 + fieldLE p 1 1 ≤ 28 →
    Ends .nfNotesRead s (answer (((t.notes.drop (fieldLE p 0 1)).take (fieldLE p 1 1)).map (padTo 128)).flatten s)) ∧
  (∀ p, Given s 0x0082 p → fieldLE p 0 2 ≤ 4095 → fieldLE p 2 2 ≤ 1024 →
    Ends .nfTransitRead s (answer (transitData (fieldLE p 0 2) (fieldLE p 2 2) s) s)) ∧
  (∀ p, Given s 0x0083 p → ∃ n, Ends .nfSetPassword s n ∧ n.nf.password = fieldLE p 0 4 ∧ n.nf.count.dtFails = 0 ∧
    n.nf.count.authFails = t.count.authFails ∧ n.fn0.status = 0)

/-- R503 to R509: the commands of a secure session. Each is answered under the session's CTR, which goes on by one; a frame whose MAC
fails ends the session. Covers READ_LOG, READ_TRANSIT, READ_TAMPER, READ_NOTE, WRITE_NOTE, READ_IDENTITY, END_SESSION. -/
def Obligations.TagSecureCommands : Prop := ∀ (s : State) (f p : Bytes) (k : TagSession) (strong : Bool) (bad : Option Bytes),
  let n := inSession s k
  (∀ r ∈ [(Instr.readLog f strong, 0x21, 2000, readLog strong p n), (.readTransit f, 0x22, 1000, readTransit p n),
      (.readTamper f, 0x23, 500, readTamper p n), (.readNote f, 0x24, 1000, readNote p n),
      (.writeNote f strong bad, 0x25, 30000, writeNote strong bad p n),
      (.readIdentity f, 0x26, 500, ([0] ++ padTo 64 s.nf.identity, n)), (.endSession f, 0x27, 91, endSession p n)],
    HearsSecure s f k r.2.1 p → Ends r.1 s (onTag (secureReply r.2.2.1 k.ctr k r.2.2.2.1) r.2.2.2.2)) ∧
  (∀ kt, s.nf.kt = some kt → p.length = 80 → let t := (writeNote true none p n).2
    let slot := ((newestNote s.nf).map fun j => (j + 1) % 28).getD 0
    t.nf.notes = s.nf.notes.set slot (noteBytes kt p ((s.nf.count.noteSeq + 1) % 2 ^ 32) s ++ [0xA5]) ∧
    t.nf.count.noteSeq = (s.nf.count.noteSeq + 1) % 2 ^ 32 ∧ t.chans = s.chans) ∧
  (∀ b, HearsOwn s 0x20 f b → s.nf.st = .active → s.nf.session = some k → 13 ≤ b.length → fieldLE b 0 4 ≠ k.ctr →
    Ends (.readTamper f) s { s with nf := { s.nf with auth := none, session := none } })

/-- R518 to R527: the card slots. Covers SD_CARD_DETECT, SD_TRANSFER_DONE, SD_RETUNE, SC_INSERT, SC_REMOVE, SC_ATR_TIMEOUT,
SC_BLOCK_RECEIVED, ACTIVATE, DEACTIVATE, BWT_EXPIRY. -/
def Obligations.CardSlots : Prop := ∀ s : State,
  let d := s.cards.sd
  let c := s.cards.sc
  (∀ x : SdSeen, d.present = false → s.pw.main = true →
    Ends (.sdCardDetect (some x)) s (cardSource 60 (onSd (identifySd x (!mgmtServes s)) s))) ∧
  (∀ x : SdSeen, let y := identifySd x false d
    (x.s18a = true → x.window.isSome = true → y.mode = x.uhs.val + 2 ∧ y.v18 = true ∧ (y.tuned = true ↔ 2 ≤ x.uhs.val)) ∧
    (x.s18a = true → x.window = none → 2 ≤ x.uhs.val → y.mode = 1 ∧ y.v18 = false) ∧
    (identifySd x true d).mode = 0) ∧
  (d.present = true → d.busy = false → ∃ t, Ends (.sdCardDetect none) s t ∧ t.cards.sd.present = false ∧ t.cards.sd.objects = [] ∧
    t.cards.sd.v18 = false ∧ t.cards.sc = c) ∧
  (∀ (n : Nat) (o : Nat × Bytes), d.busy = true → d.writing = some o → ∃ t, Ends (.sdTransferDone n true) s t ∧
    t.cards.sd.busy = false ∧ t.cards.sd.crc = sat16 (d.crc + n) ∧ t.cards.sd.objects = d.objects ++ [o] ∧ t.cards.sd.writing = none) ∧
  (∀ n : Nat, d.busy = true → ∃ t, Ends (.sdTransferDone n false) s t ∧ t.cards.sd.busy = false ∧ t.cards.sd.objects = d.objects ∧
    t.cards.sd.mode = if 2 ≤ (d.errors.filter fun e => decide (s.dev.tick ≤ e + 60000)).length then lowerMode d.mode else d.mode) ∧
  (d.busy = true → 4 ≤ d.mode →
    (∀ n : Nat, Ends (.sdRetune (some n)) s (onSd (fun d => { d with tuned := true, tap := n }) s)) ∧
    Ends (.sdRetune none) s (onSd (fun d => { d with tuned := false, v18 := false, mode := 1 }) s)) ∧
  (c.present = false → s.pw.main = true → ∃ t, Ends .scInsert s t ∧ t.cards.sc.present = true ∧ t.cards.sc.st = .activating ∧
    t.cards.sc.cls = 1 ∧ t.cards.sd = d) ∧
  (c.present = true → ∃ t, Ends .scRemove s t ∧ t.cards.sc.present = false ∧ t.cards.sc.st = .off ∧ t.cards.sc.ins = none ∧
    t.cards.sd = d) ∧
  ((c.st = .activating ∨ c.st = .atr) →
    (c.cls = 1 → Ends .scAtrTimeout s (onSc (scActivate 2) s)) ∧
    (c.cls ≠ 1 → Ends .scAtrTimeout s (endWaiting [0x0092, 0x0095] Config.cardError.toNat
      (mgCrumb 0x17 0x2A02 0 0 0 0 (onSc (fun c => { scOff c with irq := setBit c.irq 4 true }) s))))) ∧
  (∀ b : Bytes, ((c.st = .activating ∨ c.st = .atr) → Ends (.scBlockReceived b) s (atrReceived b s)) ∧
    (c.st = .pps → b = ppsBytes c.fi c.di →
      Ends (.scBlockReceived b) s (mgCrumb 0x17 0x2A00 c.cls c.fi c.di 0 (onSc (fun c => { c with st := .ready }) s))) ∧
    (c.st = .exchanging → t1BlockOk c.edcCrc b = true → bit (fieldLE b 1 1) 7 = false → Ends (.scBlockReceived b) s
      (onSc (fun c => { c with irq := setBit c.irq 3 true, buf := padTo 256 b, retries := 0
                               chained := c.chained ++ slice b 3 (fieldLE b 2 1) }) s))) ∧
  (c.present = true → Ends .activate s (onSc (scActivate 1) s)) ∧
  Ends .deactivate s (onSc scOff s) ∧
  (c.st = .exchanging → c.retries < 3 → Ends .bwtExpiry s (onSc (fun c => { c with retries := c.retries + 1 }) s)) ∧
  (c.st = .exchanging → 3 ≤ c.retries → ∃ t, Ends .bwtExpiry s t ∧ t.cards.sc.st = .off ∧ t.cards.sc.ins = none)

/-- R523, R528 to R537: the ceremony and card commands. Covers CARD_STATUS, CEREMONY_BEGIN, CARD_STEP, CEREMONY_FINISH, CEREMONY_ABORT,
CEREMONY_TIMEOUT, CARD_SIGN, SD_STATUS, SD_BACKUP_WRITE, AUTH_CHALLENGE, SD_EJECT. -/
def Obligations.CeremonyCommands : Prop := ∀ s : State,
  let d := s.cards.sd
  let c := s.cards.sc
  (∀ p info : Bytes, Given s 0x0090 p →
    Ends (.cardStatus info) s (answer (leBytes 4 (scStat c) ++ if c.st = .ready then info else []) s)) ∧
  (∀ p : Bytes, Given s 0x0091 p → fieldLE p 0 1 = 1 → fieldLE p 2 2 < 4096 → 1 ≤ fieldLE p 4 1 → fieldLE p 4 1 ≤ fieldLE p 5 1 →
    fieldLE p 5 1 ≤ 16 → fieldLE p 6 1 < 16 → s.cards.session = none → s.dev.lifecycle = 3 → s.mg.dik.isSome = true →
    s.mg.kek.isSome = true → d.present = true → ∃ t x, Ends .ceremonyBegin s t ∧ t.cards.session = some x ∧ x.kind = 1 ∧
      x.member = fieldLE p 2 2 ∧ x.m = fieldLE p 4 1 ∧ x.n = fieldLE p 5 1 ∧ x.tick = s.dev.tick ∧ x.shares = [] ∧ x.cards = [] ∧
      (let r := mgDraw 1 56 s
       x.intake = some (beBytes 48 (scalarOf .p384 r.1)) ∧ x.poly = chunks 32 (mgDraw 1 (32 * fieldLE p 4 1) r.2).1) ∧ t.chans = s.chans) ∧
  (∀ (p : Bytes) (x : Ceremony) (a : CardAnswer), Given s 0x0092 p → s.cards.session = some x → pinOk p = true →
    s.mg.dik.isSome = true → s.mg.kek.isSome = true → (c.st = .ready ∨ c.st = .exchanging) →
    Ends (.cardStep none) s (onSc (fun c => { c with
      st := .exchanging, ins := some (if x.kind = 1 then 0x40 else 0x42), chained := [], retries := 0 }) s) ∧
    (a.failed = false → a.pinOk = true → a.refused = false → x.kind = 1 → x.cards.length < x.n →
      (∀ y ∈ x.cards, y.2 ≠ a.pub) → ∃ t, Ends (.cardStep (some a)) s t ∧ t.fn0.status = 0 ∧ t.cards.session = some { x with
        cards := x.cards ++ [(x.cards.length, a.pub)]
        shares := x.shares ++ [(x.cards.length, shareAt x.poly (byte (x.cards.length + 1)))] })) ∧
  (∀ (p : Bytes) (x : Ceremony), Given s 0x0093 p → s.cards.session = some x → d.present = true → ∃ t, Ends .ceremonyFinish s t ∧
    t.fn0.phase = .idle ∧
    match openIntake x.intake p with
    | none => t = refuse 0x0102 s
    | some _ => x.kind = 2 → match openPackage (sharedFpk x.shares) x.pkg with
      | none => t = refuse 0x0300 s
      | some (id, seq, items) => if packageAllowed id seq (sha256 x.pkg) s then
          t.cards.session = none ∧ t.dev.member = x.member ∧ t.dev.memberValid = true ∧ t.mg.pkgSeq = seq ∧
          t.mg.pkgDigest = sha256 x.pkg ∧ ∀ ch, s.dev.has ch = true → ∀ e, installOn seq (sha256 x.pkg) items (s.chan ch) = .ok e →
            (t.chan ch).keys = e.keys
        else t = refuse 0x0B05 s) ∧
  (∀ p, Given s 0x0094 p → Ends .ceremonyAbort s (answer [] (endCeremony 1 s))) ∧
  (∀ x : Ceremony, s.cards.session = some x → x.tick + 3600000 ≤ s.dev.tick →
    Ends .ceremonyTimeout s (raiseFn0 62 (mgCrumb 0x10 0x0A01 x.kind x.shares.length 2 0
      { s with cards := { s.cards with session := none } }))) ∧
  (∀ (p : Bytes) (a : CardAnswer), Given s 0x0095 p → pinOk p = true → 16 < p.length → (c.st = .ready ∨ c.st = .exchanging) →
    a.failed = false → a.pinOk = true → a.refused = false → Ends (.cardSign (some a)) s
      (answer ([byte a.index.val, 0, 0, 0] ++ padTo 64 a.sig)
        (onSc (fun c => { c with st := .ready, ins := none, chained := [], retries := 0 }) s))) ∧
  (∀ p, Given s 0x0096 p → Ends .sdStatus s (answer (leBytes 4 (sdStat d) ++ leBytes 4 (sdErr d) ++ volumeHeader d) s)) ∧
  (∀ p k, Given s 0x0097 p → d.busy = false → d.present = true → s.mg.fbk = some k → d.objects.length < 8 → s.mg.kek.isSome = true →
    let r := mgDraw 1 12 s
    let x := gcmEncrypt k r.1 [] (backupLog s.log.rolling ++ backupLog s.log.pinned ++ backupConfig s)
    Ends .sdBackupWrite s { r.2 with
      cards := { s.cards with sd := { d with busy := true, writing := some (3, r.1 ++ x.1 ++ x.2) } } }) ∧
  (∀ p, Given s 0x0098 p → (fieldLE p 0 1 = 0x10 ∨ fieldLE p 0 1 = 0x14) → let r := mgDraw 0 16 s
    Ends .authChallenge s (answer (r.1 ++ leBytes 8 Config.serial.toNat ++ leBytes 4 900)
      { r.2 with mg := { r.2.mg with auth := some (fieldLE p 0 1, r.1, s.dev.tick) } })) ∧
  (∀ p, Given s 0x0099 p → d.busy = false →
    Ends .sdEject s (answer [] (onSd (fun d => { d with en := false, v18 := false, tuned := false }) s)))

/-- R4, R26, R31, R32, R36, R38, R54, R342: the registers and rings of a channel function, as written and as read, and a core's own
register writes. A RING_CTRL write that leaves EN as it stands takes every field, but for a reserved VEC while EN is 1. Covers REGISTER_WRITE, CH_CTRL_WRITE, WINDOW_LOCK, RING_ENABLE, RING_DISABLE, RING_VEC_WRITE. -/
def Obligations.HostRegisters : Prop := ∀ (s : State) (ch : Ch), s.dev.has ch = true →
  let h := (s.chan ch).host
  let fn : Fin 17 := ⟨ch.val + 1, by omega⟩
  (∀ v : Word, Ends (.chCtrlWrite ch v) s (put s ch fun c => { c with host := { c.host with
    en := v.getLsbD 0 && c.host.win.lock, sleepOk := v.getLsbD 1, idle := bits v.toNat 15 8 } })) ∧
  (h.win.lock = false → ∃ t, Ends (.windowLock fn) s t ∧ let w := (t.chan ch).host.win
    w.base = h.win.base ∧ w.limit = h.win.limit ∧ (w.lock = true ↔ h.win.base.value.toNat ≤ h.win.limit.value.toNat ∧
      ∀ o ∈ otherWindows s fn, o.lock = true → o.overlaps h.win = false)) ∧
  (h.win.lock = true → Ends (.windowLock fn) s (put s ch id)) ∧
  (s.fn0.win.lock = false → ∃ t, Ends (.windowLock 0) s t ∧ t.chans = s.chans ∧ let w := t.fn0.win
    (w.lock = true ↔ s.fn0.win.base.value.toNat ≤ s.fn0.win.limit.value.toNat ∧
      ∀ o ∈ otherWindows s 0, o.lock = true → o.overlaps s.fn0.win = false)) ∧
  (∀ (fn : Fin 17) (off : Nat) (b : Bytes), (off % 4 ≠ 0 ∨ b.length % 4 ≠ 0 ∨ s.dev.enabled < fn.val) →
    Ends (.registerWrite (.func fn) off b) s s) ∧
  (∀ b : Bytes, b.length = 4 →
    Ends (.registerWrite (.func fn) 0x60 b) s (put s ch fun c => { c with host := { c.host with
      irqEn := BitVec.ofNat 32 (leNat b) &&& 0x000FFFF0 } }) ∧
    Ends (.registerWrite (.func fn) 0x64 b) s (put s ch fun c => { c with host := { c.host with
      irqStat := c.host.irqStat &&& ~~~ BitVec.ofNat 32 (leNat b) } }) ∧
    Ends (.registerWrite (.func fn) 0x80 b) s (put s ch fun c => { c with host := { c.host with
      fault := c.host.fault &&& ~~~ (BitVec.ofNat 32 (leNat b) &&& 0x38) } }) ∧
    (h.win.lock = true → Ends (.registerWrite (.func fn) 0xC0 b) s (put s ch id)) ∧
    Ends (.registerWrite (.func fn) 0x20 b) s (put s ch id)) ∧
  (∀ (u : Core) (a : Nat) (b : Bytes), (b.length ≠ 4 ∨ a % 4 ≠ 0) → Ends (.registerWrite (.core u) a b) s
    (onCore u (fun _ _ _ c => { c with table := atRefuse c.table 0 true true .write (min 64 b.length) a }) s)) ∧
  (∀ (u : Core) (a : Nat) (b : Bytes), let t := (unit s u).table
    b.length = 4 → a % 4 = 0 → isPeriph a = true → mapped t.mgmt a = true → (isAtBlock t.mgmt a = true ∨ atAllows t 0 .write a = true) →
    Ends (.registerWrite (.core u) a b) s (onCore u (fun _ ch d c => periphWrite ch d a (BitVec.ofNat 32 (leNat b)) c) s)) ∧
  (s.pw.pcieUp = true → bar0Read fn 0 4 s = some (leBytes 4 (ch.val + 0x08800100)) ∧
    (∀ k, k < 8 → channelWord ch (0x10 + 4 * k) s = (featWord false k).toNat) ∧
    (∀ off, 0x100 ≤ off → off < 0x300 → channelWord ch off s = 0)) ∧
  (∀ fn : Fin 17, configSpace fn s = none ↔ s.dev.enabled < fn.val) ∧
  (∀ (q : Fin 4) (v : Word), let p := h.pairs.get q
    (p.en = false → ∃ t n, Ends (.ringEnable ch q v) s t ∧ (t.chan ch).host.pairs.get q = n ∧ n.vec = bits v.toNat 12 8 ∧
      n.sqBase = p.sqBase ∧ n.seqLast = p.seqLast ∧ n.cfgErr = !n.en ∧
      (n.en = true ↔ 6 ≤ p.sqLog2 ∧ p.sqLog2 ≤ 16 ∧ 6 ≤ p.cqLog2 ∧ p.cqLog2 ≤ 16 ∧ p.sqBase.value.toNat % 4096 = 0 ∧
        p.cqBase.value.toNat % 4096 = 0 ∧ h.win.holds p.sqBase.value.toNat (64 * p.sqSize) = true ∧
        h.win.holds p.cqBase.value.toNat (32 * p.cqSize) = true ∧ (bits v.toNat 12 8 < 4 ∨ 19 < bits v.toNat 12 8)) ∧
      (n.en = true → n.sqHead = 0 ∧ n.sqTail = 0 ∧ n.cqTail = 0 ∧ n.phase = true)) ∧
    (∃ t, Ends (.ringDisable ch q v) s t ∧ ((t.chan ch).host.pairs.get q).en = false ∧
      ((t.chan ch).host.pairs.get q).sqHead = p.sqHead ∧ (t.chan ch).jr = (s.chan ch).jr) ∧
    (p.en = false ∨ bits v.toNat 12 8 < 4 ∨ 19 < bits v.toNat 12 8 → Ends (.ringVecWrite ch q v) s (put s ch (onPairC q fun p =>
      { p with irqEn := bit v.toNat 1, vec := bits v.toNat 12 8, cfgErr := false, coCount := bits v.toNat 23 16
               coTime := bits v.toNat 31 24 }))) ∧
    (p.en = true → 4 ≤ bits v.toNat 12 8 → bits v.toNat 12 8 ≤ 19 → ∃ t n, Ends (.ringVecWrite ch q v) s t ∧
      (t.chan ch).host.pairs.get q = n ∧ n.vec = p.vec ∧ n.cfgErr = true ∧ n.en = true ∧ n.irqEn = v.getLsbD 1 ∧
      n.coCount = bits v.toNat 23 16))

/-- R34, R39 to R43, R55: doorbells and head writes. On a function that is not faulted each doorbell form completes: the tail form with
a tail in range, the inline form and the partial form with room in the queue; a doorbell the rules do not take sets DB_RANGE and moves
no pointer; on a faulted function all are ignored (for CQ_HEAD_WRITE the model's choice, log 145). Covers SQ_DOORBELL_TAIL, SQ_DOORBELL_INLINE, SQ_DOORBELL_INLINE_PARTIAL,
CQ_HEAD_WRITE, CQ_COALESCE_TIMEOUT. -/
def Obligations.Doorbells : Prop := ∀ (s : State) (ch : Ch) (q : Fin 4), s.dev.has ch = true →
  let c := s.chan ch
  let p := c.host.pairs.get q
  let unread := (p.sqTail + p.sqSize - p.sqHead) % p.sqSize
  let put1 (f : RingPair → RingPair) : State := put s ch fun c => { c with host := { c.host with pairs := c.host.pairs.set q.val (f p) q.isLt } }
  (∀ v : Word, c.host.faulted = false → p.en = true → v.toNat % 65536 < p.sqSize →
    unread ≤ (v.toNat % 65536 + p.sqSize - p.sqHead) % p.sqSize →
    exec (.sqDoorbellTail ch q v) s = .next (put1 fun p => { p with sqTail := v.toNat % 65536 })) ∧
  (∀ b : Bytes, c.host.faulted = false → p.en = true → unread + 1 < p.sqSize →
    exec (.sqDoorbellInline ch q b) s = .next (put1 fun p => { p with
      sqTail := (p.sqTail + 1) % p.sqSize
      inline := (p.inline.filter fun e => e.1 != p.sqTail) ++
        if (p.inline.filter fun e => e.1 != p.sqTail).length < 8 then [(p.sqTail, padTo 64 b)] else [] })) ∧
  (∀ off len : Nat, c.host.faulted = false → p.en = true → unread + 1 < p.sqSize → off % 4 = 0 → len % 4 = 0 → off < 64 → 64 ≤ off + len →
    exec (.sqDoorbellInlinePartial ch q off len) s = .next (put1 fun p => { p with
      sqTail := (p.sqTail + 1) % p.sqSize, inline := p.inline.filter fun e => e.1 != p.sqTail })) ∧
  (c.host.faulted = true → ∀ (v : Word) (b : Bytes) (off len : Nat), Ends (.sqDoorbellTail ch q v) s (put s ch id) ∧
    Ends (.sqDoorbellInline ch q b) s (put s ch id) ∧ Ends (.sqDoorbellInlinePartial ch q off len) s (put s ch id) ∧
    Ends (.cqHeadWrite ch q v) s (put s ch id)) ∧
  (c.host.faulted = false →
    (∀ v : Word, (p.en = false ∨ p.sqSize ≤ v.toNat % 65536 ∨ (v.toNat % 65536 + p.sqSize - p.sqHead) % p.sqSize < unread) →
      ∃ t, Ends (.sqDoorbellTail ch q v) s t ∧ (t.chan ch).host.fault.getLsbD 3 = true ∧ (t.chan ch).host.pairs = c.host.pairs ∧
        (c.host.fault = 0 → (t.chan ch).host.faultValue = v.toNat % 65536 ∧ (t.chan ch).host.faultQueue = q.val)) ∧
    (∀ b : Bytes, p.en = true → p.sqSize ≤ unread + 1 → ∃ t, Ends (.sqDoorbellInline ch q b) s t ∧
      (t.chan ch).host.pairs = c.host.pairs ∧ (t.chan ch).host.fault.getLsbD 3 = true) ∧
    (∀ off len : Nat, (off + len < 64 ∨ off % 4 ≠ 0 ∨ len % 4 ≠ 0) →
      Ends (.sqDoorbellInlinePartial ch q off len) s (put s ch id)) ∧
    (∀ v : Word, let hd := v.toNat % 65536
      let far := (hd + p.cqSize - p.cqHead) % p.cqSize
      let written := (p.cqTail + p.cqSize - p.cqHead) % p.cqSize
      (p.en = true → hd < p.cqSize → far ≤ written →
        Ends (.cqHeadWrite ch q v) s (put1 fun p => { p with cqHead := hd, fullRaised := false })) ∧
      ((p.en = false ∨ p.cqSize ≤ hd ∨ written < far) → ∃ t, Ends (.cqHeadWrite ch q v) s t ∧
        (t.chan ch).host.fault.getLsbD 3 = true ∧ (t.chan ch).host.pairs = c.host.pairs))) ∧
  (p.irqEn = true → p.coTime ≠ 0 → 0 < p.counted → ∃ t, Ends (.cqCoalesceTimeout ch q) s t ∧
    ((t.chan ch).host.pairs.get q).counted = 0 ∧ (∀ e, c.host.msix[p.vec]? = some e →
      (e.mask = false → (t.chan ch).host.sent = c.host.sent ++ [⟨.msix, p.vec, e.addr.toNat, leBytes 4 e.data.toNat⟩]) ∧
      (e.mask = true → p.vec ∈ (t.chan ch).host.pba ∧ (t.chan ch).host.sent = c.host.sent)))

/-- R44 to R50, R60, R63 to R67, R103: the life of a job, from claim to posted completion. A job of SQ0 goes first; one whose effect
rests on a battery state that is gone runs again. Covers JOB_CLAIM, DMA_READ_DONE, JOB_COMMIT, BATTERY_TRANSACTION_DONE,
STAGED_WRITES_SEND, WRITE_ACKNOWLEDGED, COMPLETION_POST. -/
def Obligations.JobLife : Prop := ∀ (s : State) (ch : Ch), s.dev.has ch = true →
  let c := s.chan ch
  (∀ (h0 h1 h2 h3 : Option Bytes) (b : Bytes) (inl : Bool), c.host.en = true → claimsIn c.state = true → canClaim s.dev c = true →
    claimable c 0 h0 = true → headEntry (c.pairOf 0) h0 = some (b, inl) →
    let sub := Sub.ofBytes (padTo 64 b)
    let p := c.pairOf 0
    let far := (sub.seq + 65536 - p.seqLast) % 65536
    let fresh := !p.seqValid || (1 ≤ far && far ≤ 32768)
    let j := freeIndex c.jr.entries 4096 c.jr.cursor
    let serial := (c.jr.serial + 1) % 2 ^ 64
    ∃ t e, Ends (.jobClaim ch h0 h1 h2 h3) s t ∧ (t.chan ch).jr.entries = c.jr.entries ++ [e] ∧ e.jidx = j ∧ e.sub = sub ∧
      e.queue = 0 ∧ e.serial = serial ∧ (t.chan ch).jr.serial = serial ∧ ((t.chan ch).pairOf 0).sqHead = (p.sqHead + 1) % p.sqSize ∧
      (fresh = false → e.state = .written ∧ e.cpl.status = 0x0106 ∧ e.cpl.detail = far ∧ ((t.chan ch).pairOf 0).seqLast = p.seqLast) ∧
      (fresh = true → ((t.chan ch).pairOf 0).seqLast = sub.seq ∧ ((t.chan ch).pairOf 0).seqValid = true ∧
        (sub.opcode ∉ opcodes → e.state = .written ∧ e.cpl.status = 0x0100))) ∧
  (c.host.en = false → ∀ h0 h1 h2 h3 : Option Bytes, Ends (.jobClaim ch h0 h1 h2 h3) s (put s ch id)) ∧
  (∀ (e : JEntry) (field : Nat), Holds c e → e.state = .claimed → e.writes = [] → e.ready = none → e.recheck = false →
    field ∈ e.sub.readsNeeded → (field = 56 → accountWaits c e = false) →
    (∀ b : Bytes, Ends (.dmaReadDone ch e.jidx field (some b)) s (put s ch fun c => raiseCause 2 (onEntry e.jidx (fun e =>
      { e with reads := e.reads.filter (fun r => r.1 != field) ++ [(field, b)] }) c))) ∧
    ∃ t n, Ends (.dmaReadDone ch e.jidx field none) s t ∧ (t.chan ch).entry e.jidx = some n ∧ n.state = .written ∧
      n.cpl.status = 0x0109 ∧ n.cpl.detail = field ∧ n.cpl.outBytes = 0 ∧ (t.chan ch).host.advisory = true) ∧
  (∀ (en : JEntry) (e : Effect), Holds c en → en.ready = some e → en.state = .claimed → en.writes = [] →
    let need := match e.leaf with
      | none => 0
      | some l => if l.account.isSome then 2 else 1
    (sameBasis e c = false → Ends (.jobCommit ch en.jidx) s (put s ch (onEntry en.jidx fun x => { x with ready := none }))) ∧
    (∀ off, sameBasis e c = true → stageFind c.jr.entries (stageUnits e.writes) = some off → notesKept c = false →
      imagePending c en.jidx = false → (advancesIn en.sub.opcode = true → ackLagHolds s.dev c = false) →
      need ≤ (freeSlots c.shard.slots).length → (∀ x ∈ c.jr.entries, x.state ≠ .committing) →
      ∃ t n, Ends (.jobCommit ch en.jidx) s t ∧ (t.chan ch).entry en.jidx = some n ∧ n.state = .committing ∧
        n.writes = e.writes ∧ (t.chan ch).shard = c.shard ∧ n.stageLen = (stageBytes e.writes).length ∧
        (e.writes ≠ [] → n.stageOff = off) ∧
        (e.leaf = none → n.epoch = actEpoch c.shard.epoch e.act ∧ (t.chan ch).tree = c.tree) ∧
        (∀ l, e.leaf = some l → n.epoch = (c.shard.epoch + 1) % 2 ^ 64 ∧ n.leafNew = l.leaf ∧ n.slotIx = (freeSlots c.shard.slots)[0]? ∧
          (t.chan ch).tree = treeSet c.tree (groupOf l.meter) (l.bndNew.take 16))) ∧
    ((∃ x ∈ c.jr.entries, x.state = .committing) → sameBasis e c = true → Ends (.jobCommit ch en.jidx) s (put s ch id))) ∧
  (s.pw.link = false → Ends (.batteryTransactionDone ch) s s) ∧
  (∀ (en : JEntry) (e : Effect), s.pw.link = true → c.jr.entries.find? (fun x => x.state == .committing) = some en → Holds c en →
    en.ready = some e →
    (e.gov.take s.dev.tick e.units = none → en.sub.opcode ≠ 0x0601 → ∃ t n, Ends (.batteryTransactionDone ch) s t ∧
      (t.chan ch).entry en.jidx = some n ∧ n.state = .written ∧ n.cpl.status = 0x0400 ∧ (t.chan ch).shard = c.shard ∧
      (t.chan ch).gov = c.gov) ∧
    (∀ g, e.gov.take s.dev.tick e.units = some g → e.act = none → ∃ t n, Ends (.batteryTransactionDone ch) s t ∧ (t.chan ch).entry en.jidx = some n ∧
      n.state = (if e.writes = [] then .written else .committed) ∧ n.staged = true ∧ (t.chan ch).shard.lastTxn = (s.dev.bootCount, en.serial) ∧
      (t.chan ch).gov.log = g.log ∧ (t.chan ch).gov.grants = g.grants ∧
      (∀ l, e.leaf = some l → (t.chan ch).shard.epoch = en.epoch ∧ n.cpl.epochValid = true ∧ n.cpl.epochLo = en.epoch % 2 ^ 32 ∧
        (t.chan ch).shard.root = treeRoot c.tree) ∧
      (e.leaf = none → (t.chan ch).shard.epoch = e.shard.epoch ∧ (t.chan ch).shard.slots = c.shard.slots ∧
        n.cpl.epochValid = (e.cpl.epochValid || e.shard.root != c.shard.root)))) ∧
  (∀ e : JEntry, Holds c e → e.state = .committed → e.writes ≠ [] → recheckHolds c e = false → canTransmit s.dev c = true →
    let first := (beforeOutput e.writes).length
    let now := (e.writes.take (if e.acked < first then first else e.writes.length)).drop e.sentUpTo
    (treeBehind c e now = false → ∃ t, Ends (.stagedWritesSend ch e.jidx) s t ∧
      (t.chan ch).jr.entries.map (·.state) = c.jr.entries.map (·.state) ∧ (t.chan ch).host.sent = c.host.sent ++ now) ∧
    (treeBehind c e now = true → Ends (.stagedWritesSend ch e.jidx) s (put s ch id))) ∧
  (s.dev.hearthUp = false → ∀ fn : Fin 17, Ends (.writeAcknowledged fn) s s) ∧
  (∀ (e : JEntry) (w : HostWrite) (ws : List HostWrite), s.dev.hearthUp = true → c.host.sent = w :: ws → w.jidx = e.jidx → Holds c e →
    (w.kind = .completion → ∃ t, Ends (.writeAcknowledged ⟨ch.val + 1, by omega⟩) s t ∧ (t.chan ch).host.sent = ws ∧
      (t.chan ch).jr.entries = c.jr.entries.filter fun x => x.jidx != e.jidx) ∧
    (w.kind ≠ .completion → w.kind ≠ .msix → (e.state = .claimed → e.ready = none) → ∃ t n, Ends (.writeAcknowledged ⟨ch.val + 1, by omega⟩) s t ∧
      (t.chan ch).host.sent = ws ∧ (t.chan ch).entry e.jidx = some n ∧ n.acked = e.acked + 1 ∧
      n.state = if e.acked + 1 = e.writes.length then .written else e.state)) ∧
  (∀ w ws, s.dev.hearthUp = true → s.fn0.sent = w :: ws →
    Ends (.writeAcknowledged 0) s { (if w.kind = .response then raiseMg 2 s else s) with fn0 := { s.fn0 with sent := ws } }) ∧
  (∀ e : JEntry, Holds c e → e.state = .written → e.posted = false → let q := pairIx e.queue
    let p := c.pairOf q
    p.en = true → canTransmit s.dev c = true → replayBehind c e = false →
    (p.cqFull = false → ∃ t n, Ends (.completionPost ch e.jidx) s t ∧ (t.chan ch).entry e.jidx = some n ∧ n.posted = true ∧
      ((t.chan ch).pairOf q).cqTail = (p.cqTail + 1) % p.cqSize ∧ (t.chan ch).sf.wdogTick = s.dev.tick ∧ (t.chan ch).host.sent.take (c.host.sent.length + 1) = c.host.sent ++
        [⟨.completion, e.jidx, (p.cqBase.value.toNat + 32 * p.cqTail) % 2 ^ 64, cplBytes e p.sqHead p.phase⟩]) ∧
    (p.cqFull = true → ∃ t, Ends (.completionPost ch e.jidx) s t ∧ (t.chan ch).entry e.jidx = some e ∧
      ((t.chan ch).pairOf q).cqTail = p.cqTail ∧ (t.chan ch).shard = c.shard))

/-- R60: while fewer than 4,096 entries stand, the index a claim takes is below 4,096 and no entry has it. -/
def Obligations.JournalIndexFree : Prop := ∀ (es : List JEntry) (cursor : Nat), es.length < 4096 →
  freeIndex es 4096 cursor < 4096 ∧ ∀ e ∈ es, e.jidx ≠ freeIndex es 4096 cursor

/-- R84 to R95, R191, R225, R231: the inbound jobs, the engines being open to them. When every APDU passes, the record that stands after the last one is staged for
commit if it differs from the one read, and the job ends without a change if it does not; the first failure ends the job.
While no cipher context is free a traffic job waits: it enters firmware's list and WAITING is set; while the public-key engine is not
open to a job, it waits in the pending list. Covers UNPROTECT, UNPROTECT_SEQ. -/
def Obligations.InboundJobs : Prop := (∀ (s : State) (ch : Ch) (e : JEntry),
    let c := s.chan ch
    ((∀ x ∈ c.ce.cxs.toList, x.st ≠ .free) →
      (∀ row ∈ [(Instr.protect ch e.jidx, 0x0201), (.protectBroadcast ch e.jidx, 0x0202), (.protectDisconnect ch e.jidx, 0x0230),
        (.keyTransport ch e.jidx, 0x0401)], MayRun s ch e row.2 → Gives row.1 s ch fun t =>
          t.ce.waiting = true ∧ e.jidx ∈ t.ce.waiters ∧ t.jr = c.jr ∧ Untouched c t ∧ t.pke = c.pke) ∧
      (∀ r, jobRecipe c e = some r → paramReserved e.sub (if r.keysel = 1 then [60, 61] else []) = none → MayRun s ch e 0x0101 →
        Gives (.unprotect ch e.jidx) s ch fun t => t.ce.waiting = true ∧ e.jidx ∈ t.ce.waiters ∧ t.jr = c.jr ∧ Untouched c t)) ∧
    (engineTurn c e = false →
      ∀ row ∈ [(Instr.sigVerify ch e.jidx, 0x0301), (.rsaVerify ch e.jidx, 0x0302), (.rsaSign ch e.jidx, 0x0310),
        (.attest ch e.jidx, 0x0311)], MayRun s ch e row.2 → Gives row.1 s ch fun t =>
          e.jidx ∈ t.pke.pending ∧ t.pke.running = c.pke.running ∧ t.jr = c.jr ∧ Untouched c t)) ∧
  ∀ (s : State) (ch : Ch) (e : JEntry) (r : Recipe) (k : RecCheck) (apdus : List Bytes),
  let c := seenBy r.usesEngine s ch e
  let p := splitCert e r
  let start : Inbound := { record := absorbAck c.shard k.record, ded := if r.keysel = 1 then dedFind c (e.sub.phalf 60) e.sub.meter else none }
  jobRecipe (s.chan ch) e = some r → paramReserved e.sub (if r.keysel = 1 then [60, 61] else []) = none → Checked s ch e k →
  k.record.broadcast = false → inboundKeys c e r k.record = none → EnginesOpen r.usesEngine e (s.chan ch) →
  ∀ row ∈ [(Instr.unprotect ch e.jidx, 0x0101, decide (apdus = [p.1])),
      (.unprotectSeq ch e.jidx, 0x0102, !e.sub.opflag 2 && decide (splitSeq p.1.length p.1 = some apdus ∧ apdus ≠ [] ∧ apdus.length ≤ 64))],
    MayRun s ch e row.2.1 → row.2.2 = true →
    match unprotectAll c r (e.sub.opflag 0) (e.sub.opflag 1) p.2 apdus 0 start with
    | .error f => Fails row.1 s ch e f
    | .ok (_, y) =>
      (y.record = start.record → Stages row.1 s ch e fun x => x.leaf = none ∧ x.cpl.result = inboundResult y apdus.length ∧
        (r.keysel = 1 → x.ded = y.ded.map fun z => dedSet c.ded { z with used := e.serial })) ∧
      (y.record ≠ start.record → limitOk c.shard (c.gov.soloNow s.dev.tick) start.record = true → Stages row.1 s ch e fun x =>
        x.cpl.result = inboundResult y apdus.length ∧ ∃ l, x.leaf = some l ∧ l.meter = e.sub.meter ∧
          l.record = some { y.record with lastEpoch := (c.shard.epoch + 1) % 2 ^ 32 }) ∧
      (y.record ≠ start.record → limitOk c.shard (c.gov.soloNow s.dev.tick) start.record = false → Fails row.1 s ch e ⟨0x0309, 0, 0⟩)

/-- R89, R93, R94, R95: an APDU unprotected under a key of the record leaves its counter as the inbound high-water, and that counter lay
above the high-water that stood, unless the APDU activated a pending key, and above the counter of the APDU before it in the list. An
outbound counter taken is the record's next one, the failover skip applied first (R158); it lies below the limit unless SOLO_PERMIT is
in force, and never above the last counter the job may use. -/
def Obligations.InboundCounterRises : Prop := (∀ (s : ShardBatt) (solo : Bool) (top : Nat) (r z : MRec) (ic : Nat) (sk : Bool),
    top ≤ 0xFFFFFFFE → takeCounter s solo top r = .ok (z, ic, sk) → z.icOut = ic + 1 ∧ r.icOut ≤ ic ∧ ic ≤ top ∧ z.skipGen = s.promo % 65536 ∧
      z.guek = r.guek ∧ z.icIn = r.icIn ∧ (sk = true ↔ r.skipGen ≠ s.promo % 65536) ∧
      (solo = false → r.newKey = false ∧ z.icOut ≤ reserveLimit s z)) ∧
  ∀ (c : Channel) (r : Recipe) (sig cert : Bool) (region cb : Bytes) (x y : Inbound) (p : Bytes),
  unprotectOne c r sig cert region cb x = .ok (p, y) → r.keysel ≠ 1 →
  y.prev = some y.counter ∧ (∀ q, x.prev = some q → q < y.counter) ∧ y.record.icIn = y.counter ∧ y.record.inEmpty = false ∧ y.record.icOut ≤ x.record.icOut ∧
  (x.record.pendingId = 0xFF → y.record.guek = x.record.guek ∧ y.record.gak = x.record.gak ∧
    ∀ h, x.record.high = some h → h < y.counter ∧ h ≠ 0xFFFFFFFF)

/-- R96 to R101, R103, R110, R158: the outbound jobs that have passed their checks and whose draws are served. A counter is used once:
the record staged holds the next one. PROTECT_DISCONNECT, and it alone, takes a unit of the governor; form 5 uses no counter. Covers
PROTECT, PROTECT_BROADCAST, PROTECT_DISCONNECT, KEY_TRANSPORT. -/
def Obligations.OutboundJobs : Prop := ∀ (s : State) (ch : Ch) (e : JEntry) (r : Recipe) (k : RecCheck) (stat : Bytes) (tag : Nat),
  let c := seenBy e.sub.usesEngine s ch e
  let m := e.sub.outParam
  let plain := (splitCert e r).1
  let start := absorbAck c.shard k.record
  Sendable s ch e r k stat tag →
  ∀ row ∈ [(Instr.protect ch e.jidx, 0x0201), (.protectBroadcast ch e.jidx, 0x0202), (.protectDisconnect ch e.jidx, 0x0230),
      (.keyTransport ch e.jidx, 0x0401)], MayRun s ch e row.2 →
    let units := if row.2 = 0x0230 then 1 else 0
    Ends row.1 s (setChan s ch (outboundCommit ch s.dev e k stat tag plain c)) ∧
    ∀ eph c1, drawIf (m.form == 5) 2 (curveLen (suiteCurve start.suite) + 8) c = .ok (eph, c1) →
    match outKey c1 e (c.gov.soloNow s.dev.tick) start stat (scalarOf (suiteCurve start.suite) eph) with
    | .error f => Fails row.1 s ch e f
    | .ok y => ∀ fill z new c2 out c3, fillPlace e y.record c1 = .ok (fill, z, new, c2) →
      signOut e y (protectApdu c2 e tag y (patch plain m.place fill)) c2 = .ok (out, c3) →
      (m.form ∈ [0, 2, 4, 6] → Stages row.1 s ch e fun x => x.units = units ∧ x.cpl.result % 2 ^ 32 = y.ic ∧
        ∃ l w, x.leaf = some l ∧ l.record = some w ∧ w.icOut = y.ic + 1 ∧ w.guek = k.record.guek ∧ w.icIn = k.record.icIn ∧
          (row.2 = 0x0401 → w.pendingId = m.keyId)) ∧
      (m.form ∈ [1, 3] → row.2 ≠ 0x0401 → Stages row.1 s ch e fun x => x.units = units ∧ x.leaf = none ∧
        ∃ w, dedFind c m.handle e.sub.meter = some w ∧ x.ded = some (dedSet c.ded { w with out := y.ic + 1, used := e.serial })) ∧
      (m.form = 5 → row.2 = 0x0230 → Stages row.1 s ch e fun x => x.units = 1 ∧ x.leaf = none ∧ x.ded = none) ∧
      (m.form = 5 → row.2 ∈ [0x0201, 0x0202] → ∃ t n, Ends row.1 s t ∧ (t.chan ch).entry e.jidx = some n ∧ n.cpl.result = 0 ∧
        n.cpl.outBytes = out.length ∧ n.writes = outWrite e.jidx e.sub out ∧ Untouched (s.chan ch) (t.chan ch))

/-- R88, R102 to R111, R390: key activation and the governor's jobs. B is only lowered, W only raised, but by a token of the quorum.
Covers KEY_ACTIVATE, KEY_DISCARD, DEDICATED_RELEASE, GOVERNOR_STATUS, TOKEN_CHALLENGE, TOKEN_APPLY, GOVERNOR_LOWER. -/
def Obligations.GovernorJobs : Prop := ∀ (s : State) (ch : Ch) (e : JEntry),
  let c := s.chan ch
  let g := c.gov
  (∀ k n, Checked s ch e k → k.record.broadcast = false → reserveIn c.shard (g.soloNow s.dev.tick) k.record = .ok n →
    (MayRun s ch e 0x0402 → k.record.pendingId ≠ 0xFF → Stages (.keyActivate ch e.jidx) s ch e fun x => ∃ l z, x.leaf = some l ∧
      l.record = some z ∧ z.pendingId = 0xFF ∧ z.keyGen = (n.keyGen + 1) % 65536 ∧
      (k.record.pendingId = 0 → z.guek = k.record.pendingKey ∧ z.icOut = 0 ∧ z.inEmpty = true) ∧
      (k.record.pendingId ≠ 0 → z.gak = k.record.pendingKey ∧ z.guek = k.record.guek)) ∧
    (MayRun s ch e 0x0403 → k.record.pendingId ≠ 0xFF → Stages (.keyDiscard ch e.jidx) s ch e fun x => ∃ l z, x.leaf = some l ∧
      l.record = some z ∧ z.pendingId = 0xFF ∧ z.pendingKey = zeros 32 ∧ z.guek = k.record.guek ∧ z.keyGen = k.record.keyGen)) ∧
  (∀ k, Checked s ch e k → k.record.broadcast = false → k.record.pendingId = 0xFF →
    (MayRun s ch e 0x0402 → Fails (.keyActivate ch e.jidx) s ch e ⟨0x0102, 12, 0⟩) ∧
    (MayRun s ch e 0x0403 → c.shard.gen < k.gen + 4 → Answers (.keyDiscard ch e.jidx) s ch e 0 [])) ∧
  (MayRun s ch e 0x0404 → let h := e.sub.phalf 60
    Answers (.dedicatedRelease ch e.jidx) s ch e 0 [] ∧ ∃ t, Ends (.dedicatedRelease ch e.jidx) s t ∧
      (∀ x ∈ (t.chan ch).ded, ¬ (x.live = true ∧ x.entry = h % 1024 ∧ x.generation = h / 1024)) ∧
      (∀ o ∈ (t.chan ch).jr.entries, o.state = .committing → ∀ y l, o.ready = some y → y.ded = some l →
        ∀ x ∈ l, ¬ (x.live = true ∧ x.entry = h % 1024 ∧ x.generation = h / 1024))) ∧
  (servesShard c = true →
    (MayRun s ch e 0x0F40 → Answers (.governorStatus ch e.jidx) s ch e 0 (governorBytes g s.dev.tick)) ∧
    (MayRun s ch e 0x0F41 → ∀ n c', engineDraw 2 16 c = .ok (n, c') →
      Stages (.tokenChallenge ch e.jidx) s ch e fun x => x.gov = { g with challenge := some (n, s.dev.tick) } ∧ x.leaf = none ∧
        x.writes = outWrite e.jidx e.sub (n ++ leBytes 4 900 ++ leBytes 2 s.dev.member ++ [byte ch.val, 0] ++
          padTo 8 ((c.keys.quorum.map (·.id)).getD []))) ∧
    (MayRun s ch e 0x0F41 → (engineDraw 2 16 c = .error .waits → Ends (.tokenChallenge ch e.jidx) s (put s ch id)) ∧
      (engineDraw 2 16 c = .error .withheld → Fails (.tokenChallenge ch e.jidx) s ch e ⟨0x0A00, 0x06, 0⟩)) ∧
    (MayRun s ch e 0x0F42 → let b := e.data 32 e.sub.inLen
      match tokenCheck ch s.dev c b with
      | some f => Fails (.tokenApply ch e.jidx) s ch e f
      | none =>
        let alone := c.pair.role = .none ∨ (c.pair.role = .active ∧ c.pair.peer = none)
        (fieldLE b 2 1 = 3 → ¬ alone → Fails (.tokenApply ch e.jidx) s ch e ⟨0x0102, 32, 0⟩) ∧
        (fieldLE b 2 1 ≠ 3 ∨ alone → Stages (.tokenApply ch e.jidx) s ch e fun x => x.gov.challenge = none ∧ x.leaf = none ∧
          (fieldLE b 2 1 = 3 → x.gov.solo = some (if fieldLE b 28 4 = 0 then none else some (s.dev.tick + 1000 * fieldLE b 28 4))) ∧
          (fieldLE b 2 1 = 1 → x.gov.token = some (fieldLE b 24 4, s.dev.tick + 1000 * fieldLE b 28 4) ∧ x.gov.budget = g.budget) ∧
          (fieldLE b 2 1 = 2 → x.gov.budget = fieldLE b 32 2 ∧ x.gov.window = fieldLE b 34 2 ∧ x.gov.holdUntil = 0))) ∧
    (MayRun s ch e 0x0F43 → let n := e.sub.phalf 56
      let w := e.sub.phalf 58
      (n ≤ g.budget → g.window ≤ w → w ≤ 3600 → Stages (.governorLower ch e.jidx) s ch e fun x =>
        x.gov = { g with budget := n, window := w, log := g.log.take n }) ∧
      (g.budget < n ∨ w < g.window ∨ 3600 < w → Fails (.governorLower ch e.jidx) s ch e ⟨0x0102, 56, 0⟩))) ∧
  (servesShard c = false → ∀ row ∈ [(Instr.governorStatus ch e.jidx, 0x0F40), (.tokenChallenge ch e.jidx, 0x0F41),
      (.tokenApply ch e.jidx, 0x0F42), (.governorLower ch e.jidx, 0x0F43), (.recordRotate ch e.jidx, 0x0503), (.treeImage ch e.jidx, 0x0F51)],
    MayRun s ch e row.2 → Fails row.1 s ch e ⟨0x0205, 0, 0⟩)

/-- R79 to R81, R141, R162 to R169: the record, shard and journal jobs. Covers RECORD_IMPORT, RECORD_REWRAP, RECORD_ROTATE, RECORD_RETIRE,
SHARD_CREATE, TREE_IMAGE, SHARD_STATUS, COMMIT_LIST, COMMIT_RECOVER, JOURNAL_LIST. -/
def Obligations.RecordJobs : Prop := ∀ (s : State) (ch : Ch) (e : JEntry),
  let c := s.chan ch
  (MayRun s ch e 0x0501 → match importCheck c e with
    | .error f => Fails (.recordImport ch e.jidx) s ch e f
    | .ok r => Stages (.recordImport ch e.jidx) s ch e fun x => ∃ l, x.leaf = some l ∧ l.meter = e.sub.meter ∧ l.record = some { r with
        skipGen := c.shard.promo % 65536, ackGen := c.shard.promo % 65536, ackOut := r.icOut, lastEpoch := (c.shard.epoch + 1) % 2 ^ 32 }) ∧
  (∀ k n, Checked s ch e k → reserveIn c.shard (c.gov.soloNow s.dev.tick) k.record = .ok n → MayRun s ch e 0x0502 →
    Stages (.recordRewrap ch e.jidx) s ch e fun x => x.cpl.result = c.shard.gen ∧ x.shard.wrapCtr = (c.shard.wrapCtr + 1) % 2 ^ 64 ∧
      ∃ l, x.leaf = some l ∧ l.record = some { n with lastEpoch := (c.shard.epoch + 1) % 2 ^ 32 }) ∧
  (∀ f, recordCheck c e.sub e.wrapped e.proof = .error f → MayRun s ch e 0x0502 → Fails (.recordRewrap ch e.jidx) s ch e f) ∧
  (MayRun s ch e 0x0503 → servesShard c = true →
    (c.shard.rotated = true → s.dev.tick < c.shard.rotateTick + 86400000 → Fails (.recordRotate ch e.jidx) s ch e ⟨0x0102, 0, 0⟩) ∧
    (c.shard.rotateTick + 86400000 ≤ s.dev.tick → Stages (.recordRotate ch e.jidx) s ch e fun x =>
      x.shard.gen = (c.shard.gen + 1) % 2 ^ 32 ∧ x.shard.genCount = 0 ∧ x.cpl.result = x.shard.gen ∧ x.rollRaised = true ∧ x.leaf = none)) ∧
  (∀ k, Checked s ch e k → e.sub.opflag 0 = false → MayRun s ch e 0x0504 → Stages (.recordRetire ch e.jidx) s ch e fun x =>
    ∃ l, x.leaf = some l ∧ l.record = none ∧ l.wrapped = zeros 224 ∧ l.leaf = zeros 32 ∧ x.shard = c.shard) ∧
  (shardCheck c e.sub.meter = none → e.sub.opflag 0 = true → MayRun s ch e 0x0504 →
    let leaf := e.data 32 32
    (c.shard.gen < wrappedGen e.wrapped + 8 → Fails (.recordRetire ch e.jidx) s ch e ⟨0x0102, 16, 0⟩) ∧
    (wrappedGen e.wrapped + 8 ≤ c.shard.gen →
      ((boundaryOf e.sub.meter leaf e.proof).take 16 ≠ treeNode c.tree (groupOf e.sub.meter) →
        Fails (.recordRetire ch e.jidx) s ch e ⟨0x0203, 8, 0⟩) ∧
      ((boundaryOf e.sub.meter leaf e.proof).take 16 = treeNode c.tree (groupOf e.sub.meter) →
        Stages (.recordRetire ch e.jidx) s ch e fun x => ∃ l, x.leaf = some l ∧ l.record = none ∧ l.leaf = zeros 32))) ∧
  (MayRun s ch e 0x0F50 → let n := e.sub.phalf 56
    (n < 1024 → c.shard.assigned = false → servesShard c = false →
      (∀ srk c', engineDraw 1 32 c = .ok (srk, c') → Stages (.shardCreate ch e.jidx) s ch e fun x =>
        x.act = some (.create n e.sub.outAddr srk) ∧ x.leaf = none ∧ x.writes = [imageWrite e.jidx e.sub.outAddr []]) ∧
      (engineDraw 1 32 c = .error .waits → Ends (.shardCreate ch e.jidx) s (put s ch id))) ∧
    (1024 ≤ n ∨ c.shard.assigned = true → Fails (.shardCreate ch e.jidx) s ch e ⟨0x0102, 56, 0⟩)) ∧
  (MayRun s ch e 0x0F51 → servesShard c = true →
    (treeWritesUnsent c = true → Ends (.treeImage ch e.jidx) s (put s ch id)) ∧
    (treeWritesUnsent c = false → ∃ t n x, Ends (.treeImage ch e.jidx) s t ∧ (t.chan ch).entry e.jidx = some n ∧ n.state = .claimed ∧
      n.ready = some x ∧ n.writes = [imageWrite e.jidx e.sub.outAddr c.tree] ∧ x.act = some (.moveTree e.sub.outAddr) ∧ x.writes = [] ∧
      x.leaf = none ∧ Untouched c (t.chan ch))) ∧
  (MayRun s ch e 0x0F52 → Answers (.shardStatus ch e.jidx) s ch e 0 (shardStatusBytes c)) ∧
  (MayRun s ch e 0x0F20 → let l := heldSlots c.shard.slots
    Answers (.commitList ch e.jidx) s ch e l.length (leBytes 8 c.shard.epoch ++ [byte l.length, byte c.jr.lastReset] ++
      leBytes 2 (min c.jr.lost 0xFFFF) ++ leBytes 4 c.jr.replayed ++ zeros 16 ++ (l.map slotLine).flatten)) ∧
  (MayRun s ch e 0x0F21 →
    (c.shard.slots.getD (e.sub.pbyte 56 % 16) none = none → Answers (.commitRecover ch e.jidx) s ch e 0 []) ∧
    (∀ y, c.shard.slots.getD (e.sub.pbyte 56 % 16) none = some y →
      (y.meter ≠ e.sub.meter → Fails (.commitRecover ch e.jidx) s ch e ⟨0x0201, 0, 0⟩) ∧
      (y.meter = e.sub.meter → y.account = true → Fails (.commitRecover ch e.jidx) s ch e ⟨0x0102, 56, 0⟩) ∧
      (y.meter = e.sub.meter → y.account = false → match slotLeaf c.shard y with
        | none => Fails (.commitRecover ch e.jidx) s ch e ⟨0x0200, 0, 0⟩
        | some leaf =>
          let path := proofPath e.sub.meter leaf e.proof
          let root := treeRoot (treeSet c.tree (groupOf e.sub.meter) ((path.getLastD []).take 16))
          let a := accountSlot c.shard.slots y
          (root ≠ c.shard.root → Fails (.commitRecover ch e.jidx) s ch e ⟨0x0203, 22, 0⟩) ∧
          (root = c.shard.root → (a.isSome = true → e.sub.outAddr % 32 = 0 ∧ 224 ≤ e.sub.outLen ∧
              c.host.win.holds e.sub.outAddr e.sub.outLen = true) →
            ∃ t n, Ends (.commitRecover ch e.jidx) s t ∧ (t.chan ch).entry e.jidx = some n ∧ n.state = .claimed ∧ n.cpl.status = 0 ∧
              n.cpl.result = 1 ∧ n.slotIx = some (e.sub.pbyte 56 % 16) ∧ n.slotIx2 = a.map (·.1) ∧
              n.writes = (if y.record = zeros 224 then [] else [⟨.record, e.jidx, e.sub.recAddr, y.record⟩]) ++
                pathWrites c e.jidx e.sub.proofAddr e.sub.meter path ++
                (a.map fun x => (⟨.account, e.jidx, e.sub.outAddr, x.2.record⟩ : HostWrite)).toList ∧
              Untouched c (t.chan ch))))) ∧
  (MayRun s ch e 0x0F22 → let l := c.jr.entries.filter fun x => x.jidx != e.jidx
    Answers (.journalList ch e.jidx) s ch e l.length (leBytes 2 l.length ++ zeros 14 ++ (l.map journalLine).flatten))

/-- R120 to R129, R235, R236: recipes and settlement programs. A load that fails its admission, or finds no
room in the store, changes nothing. Covers RECIPE_LOAD,
RECIPE_LIST, RECIPE_REMOVE, PROGRAM_LOAD, PROGRAM_LIST, PROGRAM_REMOVE. -/
def Obligations.ImageJobs : Prop := ∀ (s : State) (ch : Ch) (e : JEntry),
  let c := s.chan ch
  let b := e.data 32 e.sub.inLen
  (MayRun s ch e 0x0F30 → loadBusy c e [0x0F30, 0x0F32] = false → let r := Recipe.ofBytes b
    (∀ k, recipeAdmit c.keys b = some k → Fails (.recipeLoad ch e.jidx) s ch e k.fail) ∧
    (recipeAdmit c.keys b = none → match versionCheck c.recipes r.id r.version b with
      | .error _ => Fails (.recipeLoad ch e.jidx) s ch e (checkField 6 0xFFFF).fail
      | .ok true => Answers (.recipeLoad ch e.jidx) s ch e (r.version + 2 ^ 33) []
      | .ok false => (areaUsed c.recipes + b.length ≤ 196608 ∨ c.recipes.draining = []) →
        match recipeSpace c.recipes r.id b.length with
        | some f => Fails (.recipeLoad ch e.jidx) s ch e f
        | none => match admitImage recipeStore (boundTo c.jr.entries recipeOf) c.recipes c.nv r.id r.version c.jr.serial b with
          | none => Fails (.recipeLoad ch e.jidx) s ch e storeFull
          | some x => Answers (.recipeLoad ch e.jidx) s ch e
              (r.version + 2 ^ 32 * b2n (c.recipes.loaded.any fun i => i.id == r.id)) [] ∧
            Gives (.recipeLoad ch e.jidx) s ch fun t => t.recipes = x.1 ∧ t.nv = x.2 ∧ t.programs = c.programs)) ∧
  (MayRun s ch e 0x0F31 → let l := imagesAscending c.recipes.loaded
    Answers (.recipeList ch e.jidx) s ch e l.length (leBytes 2 l.length ++ [0, 0] ++ leBytes 4 (loadedBytes c.recipes) ++
      leBytes 4 (storeFree recipeStore c.nv) ++ zeros 4 ++ (l.map (recipeLine c.recipes)).flatten)) ∧
  (MayRun s ch e 0x0F32 → loadBusy c e [0x0F30, 0x0F32] = false →
    ((∀ i ∈ c.recipes.loaded, i.id ≠ e.sub.recipe) → Fails (.recipeRemove ch e.jidx) s ch e ⟨0x0108, 0, 0⟩) ∧
    ((∃ i ∈ c.recipes.loaded, i.id = e.sub.recipe) →
      match removeImage recipeStore (boundTo c.jr.entries recipeOf) c.recipes c.nv e.sub.recipe c.jr.serial with
      | none => Fails (.recipeRemove ch e.jidx) s ch e storeFull
      | some x => Answers (.recipeRemove ch e.jidx) s ch e 0 [] ∧ Gives (.recipeRemove ch e.jidx) s ch fun t =>
          t.recipes = x.1 ∧ t.nv = x.2 ∧ (∀ i ∈ t.recipes.loaded, i.id ≠ e.sub.recipe) ∧ t.programs = c.programs)) ∧
  (MayRun s ch e 0x0F70 → loadBusy c e [0x0F70, 0x0F72] = false → let p := Program.ofBytes b
    (∀ k, programAdmit c.keys b = some k → Fails (.programLoad ch e.jidx) s ch e k.fail) ∧
    (programAdmit c.keys b = none → match versionCheck c.programs p.id p.version b with
      | .error _ => Fails (.programLoad ch e.jidx) s ch e (rejected 9 0xFFFF).fail
      | .ok true => Answers (.programLoad ch e.jidx) s ch e (p.version + 2 ^ 33) []
      | .ok false => (areaUsed c.programs + b.length ≤ 262144 ∨ c.programs.draining = []) →
        match programSpace c.programs p.id b.length with
        | some f => Fails (.programLoad ch e.jidx) s ch e f
        | none => match admitImage settleStore (settleBound c.jr.entries) c.programs c.nv p.id p.version c.jr.serial b with
          | none => Fails (.programLoad ch e.jidx) s ch e storeFull
          | some x => Answers (.programLoad ch e.jidx) s ch e
              (p.version + 2 ^ 32 * b2n (c.programs.loaded.any fun i => i.id == p.id)) [] ∧
            Gives (.programLoad ch e.jidx) s ch fun t => t.programs = x.1 ∧ t.nv = x.2 ∧ t.recipes = c.recipes)) ∧
  (MayRun s ch e 0x0F71 → let l := imagesAscending c.programs.loaded
    Answers (.programList ch e.jidx) s ch e l.length (leBytes 2 l.length ++ [0, 0] ++ leBytes 4 (loadedBytes c.programs) ++
      leBytes 4 (storeFree settleStore c.nv) ++ zeros 4 ++ (l.map (programLine c.programs)).flatten)) ∧
  (MayRun s ch e 0x0F72 → loadBusy c e [0x0F70, 0x0F72] = false →
    ((∀ i ∈ c.programs.loaded, i.id ≠ e.sub.recipe) → Fails (.programRemove ch e.jidx) s ch e ⟨0x0108, 0, 0⟩) ∧
    ((∃ i ∈ c.programs.loaded, i.id = e.sub.recipe) →
      match removeImage settleStore (settleBound c.jr.entries) c.programs c.nv e.sub.recipe c.jr.serial with
      | none => Fails (.programRemove ch e.jidx) s ch e storeFull
      | some x => Answers (.programRemove ch e.jidx) s ch e 0 [] ∧ Gives (.programRemove ch e.jidx) s ch fun t =>
          t.programs = x.1 ∧ t.nv = x.2 ∧ (∀ i ∈ t.programs.loaded, i.id ≠ e.sub.recipe) ∧ t.recipes = c.recipes))

/-- R227 to R249: the settlement jobs. Record and account are committed together, and the account sequence goes on by one; a
statement is signed with a drawn nonce, and the job waits while no batch may be pushed (R181, R191). Covers
SETTLE_RUN, SETTLE_OPEN, SETTLE_ADJUST, SETTLE_CLOSE. -/
def Obligations.SettlementJobs : Prop := ∀ (s : State) (ch : Ch) (e : JEntry) (k : RecCheck) (n : MRec),
  let c := seen s ch e
  let b := e.data 32 16
  let stamp := (c.shard.epoch + 1) % 2 ^ 32
  Checked s ch e k → reserveIn c.shard (c.gov.soloNow s.dev.tick) k.record = .ok n →
  (MayRun s ch e 0x0602 →
    (refOpen k.record.settleRef = true → Fails (.settleOpen ch e.jidx) s ch e ⟨0x0102, 12, 0⟩) ∧
    (∀ p seq key, refOpen k.record.settleRef = false → slice b 2 2 = zeros 2 → slice b 8 8 = zeros 8 →
      jobProgram c (fieldLE b 0 2) e.serial = some p → nextSeq k.record.settleRef = some seq → statementKey c = some key →
      let head := statementHead ch s.dev p e.sub.meter (2 ^ 31 + seq) 0xFF 3 (int32 (fieldLE b 4 4)) 0xFFFFFFFF 0 0
      (signStatement key head c = .error .waits → Ends (.settleOpen ch e.jidx) s (setChan s ch c)) ∧
      ∀ st c', signStatement key head c = .ok (st, c') → Stages (.settleOpen ch e.jidx) s ch e fun x => x.units = 0 ∧ x.cpl.outBytes = 384 ∧ ∃ l, x.leaf = some l ∧
        l.record = some { n with settleRef := 2 ^ 31 + seq, lastEpoch := stamp } ∧ l.account.isSome = true)) ∧
  (∀ a p, accountCheck c k.record (e.data 56 224) = .ok a → jobProgram c a.program e.serial = some p → p.layout = a.layout →
    (MayRun s ch e 0x0603 →
      (slice b 4 4 ≠ zeros 4 ∨ p.maxAdjust < (int32 (fieldLE b 0 4)).natAbs ∨ a.balance + int32 (fieldLE b 0 4) < -2 ^ 31 ∨
        2 ^ 31 ≤ a.balance + int32 (fieldLE b 0 4) → Fails (.settleAdjust ch e.jidx) s ch e ⟨0x0102, 32, 0⟩) ∧
      (∀ seq key, slice b 4 4 = zeros 4 → (int32 (fieldLE b 0 4)).natAbs ≤ p.maxAdjust → -2 ^ 31 ≤ a.balance + int32 (fieldLE b 0 4) →
        a.balance + int32 (fieldLE b 0 4) < 2 ^ 31 → nextSeq a.ref = some seq → statementKey c = some key →
        ∀ st c', signStatement key (statementHead ch s.dev p e.sub.meter (2 ^ 31 + seq) 0xFF 2 (a.balance + int32 (fieldLE b 0 4)) 0xFFFFFFFF
          0 (fieldLE b 8 8)) c = .ok (st, c') →
        Stages (.settleAdjust ch e.jidx) s ch e fun x => x.units = 0 ∧ x.cpl.outBytes = 160 ∧ ∃ l, x.leaf = some l ∧
          l.record = some { n with settleRef := 2 ^ 31 + seq, lastEpoch := stamp } ∧ l.account.isSome = true)) ∧
    (MayRun s ch e 0x0604 → ∀ seq key, nextSeq a.ref = some seq → statementKey c = some key →
      ∀ st c', signStatement key (statementHead ch s.dev p e.sub.meter seq 0xFF 4 a.balance 0xFFFFFFFF 0 0) c = .ok (st, c') →
      Stages (.settleClose ch e.jidx) s ch e fun x => x.units = 0 ∧ ∃ l, x.leaf = some l ∧
        l.record = some { n with settleRef := seq, lastEpoch := stamp } ∧ l.account = none) ∧
    (MayRun s ch e 0x0601 → settleBusy (s.chan ch) e = false → ∀ seq, nextSeq a.ref = some seq →
      match jobSamples c p e a.lastMin with
      | .error f => Fails (.settleRun ch e.jidx) s ch e f
      | .ok l =>
        (l = [] → a.owed = 0 → Stages (.settleRun ch e.jidx) s ch e fun x => x.units = 0 ∧ x.cpl.outBytes = 32 ∧ ∃ l, x.leaf = some l ∧
          l.record = some { n with settleRef := 2 ^ 31 + seq, lastEpoch := stamp } ∧ l.account.isSome = true) ∧
        (l ≠ [] → 12000000 < (l.length + 1) * p.cycleLimit → Fails (.settleRun ch e.jidx) s ch e ⟨0x0105, 48, 0⟩) ∧
        (l ≠ [] → (l.length + 1) * p.cycleLimit ≤ 12000000 → Ends (.settleRun ch e.jidx) s (collect ch (setChan s ch
          (match runProgram ch s.dev p a l c with
          | .error (f, x) => failE e f x
          | .ok r => settleActions ch s.dev e k a p seq l r r.chan))))))

/-- R181, R186, R191, R196 to R201: verify, sign, attest and export, each job that has its turn at the engine. A signature whose own check fails is not released, and the channel is reported.
Covers SIG_VERIFY, RSA_VERIFY, RSA_SIGN, ATTEST, PUBKEY_EXPORT. -/
def Obligations.SignatureJobs : Prop := ∀ (s : State) (ch : Ch) (e : JEntry),
  let c := turned e (s.chan ch)
  let m := e.sub
  let b := e.data 32 m.inLen
  let turn := engineTurn (s.chan ch) e = true
  (MayRun s ch e 0x0301 → turn → (∀ f, sigVerifyParam m = some f → Fails (.sigVerify ch e.jidx) s ch e f) ∧
    (sigVerifyParam m = none →
      let cv := curveOf (m.pbyte 56)
      let l := curveLen cv
      let keyLen := if m.pbyte 57 = 0 then 2 * l + 16 else 0
      let rest := b.drop (keyLen + 2 * l)
      let verdict (pub : Option Bytes) := sigVerdict cv pub (if m.pbyte 59 = 1 then rest else hash (curveHash cv) rest) (slice b keyLen (2 * l))
      let ends (v : Option Fail) : Prop := match v with
        | some f => Fails (.sigVerify ch e.jidx) s ch e f
        | none => Answers (.sigVerify ch e.jidx) s ch e 0 []
      (m.pbyte 57 = 0 → ends (verdict (pubkeyPoint cv (b.take keyLen)))) ∧
      (m.pbyte 57 = 1 → ∀ k, Checked s ch e k → k.record.suite = m.pbyte 56 → c.shard.gen < k.gen + 4 →
        ends (verdict (sec1Point cv (k.record.sigkey.take k.record.sigkeyLen)))) ∧
      (m.pbyte 57 = 2 → (c.keys.slot (16 + m.pbyte 58) = none → Fails (.sigVerify ch e.jidx) s ch e ⟨0x0102, 58, 0⟩) ∧
        ∀ k, c.keys.slot (16 + m.pbyte 58) = some k → k.material.length = 2 * l → ends (verdict (some k.material))))) ∧
  (MayRun s ch e 0x0302 → turn → m.pbyte 56 ∈ [1, 2] → m.inLen < 16 + 2 * rsaLen m → Fails (.rsaVerify ch e.jidx) s ch e ⟨0x0105, 48, 0⟩) ∧
  (MayRun s ch e 0x0302 → turn → rsaParamOk m false = true →
    let k := rsaLen m
    let alg := hashOf (m.pbyte 58)
    16 + 2 * k ≤ m.inLen → (m.pbyte 59 = 1 → m.inLen = 16 + 2 * k + hashLen alg) →
    let rest := b.drop (16 + 2 * k)
    let digest := if m.pbyte 59 = 1 then rest else hash alg rest
    (rsaKeyRange (fieldBE b 16 k) (fieldBE b 12 4) k = false → Fails (.rsaVerify ch e.jidx) s ch e ⟨0x0102, 32, 0⟩) ∧
    (rsaKeyRange (fieldBE b 16 k) (fieldBE b 12 4) k = true → match rsaPublic (fieldBE b 16 k) (fieldBE b 12 4) k (slice b (16 + k) k) with
      | none => Fails (.rsaVerify ch e.jidx) s ch e ⟨0x0306, 0, 0⟩
      | some em => ∀ z c', engineDraw 0 4 c = .ok (z, c') →
        if (if m.pbyte 57 = 1 then em == emsaPkcs1 alg digest k else emsaPssVerify alg digest (Nat.log2 (fieldBE b 16 k)) em (m.pbyte 61)) = true then
          Answers (.rsaVerify ch e.jidx) s ch e 0 []
        else Fails (.rsaVerify ch e.jidx) s ch e ⟨0x0306, 0, 0⟩)) ∧
  (MayRun s ch e 0x0310 → turn → rsaParamOk m true = true →
    let k := rsaLen m
    let alg := hashOf (m.pbyte 58)
    (m.pbyte 59 = 1 → m.inLen = hashLen alg) → k ≤ m.outLen →
    (c.keys.slot (8 + m.pbyte 60) = none → Fails (.rsaSign ch e.jidx) s ch e ⟨0x0102, 60, 0⟩) ∧
    (∀ key, c.keys.slot (8 + m.pbyte 60) = some key → rsaSlotLen key.material = k →
      let digest := if m.pbyte 59 = 1 then b else hash alg b
      let draws := signDraws (if m.pbyte 57 = 2 then m.pbyte 61 else 0) c
      (draws = .error .waits → Ends (.rsaSign ch e.jidx) s (collect ch (setChan s ch c))) ∧
      ∀ salt c', draws = .ok (salt, c') →
      let em := if m.pbyte 57 = 1 then emsaPkcs1 alg digest k else emsaPss alg digest salt (Nat.log2 (rsaField key.material 16 k)) k
      match rsaPrivateChecked k key.material (beNat em) with
      | some sig => Answers (.rsaSign ch e.jidx) s ch e 0 sig
      | none => ∃ t n, Ends (.rsaSign ch e.jidx) s t ∧ (t.chan ch).entry e.jidx = some n ∧ n.cpl.status = 0x0A00 ∧ n.cpl.detail = 0x04 ∧
          n.writes = [] ∧ (t.chan ch).pke.errcnt = sat16 (c.pke.errcnt + 1) ∧ (t.chan ch).pke.queue = [] ∧ (t.chan ch).pke.key = none)) ∧
  (MayRun s ch e 0x0311 → turn → (c.keys.scalar .p384 5 = none → Fails (.attest ch e.jidx) s ch e ⟨0x0102, 0, 0⟩) ∧
    ∀ key, c.keys.scalar .p384 5 = some key → let body := attestBody ch s.dev (e.data 32 32) c
      (∀ sig c', signFresh .p384 key (sha384 body) c = .ok (sig, c') → Answers (.attest ch e.jidx) s ch e 0 (body ++ sig)) ∧
      (signFresh .p384 key (sha384 body) c = .error .waits → Ends (.attest ch e.jidx) s (setChan s ch c)) ∧
      (signFresh .p384 key (sha384 body) c = .error .withheld → Fails (.attest ch e.jidx) s ch e ⟨0x0A00, 0x06, 0⟩)) ∧
  (MayRun s ch e 0x0F60 → let sel := m.pbyte 56
    (selectorOk sel = false → Fails (.pubkeyExport ch e.jidx) s ch e ⟨0x0102, 56, 0⟩) ∧
    (selectorOk sel = true → (∀ p ∈ c.keys.slots, p.1 ≠ sel) → Answers (.pubkeyExport ch e.jidx) s ch e 0 (zeros 16)) ∧
    (∀ p, selectorOk sel = true → c.keys.slots.find? (fun p => p.1 == sel) = some p → let d := keyDescriptor sel p.2
      Answers (.pubkeyExport ch e.jidx) s ch e d.2.length
        ([byte d.1, byte (if p.2.faulty then 2 else 1)] ++ zeros 6 ++ (sha256 d.2).take 8 ++ d.2)))

/-- R167, R168, R368 to R393: what a channel of a pair sends, how its role changes, and what the battery transaction of each such commit
does. Covers NOTE_BUILD, PAIR_BEAT, SNAPSHOT_START, SNAPSHOT_CHUNK,
SNAPSHOT_COMMIT, PROMOTE, RELINQUISH, PAIR_BIND_ACTIVE, PAIR_BIND_STANDBY, PAIR_UNBIND, PAIR_STATUS, REVOCATION_LOAD. -/
def Obligations.PairJobs : Prop := ∀ (s : State) (ch : Ch) (e : JEntry),
  let c := s.chan ch
  let q := c.pair
  let m := e.sub
  (fleetReady s.dev c = false → ∀ row ∈ [(Instr.noteBuild ch e.jidx, 0x0701), (.pairBeat ch e.jidx, 0x0702)],
    MayRun s ch e row.2 → Fails row.1 s ch e ⟨0x0602, 0, 0⟩) ∧
  (MayRun s ch e 0x0F82 → Answers (.pairStatus ch e.jidx) s ch e 0 (pairStatusBytes s.dev c)) ∧
  (fleetReady s.dev c = true → activePaired c = true →
    (MayRun s ch e 0x0701 → (q.syncLost = true → Fails (.noteBuild ch e.jidx) s ch e ⟨0x0601, 0, 0⟩) ∧
      (q.syncLost = false → Answers (.noteBuild ch e.jidx) s ch e c.shard.epoch (buildMessage ch s.dev 1 (notePayload c) c).1 ∧
        ∃ t, Ends (.noteBuild ch e.jidx) s t ∧ (t.chan ch).pair = { q with
          unacked := q.unacked ++ q.buffer, buffer := [], lastNote := some (c.shard.epoch, c.shard.root), pseq := q.pseq + 1 })) ∧
    (MayRun s ch e 0x0702 → Answers (.pairBeat ch e.jidx) s ch e 0 (buildMessage ch s.dev 3 (leBytes 8 s.dev.tick ++
      leBytes 8 c.shard.epoch ++ leBytes 8 c.shard.ackEpoch ++ [1] ++ zeros 7) c).1) ∧
    (MayRun s ch e 0x0703 → m.param / 256 % 2 ^ 24 = 0 →
      (m.pbyte 56 = 0 → pairQuiet c = true → StagesAct (.snapshotStart ch e.jidx) s ch e 0 (.snapStart ((q.snapId + 1) % 2 ^ 32))
        (outWrite e.jidx m (buildMessage ch s.dev 4 (chunkHead ((q.snapId + 1) % 2 ^ 32) 0 c.shard.epoch ++ chunkState c) c).1)) ∧
      (1 ≤ m.pbyte 56 → m.pbyte 56 ≤ 4 → pairQuiet c = true → q.syncLost = false → m.param / 2 ^ 32 = q.snapId →
        StagesAct (.snapshotChunk ch e.jidx) s ch e 0 .snapChunk (outWrite e.jidx m (buildMessage ch s.dev 4
          (chunkHead q.snapId (m.pbyte 56) c.shard.epoch ++
            ((List.range 4096).map fun i => padTo 16 (treeNode c.tree (4096 * (m.pbyte 56 - 1) + i))).flatten) c).1)) ∧
      (m.pbyte 56 = 0xFF → q.syncLost = false → m.param / 2 ^ 32 = q.snapId → ∀ ep root, q.lastNote = some (ep, root) →
        Answers (.snapshotCommit ch e.jidx) s ch e 0 (buildMessage ch s.dev 5
          (leBytes 4 q.snapId ++ zeros 4 ++ leBytes 8 ep ++ padTo 16 root) c).1) ∧
      (m.pbyte 56 = 0xFF → q.lastNote = none → Fails (.snapshotCommit ch e.jidx) s ch e ⟨0x0601, 0, 0⟩)) ∧
    (MayRun s ch e 0x0705 → pairQuiet c = true → (relinquishOk s.dev c = true → StagesAct (.relinquish ch e.jidx) s ch e 0 .relinquish
        (outWrite e.jidx m (buildMessage ch s.dev 6 (relinquishPayload s.dev c) c).1)) ∧
      (relinquishOk s.dev c = false → Fails (.relinquish ch e.jidx) s ch e ⟨0x0602, 0, 0⟩))) ∧
  (MayRun s ch e 0x0704 → pairQuiet c = true → fleetReady s.dev c = true →
    (q.role ≠ .standby → ∀ image, Fails (.promote ch e.jidx image) s ch e ⟨0x0602, 0, 0⟩) ∧
    (q.role = .standby → freshActiveBeat s.dev c = false → (Fails (.promote ch e.jidx none) s ch e ⟨0x0109, 0, 0⟩) ∧
      ∀ b, c.host.win.holds c.shard.treeBase 262144 = true →
        (treeRoot (treeRebuilt b c) ≠ c.shard.root → Fails (.promote ch e.jidx (some b)) s ch e ⟨0x0203, 22, 0⟩) ∧
        (treeRoot (treeRebuilt b c) = c.shard.root →
          StagesAct (.promote ch e.jidx (some b)) s ch e ((c.shard.promo + 1) % 2 ^ 32) (.promote (treeRebuilt b c)) []))) ∧
  (MayRun s ch e 0x0F80 → pairQuiet c = true → bindCheck s.dev e c = none →
    (m.pbyte 56 = 1 → m.pbyte 57 = 0 → servesShard c = true → q.role = .none →
      StagesAct (.pairBindActive ch e.jidx) s ch e 0 (.bindActive (m.phalf 58, m.pbyte 60) (m.pbyte 61)) []) ∧
    (m.pbyte 56 = 2 → (m.pbyte 57 = 1 ∨ (c.shard.assigned = false ∧ q.role = .none)) →
      StagesAct (.pairBindStandby ch e.jidx) s ch e 0
        (.bindStandby (decide (m.pbyte 57 = 1)) (m.phalf 58, m.pbyte 60) (m.phalf 62) m.outAddr) []) ∧
    (m.pbyte 56 = 2 → m.pbyte 57 = 0 → c.shard.assigned = true → Fails (.pairBindStandby ch e.jidx) s ch e ⟨0x0602, 0, 0⟩)) ∧
  (MayRun s ch e 0x0F81 → pairQuiet c = true → fleetReady s.dev c = true → StagesAct (.pairUnbind ch e.jidx) s ch e 0 .unbind []) ∧
  (MayRun s ch e 0x0F83 → pairQuiet c = true → fleetReady s.dev c = true → let b := e.data 32 m.inLen
    match listCheck c b with
    | some f => Fails (.revocationLoad ch e.jidx) s ch e f
    | none => StagesAct (.revocationLoad ch e.jidx) s ch e 0 (.revoke (fieldLE b 4 4) (listMembers b)) []) ∧
  (∀ (en : JEntry) (x : Effect) (g : Governor) (a : ShardAct), s.dev.has ch = true → s.pw.link = true →
    c.jr.entries.find? (fun o => o.state == .committing) = some en → Holds c en → en.ready = some x → x.act = some a → x.leaf = none →
    x.items = [] → x.ded = none → x.gov.take s.dev.tick x.units = some g → Gives (.batteryTransactionDone ch) s ch fun t =>
      t.shard.lastTxn = (s.dev.bootCount, en.serial) ∧ match a with
      | .snapStart snap => t.pair = { q with snapId := snap, buffer := [], unacked := [], syncLost := false, lastNote := none }
      | .snapChunk => t.pair = { q with lastNote := none }
      | .promote tree => t.pair.role = .active ∧ t.pair.peer = none ∧ t.pair.syncLost = true ∧ t.shard.promo = (x.shard.promo + 1) % 2 ^ 32 ∧
          t.shard.ackEpoch = x.shard.epoch ∧ t.shard.rollDue = true ∧ t.gov.holdUntil = s.dev.tick + g.window * 1000 ∧
          t.gov.token = none ∧ t.gov.log = g.log ∧ t.tree = tree ∧ t.cache = []
      | .relinquish => t.pair.role = .standby ∧ t.cache = [] ∧ t.pair.peer = q.peer ∧ t.gov.budget = g.budget
      | .note tree epoch gen b w => t.tree = tree ∧ t.shard.epoch = epoch ∧ t.shard.root = treeRoot tree ∧ t.shard.gen = gen ∧
          t.gov.budget = b ∧ t.gov.window = w ∧ t.cache = [] ∧ t.gov.log = g.log ∧ t.pair = q
      | .ack ep => t.shard.ackEpoch = ep ∧ t.shard.epoch = x.shard.epoch ∧ t.pair.unacked = q.unacked.filter fun i => ep < i.1.epoch
      | .adopt y base => t.shard.assigned = true ∧ t.shard.shard = y.shard ∧ t.shard.epoch = y.epoch ∧ t.shard.promo = y.promo ∧
          t.shard.gen = y.gen ∧ t.shard.srk = y.srk ∧ t.shard.root = treeRoot y.nodes ∧ t.shard.treeBase = base ∧ t.tree = y.nodes ∧
          t.treeOk = true ∧ t.pair.role = .standby ∧ t.pair.shadow = none ∧ t.gov.budget = y.b ∧ t.gov.window = y.w ∧
          t.shard.wrapCtr = x.shard.wrapCtr
      | .takeOver b w token log => t.pair.role = .active ∧ t.gov.budget = b ∧ t.gov.window = w ∧ t.gov.token = token ∧ t.gov.log = log ∧
          t.shard.ackEpoch = x.shard.epoch ∧ t.pair.buffer = [] ∧ t.tree = c.tree
      | .bindActive peer lag => t.pair.role = .active ∧ t.pair.peer = some peer ∧ t.pair.ackLag = lag ∧ t.pair.syncLost = true ∧
          t.gov.solo = none
      | .bindStandby discard peer shard base => t.pair.role = .standbyEmpty ∧ t.pair.peer = some peer ∧ t.pair.bindShard = shard ∧
          t.pair.bindTreeBase = base ∧ t.shard.wrapCtr = x.shard.wrapCtr ∧ (discard = true → t.shard.assigned = false ∧ t.tree = [])
      | .unbind => t.pair.role = .none ∧ t.pair.peer = none ∧ (q.role = .active → t.tree = c.tree ∧ t.shard.root = x.shard.root) ∧
          (q.role = .standby → t.tree = [] ∧ t.shard.assigned = false)
      | .revoke seq ms => t.pair.listSeq = seq ∧ t.pair.revoked = ms ∧
          (∀ p, q.peer = some p → q.role = .active → p.1 ∈ ms → t.pair.role = .none ∧ t.pair.peer = none)
      | .create n base srk => t.shard.assigned = true ∧ t.shard.shard = n ∧ t.shard.epoch = 0 ∧ t.shard.gen = 1 ∧ t.shard.srk = srk ∧
          t.shard.root = treeRoot [] ∧ t.tree = [] ∧ t.treeOk = true ∧ t.shard.treeBase = base ∧ t.shard.wrapCtr = x.shard.wrapCtr ∧
          t.backups.lastTick = s.dev.tick ∧ t.backups.lastEpoch = 0
      | .moveTree base => t.shard.treeBase = base ∧ t.tree = c.tree ∧ t.shard.root = x.shard.root)

/-- R374, R378 to R388: what a channel does with the messages of its peer. A message that fails a check changes nothing. Covers
PAIR_RECEIVE, RECEIVE_NOTE, RECEIVE_ACK, RECEIVE_BEAT, RECEIVE_CHUNK, RECEIVE_COMMIT, RECEIVE_RELINQUISH. -/
def Obligations.PairMessages : Prop := ∀ (s : State) (ch : Ch) (e : JEntry), MayRun s ch e 0x0710 →
  let c := s.chan ch
  let q := c.pair
  let b := e.data 32 e.sub.inLen
  let rows : List (Nat × Instr) := [(1, .receiveNote ch e.jidx), (2, .receiveAck ch e.jidx), (3, .receiveBeat ch e.jidx), (4, .receiveChunk ch e.jidx),
    (5, .receiveCommit ch e.jidx), (6, .receiveRelinquish ch e.jidx)]
  (∀ f, messageCheck ch s.dev c b = .error f → Fails (.pairReceive ch e.jidx) s ch e f ∧
    (e.checked = true → pairQuiet c = true → ∀ row ∈ rows, Fails row.2 s ch e f)) ∧
  (∀ m p, messageCheck ch s.dev c b = .ok (m, p) →
    Ends (.pairReceive ch e.jidx) s (put s ch (onEntry e.jidx fun x => { x with checked := true })) ∧
    (e.checked = false → ∀ row ∈ rows, Ends row.2 s (put s ch id)) ∧
    (e.checked = true → pairQuiet c = true → (∀ row ∈ rows, m.kind ≠ row.1 → Ends row.2 s (put s ch id)) ∧
      (m.kind = 1 → 96 + 64 * fieldLE p 32 2 ≤ e.sub.outLen → q.shadow = none → q.role = .standby →
        match applyNote true p { nodes := c.tree, epoch := c.shard.epoch, b := c.gov.budget, w := c.gov.window, gen := c.shard.gen } with
        | .error f => Fails (.receiveNote ch e.jidx) s ch e f
        | .ok none => Answers (.receiveNote ch e.jidx) s ch e 0 (buildMessage ch s.dev 2 (ackPayload c.shard.epoch c.shard.root) c).1
        | .ok (some y) => Stages (.receiveNote ch e.jidx) s ch e fun x => x.act = some (.note y.nodes y.epoch y.gen y.b y.w) ∧ x.leaf = none ∧
            x.writes.filter (·.kind == .output) = outWrite e.jidx e.sub ((buildMessage ch s.dev 2 (ackPayload y.epoch (treeRoot y.nodes)) c).1 ++
              (y.applied.map NoteItem.toBytes).flatten)) ∧
      (m.kind = 1 → 96 + 64 * fieldLE p 32 2 ≤ e.sub.outLen → ∀ x, q.shadow = some x →
        (∀ k, missingChunk x = some k → Fails (.receiveNote ch e.jidx) s ch e ⟨0x0604, k, 0⟩) ∧
        (missingChunk x = none → ∀ y, applyNote false p { nodes := x.nodes, epoch := x.epoch, b := x.b, w := x.w, gen := x.gen } = .ok (some y) →
          Gives (.receiveNote ch e.jidx) s ch fun t => t.pair.shadow = some { x with
            nodes := y.nodes, epoch := y.epoch, b := y.b, w := y.w, gen := y.gen } ∧ t.tree = c.tree ∧ t.shard = c.shard)) ∧
      (m.kind = 2 → let ep := fieldLE p 0 8
        (c.shard.epoch < ep → Fails (.receiveAck ch e.jidx) s ch e ⟨0x0601, 0, 0⟩) ∧
        (ep ≤ c.shard.ackEpoch → ep ≤ c.shard.epoch → Answers (.receiveAck ch e.jidx) s ch e 0 []) ∧
        (ep ≤ c.shard.epoch → c.shard.ackEpoch < ep → q.syncLost = false → StagesAct (.receiveAck ch e.jidx) s ch e 0 (.ack ep) [])) ∧
      (m.kind = 3 → let late := q.beatTicks.any fun x => x.1 == m.snonce && fieldLE p 0 8 ≤ x.2
        (late = true → Fails (.receiveBeat ch e.jidx) s ch e ⟨0x0601, 0, 0⟩) ∧
        (late = false → Answers (.receiveBeat ch e.jidx) s ch e 0 [] ∧ ∃ t, Ends (.receiveBeat ch e.jidx) s t ∧
          (t.chan ch).pair.lastBeat = some (s.dev.tick, roleOf (fieldLE p 24 1)) ∧ (t.chan ch).shard = c.shard)) ∧
      (m.kind = 4 → fieldLE p 4 1 = 0 → m.len = 144 → slice p 5 3 = zeros 3 → q.shadow = none →
        Answers (.receiveChunk ch e.jidx) s ch e 0 [] ∧ ∃ t, Ends (.receiveChunk ch e.jidx) s t ∧
          (t.chan ch).pair = { q with shadow := some (shadowOf p) } ∧ (t.chan ch).shard = c.shard ∧ (t.chan ch).tree = c.tree) ∧
      (m.kind = 4 → m.len = 65552 → ∀ x, q.shadow = some x → let k := fieldLE p 4 1
        slice p 5 3 = zeros 3 → 1 ≤ k → k ≤ 4 → fieldLE p 0 4 = x.snapId → k ∉ x.chunks → ∃ t, Ends (.receiveChunk ch e.jidx) s t ∧
          (t.chan ch).pair = { q with shadow := some (stageChunk k p x) } ∧ (t.chan ch).tree = c.tree) ∧
      (m.kind = 5 → 96 ≤ e.sub.outLen → (q.shadow = none → Fails (.receiveCommit ch e.jidx) s ch e ⟨0x0604, 0, 0⟩) ∧
        ∀ x, q.shadow = some x → fieldLE p 0 4 = x.snapId → missingChunk x = none → fieldLE p 8 8 = x.epoch →
          treeRoot x.nodes = slice p 16 16 →
          let base := if q.role = .standbyEmpty then q.bindTreeBase else c.shard.treeBase
          StagesAct (.receiveCommit ch e.jidx) s ch e 0 (.adopt x base) (imageWrite e.jidx base x.nodes ::
            outWrite e.jidx e.sub (buildMessage ch s.dev 2 (ackPayload x.epoch (treeRoot x.nodes)) c).1)) ∧
      (m.kind = 6 → m.len = 40 + 4 * fieldLE p 36 2 → slice p 38 2 = zeros 2 → fieldLE p 0 8 = c.shard.epoch →
        slice p 8 16 = padTo 16 c.shard.root → StagesAct (.receiveRelinquish ch e.jidx) s ch e 0
        (.takeOver (fieldLE p 24 2) (fieldLE p 26 2)
          (if fieldLE p 28 4 = 0 then none else some (fieldLE p 28 4, s.dev.tick + 1000 * fieldLE p 32 4))
          ((List.range (fieldLE p 36 2)).map fun i => s.dev.tick - fieldLE p (40 + 4 * i) 4)) [])))

/-- R102 to R109, R113, R125, R131, R142, R155, R157, R380, R389, R390: what time does to a channel's jobs, and the frame unit. Covers
GRANT_AGE_OUT, CHALLENGE_EXPIRY, TOKEN_EXPIRY, PROMOTION_HOLD_END, SOLO_PERMIT_EXPIRY, ROOT_BACKUP, TREE_CHECKPOINT,
KEEP_PREFERENCE_EXPIRY, RECIPE_VERSION_DRAINED, ACK_OVERDUE, ACK_LAG_RELEASE, FRAME_UNIT_GO, FRAME_UNIT_PHASE_DONE. -/
def Obligations.ChannelTimers : Prop := ∀ (s : State) (ch : Ch), s.dev.has ch = true →
  let c := s.chan ch
  let g := c.gov
  let tick := s.dev.tick
  let above := g.budget != 0 && decide (g.ninety ≤ g.used tick)
  let lapse (f : Governor → Governor) : State := put s ch fun c => { c with gov := f c.gov }
  (above = false → Ends (.grantAgeOut ch) s (lapse fun g => { g with above90 := false })) ∧
  (above = true → g.above90 = true → Ends (.grantAgeOut ch) s (put s ch id)) ∧
  (above = true → g.above90 = false → ∃ t, Ends (.grantAgeOut ch) s t ∧ (t.chan ch).gov = { g with above90 := true } ∧
    (t.chan ch).host.irqStat.getLsbD 15 = true) ∧
  (∀ n t0, g.challenge = some (n, t0) → Ends (.challengeExpiry ch) s (lapse fun g => { g with
    challenge := if tick < t0 + 900000 then g.challenge else none })) ∧
  (∀ u t0, g.token = some (u, t0) → Ends (.tokenExpiry ch) s (lapse fun g => { g with token := if tick < t0 then g.token else none })) ∧
  Ends (.promotionHoldEnd ch) s (lapse fun g => { g with holdUntil := if tick < g.holdUntil then g.holdUntil else 0 }) ∧
  (∀ t0, g.solo = some (some t0) → Ends (.soloPermitExpiry ch) s (lapse fun g => { g with solo := if tick < t0 then g.solo else none })) ∧
  (g.solo = some none → Ends (.soloPermitExpiry ch) s (put s ch id)) ∧
  (c.shard.assigned = true → c.held = false → c.shard.epoch ≠ c.backups.lastEpoch → c.backups.lastTick + 60000 ≤ tick →
    debtWaits .rootBackup s.dev c = false → Ends (.rootBackup ch) s (put s ch fun c => { c with
      nv := c.nv.writeRing (backupOf c), backups := { c.backups with lastTick := tick, lastEpoch := c.shard.epoch } })) ∧
  (c.held = true ∨ c.shard.epoch = c.backups.lastEpoch ∨ tick < c.backups.lastTick + 60000 ∨ debtWaits .rootBackup s.dev c = true →
    Ends (.rootBackup ch) s (put s ch id)) ∧
  (c.shard.assigned = true → c.held = false → c.treeOk = true → c.backups.rootTick + 10000 ≤ tick → c.backups.checkpoint = none →
    Ends (.treeCheckpoint ch) s (put s ch fun c => { c with
      nv := c.nv.writeCheckpoint c.tree
      backups := { c.backups with checkpoint := some (c.shard.epoch, checkpointDigest c.tree, tick) } })) ∧
  (∀ ep x t0, c.backups.checkpoint = some (ep, x, t0) → tick < t0 + 86400000 → Ends (.treeCheckpoint ch) s (put s ch id)) ∧
  Ends (.keepPreferenceExpiry ch) s (put s ch fun c => { c with
    cache := c.cache.map fun x => { x with keep := x.keep && decide (tick < x.used + 60000) } }) ∧
  (∃ t, Ends (.recipeVersionDrained ch) s t ∧ (t.chan ch).recipes.loaded = c.recipes.loaded ∧
    (t.chan ch).recipes.draining = (c.recipes.draining.filter fun i => boundTo c.jr.entries recipeOf i) ∧
    (t.chan ch).programs.loaded = c.programs.loaded) ∧
  (activePaired c = true → unackedItems c = true → c.pair.overdue = false → c.pair.ackTick + 50 ≤ tick → ∃ t, Ends (.ackOverdue ch) s t ∧
    (t.chan ch).pair = { c.pair with overdue := true } ∧ (t.chan ch).host.irqStat.getLsbD 14 = true) ∧
  (unackedItems c = false ∨ tick < c.pair.ackTick + 50 → Ends (.ackOverdue ch) s (put s ch id)) ∧
  (c.pair.ackLag = 0 ∨ ackLagHolds s.dev c = true → Ends (.ackLagRelease ch) s (put s ch id)) ∧
  (c.pair.ackLag ≠ 0 → ackLagHolds s.dev c = false → ∀ e, c.jr.entries.find? (fun e => advancesIn e.sub.opcode && e.ready.isSome &&
    e.state == .claimed) = some e → Ends (.ackLagRelease ch) s (put s ch (commitStep e.jidx s.dev))) ∧
  (c.fu.busy = false → c.fu.count ≠ 0 → Ends (.frameUnitGo ch) s (put s ch fun c => { c with fu := { c.fu with busy := true } })) ∧
  (c.fu.busy = false → c.fu.count = 0 → Ends (.frameUnitGo ch) s
    (put s ch fun c => { c with fu := { c.fu with fail := false, cycles := 16 } })) ∧
  (c.fu.busy = true → Ends (.frameUnitGo ch) s (put s ch id)) ∧
  (c.fu.busy = false → Ends (.frameUnitPhaseDone ch) s (collect ch (put s ch id))) ∧
  (c.fu.busy = true → ∃ t, Ends (.frameUnitPhaseDone ch) s t ∧ (t.chan ch).fu.busy = false ∧ (t.chan ch).jr = c.jr) ∧
  (c.fu.busy = true → ∀ sb db region c1 c2 c3 c4, engineRead ch s.dev 2 c.fu.steps (16 * c.fu.count) c = (some sb, c1) →
    let steps := (chunks 16 sb).map RStep.ofBytes
    let pair := if c1.fu.phase then 1 else if steps.any (fun s => s.kind == 0x0B) then 2 else 0
    engineRead ch s.dev 2 (c1.fu.regions + 8 * pair) 8 c1 = (some db, c2) →
    engineRead ch s.dev 2 (fieldLE db 0 4) (fieldLE db 4 4) c2 = (some region, c3) →
    engineWrite ch s.dev 2 c3.fu.locs (locationBlock steps region.length) c3 = (true, c4) →
    Ends (.frameUnitPhaseDone ch) s (collect ch (setChan s ch
      (frameResult ((steps.map fun s => s.unitFails region).findIdx? id) (phaseCycles steps) c4))))

/-- R328 to R342, R362: the access tables, the scrubber and the leaky buckets. A locked entry keeps its value; a word found uncorrectable is
reported; a bucket leaks once its period has passed. Covers AT_PERM_WRITE, AT_ENTRY_LOCK, LOCK_ALL, CNT_CLR, SCRUB_LINE, BUCKET_LEAK, BUCKET_THRESHOLD_WRITE, AT_VIEW_UPDATE. -/
def Obligations.AccessTables : Prop := ∀ (s : State) (u : Core), Present s u →
  let c := unit s u
  let a := c.table
  (∀ (i : Fin 64) (v : Word) (e : AtEntry), a.entries[i.val]? = some e → let n := v.toNat
    let legal := e.stagedFirst ≤ e.stagedLast ∧ bits n 13 12 ≠ 3 ∧ bits n 15 14 ≠ 3 ∧ n < 2 ^ 17
    ((e.lock = true ∨ a.lockAll = true) → Leaves (.atPermWrite u i v) s u fun c => c.table = { a with lockedWrite := true }) ∧
    (e.lock = false → a.lockAll = false → ¬ legal → Leaves (.atPermWrite u i v) s u fun c => c.table = { a with badEntry := true }) ∧
    (e.lock = false → a.lockAll = false → legal → Leaves (.atPermWrite u i v) s u fun c => c.table = { a with
      entries := a.entries.set i.val { e with first := e.stagedFirst, last := e.stagedLast, perm := n } }) ∧
    ((e.lock = true ∨ a.lockAll = true) → Leaves (.atEntryLock u i) s u fun c => c.table = { a with lockedWrite := true }) ∧
    (e.lock = false → a.lockAll = false → Leaves (.atEntryLock u i) s u fun c => c.table = { a with
      entries := a.entries.set i.val { e with lock := true } })) ∧
  Leaves (.lockAll u) s u (fun c => c.table = { a with lockAll := true }) ∧
  Leaves (.cntClr u) s u (fun c => c.table = { a with violCount := 0 }) ∧
  (c.state = .asleep ∨ debtWaits .sramScrub s.dev c = true → ∀ x y, Leaves (.scrubLine u x y) s u fun c => c.table = a) ∧
  (c.state ≠ .asleep → debtWaits .sramScrub s.dev c = false → let last := a.scrubLine + 1 = scrubLines a.mgmt
    (last → Leaves (.scrubLine u none none) s u fun c => c.table = { a with
      scrubLine := 0, scrubPasses := (a.scrubPasses + 1) % 2 ^ 32, scrubTick := some s.dev.tick }) ∧
    (¬ last → Leaves (.scrubLine u none none) s u fun c => c.table = { a with scrubLine := a.scrubLine + 1 }) ∧
    (∀ (w : Fin 8) (b : Fin 72), Leaves (.scrubLine u (some (w, b)) none) s u fun c => c.table.bucket = sat16 (a.bucket + 1) ∧
      c.table.eccCaddr = (scrubAddr a.mgmt a.scrubLine + 8 * w.val) / 8 * 8 ∧ c.table.eccCbit = b.val ∧ c.table.badWords = a.badWords) ∧
    (∀ w : Fin 8, let x := scrubAddr a.mgmt a.scrubLine + 8 * w.val
      Leaves (.scrubLine u none (some w)) s u fun c => x ∈ c.table.badWords ∧ c.table.eccUvalid = true ∧
        (u.val < 16 → c.sf.mech = 0x07 ∧ c.sf.info = x % 2 ^ 32) ∧ (a.eccUvalid = false → c.table.eccUaddr = x))) ∧
  (a.leakTick + 1000 * max 1 a.bucketLeak ≤ s.dev.tick → Leaves (.bucketLeak u false) s u fun c => c.table = { a with
    bucket := a.bucket - 1, leakTick := s.dev.tick }) ∧
  (s.dev.tick < a.leakTick + 1000 * max 1 a.bucketLeak → Leaves (.bucketLeak u false) s u fun c => c.table = a) ∧
  (c.nv.leakTick + 1000 * max 1 c.nv.leak ≤ s.dev.tick → Leaves (.bucketLeak u true) s u fun x => x.nv = { c.nv with
    bucket := c.nv.bucket - 1, leakTick := s.dev.tick }) ∧
  (s.dev.tick < c.nv.leakTick + 1000 * max 1 c.nv.leak → Leaves (.bucketLeak u true) s u fun x => x.nv = c.nv) ∧
  (∀ v : Word, let n := v.toNat % 65536
    Leaves (.bucketThresholdWrite u false v) s u (fun c => c.table = { a with
      bucketThr := n, crossings := if n ≠ 0 ∧ n ≤ a.bucket ∧ ¬ (a.bucketThr ≠ 0 ∧ a.bucketThr ≤ a.bucket) then sat16 (a.crossings + 1) else a.crossings }) ∧
    Leaves (.bucketThresholdWrite u true v) s u fun x => x.nv = { c.nv with
      thr := n, crossings := if n ≠ 0 ∧ n ≤ c.nv.bucket ∧ ¬ (c.nv.thr ≠ 0 ∧ c.nv.thr ≤ c.nv.bucket) then sat16 (c.nv.crossings + 1) else c.nv.crossings }) ∧
  (mgmtRuns s = true → ∃ t seq, Ends (.atViewUpdate u) s t ∧ t.chans = s.chans ∧ t.mgu = s.mgu ∧
    t.mg.views = s.mg.views.set (viewIndex u) (some (a.view seq))) ∧
  (mgmtRuns s = false → Ends (.atViewUpdate u) s s)

/-- R343 to R367: the flash banks. A programmed codeword is not programmed again, an erase leaves its sector closed until it ends, a
command is refused while another runs, nothing reaches a bank while the link is down, and a firmware slot's sector is refreshed through
the spare in two steps. Covers PROGRAM, PROGRAM_SEG, ERASE, FORMAT, CHECK, NV_COMMAND_DONE, SUSPEND, RESUME, ERASE_AUTOSUSPEND,
ERASE_AUTORESUME, FLASH_WINDOW_READ, FLASH_SCRUB_SENSE, REFRESH_POP. -/
def Obligations.FlashBanks : Prop := ∀ (s : State) (u : Core), Present s u →
  let c := unit s u
  let b := c.nv
  (s.pw.link = false → ∀ (a irq : Bool) off n x, ∀ i ∈ [Instr.program u irq, .programSeg u irq, .erase u a irq, .format u irq, .check u irq,
    .suspend u, .resume u, .flashWindowRead u off n x, .refreshPop u], Ends i s s) ∧
  (∀ (asus irq : Bool), s.pw.link = true → ∀ r ∈ [(Instr.program u irq, 1, false), (.programSeg u irq, 2, false), (.erase u asus irq, 3, asus), (.format u irq, 4, false),
      (.check u irq, 5, false)],
    (b.en = false → Leaves r.1 s u fun x => x.nv = b) ∧
    (b.en = true → (∃ k, b.busy = some k ∧ k.autosusp = false) → Leaves r.1 s u fun x => x.nv = { b with result := 7 }) ∧
    (b.en = true → b.busy = none → b.susp = none →
      (nvAddressOk c.table.mgmt r.2.1 b.addr b.len = false → Leaves r.1 s u fun x => x.nv = b.ended irq 1) ∧
      (nvAddressOk c.table.mgmt r.2.1 b.addr b.len = true →
        (∀ n, nvRefusal b r.2.1 = some n → Leaves r.1 s u fun x => x.nv = b.ended irq n) ∧
        (nvRefusal b r.2.1 = none → Leaves r.1 s u fun x => x.nv = { nvApply r.2.1 b with
          busy := some ⟨r.2.1, r.2.2, irq, b.addr, b.len, b.buf, false⟩ })))) ∧
  (b.programmed b.addr = true → (b.sector (sectorOf b.addr)).closed = false → (b.sector (sectorOf b.addr)).format ≠ 4 → nvRefusal b 1 = some 2) ∧
  (sectorOf b.addr < b.sectors.length → ((nvApply 3 b).sector (sectorOf b.addr)).closed = true ∧
    ∀ w ∈ (nvApply 3 b).words, ¬ (sectorBase (sectorOf b.addr) ≤ w.1 ∧ w.1 < sectorBase (sectorOf b.addr) + sectorLen (sectorOf b.addr))) ∧
  (b.busy = none → ∀ x f, Leaves (.nvCommandDone u x f) s u fun x => x.nv = b) ∧
  (∀ k x, b.busy = some k → k.cmd = 3 →
    (Leaves (.nvCommandDone u x true) s u fun x => x.nv.busy = none ∧ x.nv.result = 5 ∧ x.nv.sectors = b.sectors) ∧
    (Leaves (.nvCommandDone u x false) s u fun x => x.nv.busy = none ∧ x.nv.result = 0 ∧ x.nv.words = b.words ∧
      x.nv.sectors = b.sectors.modify (sectorOf k.addr) fun z => { z with incomplete := false, empty := true })) ∧
  (∀ k n, b.busy = some k → (k.cmd = 1 ∨ k.cmd = 2) → Leaves (.nvCommandDone u [(n, none)] false) s u fun x => x.nv.busy = none ∧
    x.nv.maxcorr = n ∧ x.nv.words = b.words ∧ x.nv.result = if formatT (b.sector (sectorOf k.addr)).format / 2 < n then 4 else 0) ∧
  (s.pw.link = true →
    ((∃ k, b.busy = some k ∧ k.cmd = 3) → Leaves (.suspend u) s u fun x => x.nv = b.suspend false) ∧
    ((∀ k, b.busy = some k → k.cmd ≠ 3) → Leaves (.suspend u) s u fun x => x.nv = { b with result := 7 }) ∧
    (b.susp = none ∨ b.busy.isSome = true → Leaves (.resume u) s u fun x => x.nv = { b with result := 7 })) ∧
  (∀ k, b.susp = some k → b.busy = none →
    (s.pw.link = true → Leaves (.resume u) s u fun x => x.nv.busy = some k ∧ x.nv.susp = none ∧ x.nv.words = b.words) ∧
    (k.selfSusp = true → Leaves (.eraseAutoresume u) s u fun x => x.nv.busy = some k ∧ x.nv.susp = none) ∧
    (k.selfSusp = false → Leaves (.eraseAutoresume u) s u fun x => x.nv = b)) ∧
  (∀ k, b.busy = some k → k.cmd = 3 → k.autosusp = true → Leaves (.eraseAutosuspend u) s u fun x => x.nv.busy = none ∧
    x.nv.susp = some { k with selfSusp := true } ∧ x.nv.words = b.words) ∧
  (∀ off n x k, s.pw.link = true → b.busy = some k → k.cmd ≠ 5 → (k.cmd = 3 → k.autosusp = false) →
    Leaves (.flashWindowRead u off n x) s u fun x => x.nv = b) ∧
  (∀ off n x, s.pw.link = true → b.busy = none → b.pageErased (off / 512 * 512) = true → Leaves (.flashWindowRead u off n x) s u fun x => x.nv = b) ∧
  (∀ off k, s.pw.link = true → b.busy = none → (b.sector (sectorOf (off / 512 * 512))).closed = false → off / 512 * 512 < bankBytes c.table.mgmt →
    b.pageErased (off / 512 * 512) = false → Leaves (.flashWindowRead u off 0 (some k)) s u fun x => x.nv.words = b.words ∧
      (if (b.sector (sectorOf (off / 512 * 512))).format = 4 then off / 512 * 512 + 128 * k.val else off / 512 * 512) ∈ x.nv.badWords ∧
      x.nv.uvalid = true ∧ x.nv.irq.getLsbD 1 = true) ∧
  ((b.scrubEn = false ∨ b.busy.isSome = true ∨ debtWaits .flashScrub s.dev c = true) → ∀ n x,
    Leaves (.flashScrubSense u n x) s u fun x => x.nv = b) ∧
  (b.scrubEn = true → b.busy = none → debtWaits .flashScrub s.dev c = false → b.pageErased b.scrubPage = true → ∀ n x, Leaves (.flashScrubSense u n x) s u fun x =>
    x.nv.scrubPage = (if bankBytes c.table.mgmt ≤ b.scrubPage + 512 then 0 else b.scrubPage + 512) ∧ x.nv.bucket = b.bucket ∧
    x.nv.refresh = b.refresh) ∧
  (s.pw.link = true → (b.busy.isSome = true ∨ debtWaits .refresh s.dev c = true ∨ (c.refreshing = none ∧ b.refresh = [])) →
    Leaves (.refreshPop u) s u fun x => x.nv = b ∧ x.refreshing = c.refreshing) ∧
  (s.pw.link = true → b.busy = none → debtWaits .refresh s.dev c = false → let spare := if c.table.mgmt then historySpare else spareSector
    (∀ n d, c.refreshing = some (n, d) → Leaves (.refreshPop u) s u fun x => x.refreshing = none ∧
      x.nv = if sectorDigest b spare = d then refreshBack spare n b else b) ∧
    (∀ p l, c.refreshing = none → b.refresh = p :: l → let n := sectorOf p.1
      let q := { b with refresh := l }
      (c.table.mgmt = false → p.1 < 0xC000 → Leaves (.refreshPop u) s u fun x => x.nv = refreshRing p.1 q) ∧
      (c.table.mgmt = false → 0xC000 ≤ p.1 → n < 8 → Leaves (.refreshPop u) s u fun x => x.nv = q) ∧
      (((c.table.mgmt = false ∧ 0xC000 ≤ p.1 ∧ ((8 ≤ n ∧ n < 24) ∨ (34 ≤ n ∧ n < 38))) ∨
          (c.table.mgmt = true ∧ ((60 ≤ n ∧ n < 68) ∨ n = 70))) →
        Leaves (.refreshPop u) s u fun x => x.nv = refreshStage spare n q ∧ x.refreshing = some (n, sectorDigest (refreshStage spare n q) spare)) ∧
      (c.table.mgmt = false → 0xC000 ≤ p.1 → 24 ≤ n → n < 30 → Leaves (.refreshPop u) s u fun x =>
        x.nv = (storeCompact recipeStore ((p.1 - recipeStore.base) / 0x10000) q).getD q) ∧
      (c.table.mgmt = false → 0xC000 ≤ p.1 → 30 ≤ n → n < 34 → Leaves (.refreshPop u) s u fun x =>
        x.nv = (storeCompact settleStore ((p.1 - settleStore.base) / 0x10000) q).getD q)))

/-- R176 to R192: the public-key engine's batches. A batch whose check fails ends the queue and is reported; batches that PK_ABORT
ends get their done entries once operand memory is clear. Covers PK_PUSH,
PKE_BATCH_START, PKE_BATCH_END, PK_DONE_POP, PK_ABORT, PK_CLEAR, PKE_CLEAR_DONE. -/
def Obligations.PkeBatches : Prop := ∀ (s : State) (ch : Ch), s.dev.has ch = true →
  let c := s.chan ch
  let p := c.pke
  (p.en = true → p.held < 4 → Ends (.pkPush ch) s (put s ch fun c => { c with pke := { p with
    refused := false, lastId := p.nextId, queue := p.queue ++ [(p.nextId, p.qaddr)], nextId := (p.nextId + 1) % 256 } })) ∧
  (p.en = false ∨ 4 ≤ p.held → Ends (.pkPush ch) s (put s ch fun c => { c with pke := { p with refused := true } })) ∧
  (∀ id addr rest, p.queue = (id, addr) :: rest → p.running = none → p.clearing = false → let q := { c with pke := { p with queue := rest } }
    (inData addr 32 = false → Gives (.pkeBatchStart ch) s ch fun x => x.pke.queue = rest ∧ x.pke.running = none ∧ ⟨id, 2, 0⟩ ∈ x.pke.done) ∧
    (∀ b, inData addr 32 = true → engineRead ch s.dev 4 addr 32 q = (some b, q) → let h := PkeHeader.ofBytes b
      (pkeOp h.op = none → Gives (.pkeBatchStart ch) s ch fun x => x.pke.running = none ∧ x.pke.done = p.done ++ [⟨id, 3, 0⟩] ∧
        x.pke.key = p.key) ∧
      ∀ o, pkeOp h.op = some o →
        (h.bad o = true → Gives (.pkeBatchStart ch) s ch fun x => x.pke.running = none ∧ x.pke.done = p.done ++ [⟨id, 3, 0⟩]) ∧
        (∀ key q', h.bad o = false → extentsRefused (h.extents o) q = (false, q) → loadKey ch s.dev id h o q = (some key, q') →
          Gives (.pkeBatchStart ch) s ch fun x => x.pke.running = some ⟨id, h.op, h.count, h.entry, h.result, h.status, key⟩ ∧
            (o.key = 0 → x.pke.key = none)))) ∧
  ((p.queue = [] ∨ p.running.isSome = true ∨ p.clearing = true) → Gives (.pkeBatchStart ch) s ch fun x => x.pke = p) ∧
  (p.running = none → Gives (.pkeBatchEnd ch none) s ch fun x => x.pke = p) ∧
  (∀ r o q f, p.running = some r → pkeOp r.op = some o → drawPrime o c = .ok q →
    (∀ n x, runOps ch s.dev r o f r.count 0 q = (.complete, n, x) → Gives (.pkeBatchEnd ch f) s ch fun y =>
      y.pke.running = none ∧ y.pke.done = x.pke.done ++ [⟨r.id, 0, n⟩] ∧ y.mem = x.mem ∧
      y.pke.key = x.pke.key ∧ (x.pke.clearPending = false → y.pke.dirty = true)) ∧
    (∀ n x, runOps ch s.dev r o f r.count 0 q = (.fault, n, x) → Gives (.pkeBatchEnd ch f) s ch fun y =>
      y.pke.running = none ∧ y.pke.queue = [] ∧ ⟨r.id, 4, n⟩ ∈ y.pke.done ∧ y.pke.key = none ∧ y.pke.errcnt = sat16 (x.pke.errcnt + 1) ∧
      y.sf.mech = 0x04 ∧ ∀ z ∈ x.pke.queue, ⟨z.1, 1, 0⟩ ∈ y.pke.done) ∧
    (∀ n x, runOps ch s.dev r o f r.count 0 q = (.waits, n, x) → Gives (.pkeBatchEnd ch f) s ch fun y => y.pke = p ∧ y.mem = c.mem)) ∧
  (∀ r o f e, p.running = some r → pkeOp r.op = some o → drawPrime o c = .error e →
    (e = .waits → Gives (.pkeBatchEnd ch f) s ch fun y => y.pke = p) ∧
    (e ≠ .waits → Gives (.pkeBatchEnd ch f) s ch fun y => y.pke.running = none ∧ y.pke.done = p.done ++ [⟨r.id, 5, 0⟩] ∧ y.pke.key = none)) ∧
  Ends (.pkDonePop ch) s (put s ch fun c => { c with pke := { p with done := p.done.drop 1 } }) ∧
  (p.running = none → ∀ n, Gives (.pkAbort ch n) s ch fun x => x.pke.queue = [] ∧ x.pke.clearing = true ∧ x.pke.aborting = true ∧
    x.pke.done = p.done ∧ x.pke.ending = p.ending ++ p.queue.map fun z => ⟨z.1, 1, 0⟩) ∧
  (∀ r o n, p.running = some r → pkeOp r.op = some o → let q := runOps ch s.dev r o none (min n r.count) 0 c
    Gives (.pkAbort ch n) s ch fun x => x.pke.running = none ∧ x.pke.queue = [] ∧ x.pke.clearing = true ∧ x.mem = q.2.2.mem ∧
      ⟨r.id, 1, q.2.1⟩ ∈ x.pke.ending) ∧
  (p.running = none → p.queue = [] → Ends (.pkClear ch) s (put s ch fun c => { c with pke := { p with clearing := true } })) ∧
  (p.running.isSome = true ∨ p.queue ≠ [] → Ends (.pkClear ch) s (put s ch fun c => { c with pke := { p with clearPending := true } })) ∧
  (p.clearing = true → Gives (.pkeClearDone ch) s ch fun x => x.pke.key = none ∧ x.pke.retained = none ∧ x.pke.dirty = false ∧
    x.pke.clearing = false ∧ x.pke.aborting = false ∧ x.pke.ending = [] ∧ x.pke.done = p.done ++ p.ending ∧ x.pke.queue = p.queue) ∧
  (p.clearing = false → Ends (.pkeClearDone ch) s (put s ch id))

/-- R193, R194: the hash engine. Each context's digest is the hash, or the HMAC, of what was fed to it. Covers HASH_INIT, HASH_FEED,
HASH_FINAL, HASH_CLEAR, HASH_OP_DONE. -/
def Obligations.HashRows : Prop := ∀ (s : State) (ch : Ch), s.dev.has ch = true →
  let c := s.chan ch
  let h := c.hash
  (∀ v : Word, bits v.toNat 1 0 ≠ 0 → Gives (.hashInit ch v) s ch fun x => x.hash.ctx h.sel =
      (⟨bits v.toNat 1 0, v.getLsbD 2, if v.getLsbD 2 then h.key.take (hashBlock (algOf (bits v.toNat 1 0))) else [], [], true, []⟩ : HashCtx) ∧
    ∀ i : Fin 4, i.val ≠ h.sel % 4 → x.hash.ctxs.get i = h.ctxs.get i) ∧
  (∀ v : Word, let n := hashCtrl v h
    let lane := h.sel = 0 ∧ (h.ctx 0).alg = 1
    (lane → Ends (.hashFeed ch v) s (put s ch fun c => { c with hash := { n with lane := n.lane ++ [⟨h.sel, false, h.src, h.len⟩] } }) ∧
      Ends (.hashFinal ch v) s (put s ch fun c => { c with hash := { n with lane := n.lane ++ [{ ctx := h.sel, final := true }] } })) ∧
    (¬ lane → Ends (.hashFeed ch v) s (put s ch fun c => { c with hash := { n with main := n.main ++ [⟨h.sel, false, h.src, h.len⟩] } }) ∧
      Ends (.hashFinal ch v) s (put s ch fun c => { c with hash := { n with main := n.main ++ [{ ctx := h.sel, final := true }] } }))) ∧
  Ends (.hashClear ch) s (put s ch fun c => { c with hash := { h with key := zeros 128, ctxs := Vector.replicate 4 {}, lane := [], main := [] } }) ∧
  (∀ (lane : Bool) (o : HashOp) (rest : List HashOp), (if lane then h.lane else h.main) = o :: rest → let k := h.ctx o.ctx
    (k.opened = false → Gives (.hashOpDone ch lane) s ch fun x => x.hash.error = true ∧ x.hash.ctxs = h.ctxs) ∧
    (k.opened = true → o.final = true → Gives (.hashOpDone ch lane) s ch fun x => x.hash.done = true ∧ (x.hash.ctx o.ctx).opened = false ∧
      (x.hash.ctx o.ctx).digest = if k.hmac then Machine.hmac (algOf k.alg) k.key k.message else hash (algOf k.alg) k.message) ∧
    (k.opened = true → o.final = false → hashSource o.src o.len = true → dmaBad c.table .read o.src o.len = none →
      badWordIn c.table o.src o.len = none → Gives (.hashOpDone ch lane) s ch fun x => x.hash.done = true ∧
        (x.hash.ctx o.ctx).message = k.message ++ c.bytesAt o.src o.len))

/-- R202 to R226: the cipher engine. The window's settings stand until they are written, a failed check zeroes what the message wrote, a
counter is used for one message only, and a miscompare halts the engine and is reported. Covers CE_ALLOC, CE_FREE, CE_CLEAR_DONE, CE_ZERO,
CX_CFG_WRITE, CX_COUNTER_WRITE, CX_LIMIT_WRITE, KEYLOAD, START, AAD, DATA, FINAL, ABORT. -/
def Obligations.CipherRows : Prop := ∀ (s : State) (ch : Ch) (n : Fin 8), s.dev.has ch = true →
  let c := s.chan ch
  let e := c.ce
  let x := e.cxs.get n
  let idle := e.en = true ∧ e.halted = false ∧ ∀ k : Fin 8, (e.cxs.get k).fifo = []
  let unnamed := ∀ q ∈ c.jr.entries, q.state = .claimed → q.engaged.ctx ≠ some n.val
  let set1 (f : Cx → Cx) : State := put s ch fun c => { c with ce := { e with cxs := e.cxs.set n.val (f x) n.isLt } }
  let reads (a l : Nat) := dmaBad c.table .read a l = none ∧ badWordIn c.table a l = none
  let strikes (i : Instr) := Gives i s ch fun y => y.ce.halted = true ∧ y.sf.mech = 0x03 ∧ y.mem = (zeroExtents x.msg.written c).mem ∧
    (y.ce.cxs.get n).outcome = 11 ∧ ∀ k : Fin 8, (y.ce.cxs.get k).key = []
  ((List.finRange 8).find? (fun k => (e.cxs.get k).st == .free) = some n →
    (e.en = true → e.halted = false → Gives (.ceAlloc ch) s ch fun y =>
      y.ce.lastAlloc = n.val + 256 ∧ (y.ce.cxs.get n).st = .held ∧ (y.ce.cxs.get n).outcome = 0) ∧
    (e.en = false ∨ e.halted = true → Ends (.ceAlloc ch) s (put s ch fun c => { c with ce := { e with lastAlloc := 0 } }))) ∧
  ((∀ k : Fin 8, (e.cxs.get k).st ≠ .free) → Ends (.ceAlloc ch) s (put s ch fun c => { c with ce := { e with waiting := true, lastAlloc := 0 } })) ∧
  (x.heldNow = true → Gives (.ceFree ch n) s ch fun y => (y.ce.cxs.get n).st = .clearing ∧ (y.ce.cxs.get n).fifo = [] ∧ y.ce.freeSel = n.val ∧
    y.ce.freeBusy = true ∧ (y.ce.cxs.get n).outcome = if x.st = .opened then 12 else x.outcome) ∧
  (x.heldNow = false → Ends (.ceFree ch n) s (put s ch fun c => { c with ce := { e with freeSel := n.val } })) ∧
  (x.st = .clearing → e.halted = false → Gives (.ceClearDone ch n) s ch fun y => (y.ce.cxs.get n).st = .free ∧ (y.ce.cxs.get n).key = [] ∧
    (y.ce.freeBusy = true ↔ ∃ k : Fin 8, k ≠ n ∧ (e.cxs.get k).st = .clearing) ∧ (y.ce.cxs.get n).cfg = x.cfg ∧
    (e.waiting = true → y.ce.waiting = false ∧ y.ce.irq.getLsbD 8 = true)) ∧
  (x.st ≠ .clearing ∨ e.halted = true → Ends (.ceClearDone ch n) s (put s ch id)) ∧
  (Gives (.ceZero ch) s ch fun y => y.ce.halted = false ∧ y.ce.standing = false ∧ y.ce.waiting = false ∧
    (e.waiting = true → y.ce.irq.getLsbD 8 = true) ∧ ∀ k : Fin 8, (y.ce.cxs.get k).st = .free ∧ (y.ce.cxs.get k).key = []) ∧
  (∀ v : Word, (x.st = .opened → Ends (.cxCfgWrite ch n v) s (set1 id)) ∧
    (x.st ≠ .opened → Gives (.cxCfgWrite ch n v) s ch fun y => (y.ce.cxs.get n).cfg = v.toNat % 65536 ∧ (y.ce.cxs.get n).fifo = x.fifo ∧
      (y.ce.cxs.get n).outcome = x.outcome ∧
      (x.st = .keyed → (bits (v.toNat % 65536) 5 4 ≠ x.klen ∨ bits (v.toNat % 65536) 15 14 ≠ x.kclass) →
        (y.ce.cxs.get n).key = [] ∧ (y.ce.cxs.get n).st = .held)) ∧
    Ends (.cxLimitWrite ch n v) s (set1 fun x => { x with limit := min v.toNat 0xFFFFFFFE }) ∧
    Ends (.cxCounterWrite ch n 0 v) s (set1 fun x => { x with ctrLow := v.toNat }) ∧
    (∀ m, m = (if x.ivsrc = 1 then x.ctr / 2 ^ 32 else v.toNat) * 2 ^ 32 + x.ctrLow →
      (x.started = true → m < x.ctr → Ends (.cxCounterWrite ch n 1 v) s (set1 fun x => { x with writeRefused := true })) ∧
      ((x.started = false ∨ x.ctr ≤ m) → Ends (.cxCounterWrite ch n 1 v) s (set1 fun x => { x with ctr := m, writeRefused := false }))) ∧
    (x.started = true → v.toNat < x.hw → Ends (.cxCounterWrite ch n 2 v) s (set1 fun x => { x with writeRefused := true })) ∧
    ((x.started = false ∨ x.hw ≤ v.toNat) → Ends (.cxCounterWrite ch n 2 v) s (set1 fun x => { x with hw := v.toNat, writeRefused := false }))) ∧
  (∀ irq f g, ∀ r ∈ [(Instr.keyload ch n ⟨irq, f⟩, 1), (.start ch n ⟨irq, f⟩, 2), (.aad ch n ⟨irq, f⟩, 3), (.data ch n irq g, 4), (.final ch n irq f, 5)],
    ((x.heldNow = false ∨ 8 ≤ x.fifo.length) → Ends r.1 s (collect ch (set1 fun x => { x with refused := true }))) ∧
    ((e.en = false ∨ e.halted = true) → x.heldNow = true → x.fifo.length < 8 → Ends r.1 s (collect ch (set1 fun x => { x with
      refused := false, fifo := x.fifo ++ [⟨r.2, irq, x.len, x.src, x.dst, x.aux⟩] })))) ∧
  (idle → x.heldNow = true → ∀ q, c.jr.entries.find? (fun q => q.state == .claimed && q.engaged.ctx == some n.val) = some q →
    x.st ≠ .keyed → ∀ m, Gives (.start ch n m) s ch fun y => (y.ce.cxs.get n).outcome = 7 ∧ y.sf.mech = 0x0B) ∧
  (idle → unnamed → x.heldNow = true → ∀ irq : Bool,
    (∀ f, x.st = .opened ∨ x.klen = 3 → Gives (.keyload ch n ⟨irq, f⟩) s ch fun y => (y.ce.cxs.get n).outcome = 7) ∧
    (x.st ≠ .opened → x.klen ≠ 3 → (inData x.src (klenBytes x.klen) = true ∨ (0x300000 ≤ x.src ∧ x.src + klenBytes x.klen ≤ 0x3FFFC0)) →
      reads x.src (klenBytes x.klen) → let key := c.bytesAt x.src (klenBytes x.klen)
      let other := ∃ k : Fin 8, k ≠ n ∧ ((e.cxs.get k).st = .keyed ∨ (e.cxs.get k).st = .opened) ∧ (e.cxs.get k).key = key
      (¬ other → Gives (.keyload ch n ⟨irq, false⟩) s ch (fun y =>
        (y.ce.cxs.get n).st = .keyed ∧ (y.ce.cxs.get n).key = key ∧ (y.ce.cxs.get n).outcome = 0 ∧ (y.ce.cxs.get n).hwEmpty = true ∧
        (y.ce.cxs.get n).limit = x.limit ∧ (y.ce.cxs.get n).ctr = 0 ∧ (irq = true → y.ce.irq.getLsbD n.val = true)) ∧
        Gives (.keyload ch n ⟨irq, true⟩) s ch fun y => y.ce.halted = true ∧ y.sf.mech = 0x03 ∧ ∀ k : Fin 8, (y.ce.cxs.get k).key = []) ∧
      (other → ∀ f, Gives (.keyload ch n ⟨irq, f⟩) s ch fun y =>
        (y.ce.cxs.get n).st = .held ∧ (y.ce.cxs.get n).key = [] ∧ (y.ce.cxs.get n).outcome = 9)) ∧
    (∀ f, (x.st ≠ .keyed → Gives (.start ch n ⟨irq, f⟩) s ch fun y => (y.ce.cxs.get n).outcome = 7) ∧
      (x.st = .keyed → startRule x = none → counterRule x = none → (f = true → x.mode ≠ 3) → Gives (.start ch n ⟨irq, f⟩) s ch fun y =>
        (y.ce.cxs.get n).st = .opened ∧ (y.ce.cxs.get n).started = true ∧ (y.ce.cxs.get n).total = 0 ∧ (y.ce.cxs.get n).outcome = 0 ∧
        (x.mode = 3 → x.dec = false → x.ivsrc ≠ 0 → (y.ce.cxs.get n).ctr = x.ctr + 1) ∧ (x.ivsrc = 0 → (y.ce.cxs.get n).ctr = x.ctr)) ∧
      (x.st = .keyed → ∀ o, startRule x = some o ∨ (startRule x = none ∧ counterRule x = some o) → Gives (.start ch n ⟨irq, f⟩) s ch fun y =>
        (y.ce.cxs.get n).st = .keyed ∧ (y.ce.cxs.get n).outcome = o ∧ (y.ce.cxs.get n).ctr = x.ctr)) ∧
    (x.st = .keyed → startRule x = none → counterRule x = none → x.mode = 3 → Gives (.start ch n ⟨irq, true⟩) s ch fun y =>
      y.ce.halted = true ∧ y.sf.mech = 0x03 ∧ ∀ k : Fin 8, (y.ce.cxs.get k).key = []) ∧
    (x.st = .opened → x.mode = 3 → x.msg.phase ≤ 1 → x.msg.aad.length % 16 = 0 → x.msg.aad.length + x.len ≤ 0xFFFFFFFF →
      inData x.src x.len = true → reads x.src x.len →
      (∀ f, (f = true → x.len = 0) → Gives (.aad ch n ⟨irq, f⟩) s ch fun y =>
        (y.ce.cxs.get n).msg.aad = x.msg.aad ++ c.bytesAt x.src x.len ∧ (y.ce.cxs.get n).st = .opened ∧ y.mem = c.mem) ∧
      (x.len ≠ 0 → strikes (.aad ch n ⟨irq, true⟩))) ∧
    (x.st = .opened → x.total % 16 = 0 → x.total + x.len ≤ 0xFFFFFFFF → inData x.src x.len = true → reads x.src x.len →
      let b := c.bytesAt x.src x.len
      (x.mode = 4 → (∀ f, (∀ k, f = some k → x.len ≤ 16 * k) → Gives (.data ch n irq f) s ch fun y =>
          (y.ce.cxs.get n).msg.data = x.msg.data ++ b ∧ (y.ce.cxs.get n).total = x.total + x.len ∧ y.mem = c.mem) ∧
        ∀ k, 16 * k < x.len → strikes (.data ch n irq (some k))) ∧
      (x.mode = 3 → 0 < x.len → inData x.dst x.len = true → (x.src = x.dst ∨ x.dst + x.len ≤ x.src ∨ x.src + x.len ≤ x.dst) →
        dmaBad c.table .write x.dst x.len = none → partWordBad c.table x.dst x.len = none →
        let o := (aesCtrFrom x.key x.msg.chain b).1
        Gives (.data ch n irq none) s ch fun y => y.mem = (c.store x.dst o).mem ∧ (y.ce.cxs.get n).total = x.total + x.len ∧
          (y.ce.cxs.get n).msg.data = x.msg.data ++ if x.dec then b else o)) ∧
    (x.st ≠ .opened → (∀ f, Gives (.data ch n irq f) s ch fun y => (y.ce.cxs.get n).outcome = (if x.outcome = 0 then 7 else x.outcome)) ∧
      ∀ f, Gives (.final ch n irq f) s ch fun y => (y.ce.cxs.get n).outcome = (if x.outcome = 0 then 7 else x.outcome)) ∧
    (x.st = .opened → x.mode = 2 → Gives (.final ch n irq false) s ch fun y => (y.ce.cxs.get n).st = .keyed ∧
      (y.ce.cxs.get n).outcome = x.outcome ∧ (y.ce.cxs.get n).key = x.key ∧ y.mem = c.mem) ∧
    (x.st = .opened → x.mode = 3 → x.dec = true → inData x.aux x.tagLen = true → reads x.aux x.tagLen →
      let good := c.bytesAt x.aux x.tagLen = (gcmTag x.key x.msg.iv x.msg.aad x.msg.data).take x.tagLen
      Gives (.final ch n irq false) s ch fun y => (y.ce.cxs.get n).st = .keyed ∧
        (good → y.mem = c.mem ∧ (y.ce.cxs.get n).outcome = x.outcome ∧
          (x.ivsrc = 1 → x.checkHw = true → (y.ce.cxs.get n).hw = x.msg.inCtr ∧ (y.ce.cxs.get n).hwEmpty = false)) ∧
        (¬ good → y.mem = (zeroExtents x.msg.written c).mem ∧ (y.ce.cxs.get n).outcome = (if x.outcome = 0 then 1 else x.outcome))) ∧
    (x.st = .opened → (x.mode = 5 → x.msg.dataCmds = 1) → strikes (.final ch n irq true))) ∧
  (∀ irq, (x.heldNow = true → Gives (.abort ch n irq) s ch fun y => (y.ce.cxs.get n).fifo = [] ∧ (y.ce.cxs.get n).refused = false ∧
      (x.st = .opened → (y.ce.cxs.get n).st = .keyed ∧ (y.ce.cxs.get n).outcome = 12) ∧ (irq = true → y.ce.irq.getLsbD n.val = true)) ∧
    (x.heldNow = false → Ends (.abort ch n irq) s (set1 fun x => { x with refused := true })))

/-- R307 to R324: the noise source and the DRBG instances. An instance in ERROR and one never instantiated give no bytes. Covers
CONDITIONING_BLOCK, HEALTH_ALARM, PROOFING, INSTANTIATE, GENERATE, RESEED, UNINSTANTIATE, DRBG_REQUEST_DONE, DRBG_RESEED_DUE,
DRBG_RESEED_APPLY, DRBG_INSTANCE_ERROR, CALIBRATION_START, CALIBRATION_DONE, RG_TEST_WRITE, RG_TP_DATA_WRITE, RG_RAW_READ. -/
def Obligations.RandomRows : Prop := ∀ (s : State) (ch : Ch) (i : Fin 8), s.dev.has ch = true →
  let c := s.chan ch
  let r := c.rng
  let g := r.inst.get i
  let set1 (f : Drbg → Drbg) : State := put s ch fun c => { c with rng := { r with inst := r.inst.set i.val (f g) i.isLt } }
  let nothing := collect ch (put s ch id)
  let fresh (y : Channel) : Prop := ∀ k : Fin 8, k.val < 5 → (y.rng.inst.get k).state = 1 ∧ (y.rng.inst.get k).count = 0
  (r.delivers = false → Ends (.conditioningBlock ch) s (put s ch id)) ∧
  (r.delivers = true → (List.finRange 8).find? (fun k => decide (0 < (r.inst.get k).wants)) = some i → Gives (.conditioningBlock ch) s ch fun y =>
    (y.rng.inst.get i).wants = g.wants - 1 ∧ (y.rng.inst.get i).blocks = g.blocks ++ [sha256 (freeBytes ch.val c.draws 128)] ∧
    (∀ k : Fin 8, k ≠ i → y.rng.inst.get k = r.inst.get k) ∧ y.draws = c.draws + 128 ∧ y.rng.run = 0) ∧
  (r.delivers = true → (∀ k : Fin 8, (r.inst.get k).wants = 0) → Gives (.conditioningBlock ch) s ch fun y =>
    y.rng = { r with run := 0 } ∧ y.draws = c.draws + 128) ∧
  (∀ rct apt v, (rct = true ∨ apt = true) → r.source = .running → Gives (.healthAlarm ch rct apt v) s ch fun y =>
    y.rng.alarms = sat16 (r.alarms + 1) ∧ y.rng.irq.getLsbD 0 = true ∧ (r.run < 3 → y.rng.source = .running ∧ y.rng.run = r.run + 1) ∧
    (3 ≤ r.run → y.rng.source = .failed ∧ y.sf.mech = 0x06 ∧ y.sf.info = 0xFF)) ∧
  (r.source = .off ∨ r.source = .failed → ∀ rct apt v, Ends (.healthAlarm ch rct apt v) s nothing) ∧
  (c.state ≠ .booting → r.source = .proofing →
    (∀ t, Gives (.proofing ch none t) s ch fun y => y.rng.source = .running ∧ y.rng.proofOk = true ∧ y.rng.again = 0 ∧
      ((r.inst.get 0).state ≠ 0 → y.rng.inst = r.inst) ∧ ((r.inst.get 0).state = 0 → fresh y)) ∧
    (∀ v t, Gives (.proofing ch (some v) t) s ch fun y => y.rng.again = r.again + 1 ∧ y.rng.proofOk = false ∧
      y.rng.alarms = sat16 (r.alarms + 1) ∧ y.rng.source = if 3 ≤ r.again + 1 then .failed else .proofing)) ∧
  (c.state = .booting → c.bootStep = 3 →
    (∀ t, Gives (.proofing ch none t) s ch fun y => y.bootStep = 4 ∧ y.rng.source = .running ∧ y.rng.tries = r.tries + 1 ∧ fresh y) ∧
    (∀ v t, Gives (.proofing ch (some v) t) s ch fun y => y.rng.tries = r.tries + 1 ∧ y.rng.proofOk = false ∧
      y.rng.source = if 3 ≤ r.tries + 1 then .failed else .proofing)) ∧
  (¬ (c.state = .booting ∧ c.bootStep = 3) → r.source ≠ .proofing → ∀ v t, Ends (.proofing ch v t) s nothing) ∧
  (∀ irq o : Bool, (o = true → i.val = 4) →
    ∀ w ∈ [(Instr.instantiate ch i irq o, 1), (.generate ch i irq o, 2), (.reseed ch i irq o, 3), (.uninstantiate ch i irq o, 4)],
      (g.current = none → w.2 ≠ 4 → Ends w.1 s (set1 fun g => { g with
        current := some ⟨w.2, irq, g.dst, g.len, !o, true⟩, wants := if w.2 = 1 ∨ w.2 = 3 then 2 - g.blocks.length else g.wants })) ∧
      (g.current.isSome = true → g.queue.length < 4 → Ends w.1 s (set1 fun g => { g with
        queue := g.queue ++ [⟨w.2, irq, g.dst, g.len, !o, true⟩] })) ∧
      (g.current.isSome = true → 4 ≤ g.queue.length → Ends w.1 s (set1 fun g => { g with result := 5 }))) ∧
  (∀ irq, i.val ≠ 4 → ∀ w ∈ [Instr.instantiate ch i irq true, .generate ch i irq true, .reseed ch i irq true, .uninstantiate ch i irq true],
    Ends w s (put s ch id)) ∧
  (∀ irq o : Bool, (o = true → i.val = 4) → g.current = none → g.queue = [] → Gives (.uninstantiate ch i irq o) s ch fun y =>
    (y.rng.inst.get i).state = 0 ∧ (y.rng.inst.get i).key = [] ∧ (y.rng.inst.get i).v = [] ∧ (y.rng.inst.get i).result = 0) ∧
  (g.current = none → Ends (.drbgRequestDone ch i) s nothing) ∧
  (∀ q, g.current = some q →
    (g.state = 3 → q.cmd ≠ 4 → Gives (.drbgRequestDone ch i) s ch fun y => (y.rng.inst.get i).result = 1 ∧ y.mem = c.mem) ∧
    (g.state = 0 → (q.cmd = 2 ∨ q.cmd = 3) → Gives (.drbgRequestDone ch i) s ch fun y => (y.rng.inst.get i).result = 2 ∧ y.mem = c.mem ∧
      y.sf.mech = 0x0B) ∧
    (q.cmd = 1 → g.state ≠ 3 → 2 ≤ g.blocks.length → Gives (.drbgRequestDone ch i) s ch fun y =>
      (y.rng.inst.get i).state = 1 ∧ (y.rng.inst.get i).count = 0 ∧ (y.rng.inst.get i).result = 0 ∧
      (y.rng.inst.get i).current = g.queue.head?) ∧
    (q.cmd = 3 → (g.state = 1 ∨ g.state = 2) → 2 ≤ g.blocks.length → Gives (.drbgRequestDone ch i) s ch fun y =>
      (y.rng.inst.get i).state = 1 ∧ (y.rng.inst.get i).count = 0 ∧ (y.rng.inst.get i).reseeds = (g.reseeds + 1) % 2 ^ 32 ∧
      (y.rng.inst.get i).result = 0) ∧
    ((q.cmd = 1 ∧ g.state ≠ 3) ∨ (q.cmd = 3 ∧ (g.state = 1 ∨ g.state = 2)) → g.blocks.length < 2 →
      (r.source ≠ .failed → Ends (.drbgRequestDone ch i) s nothing) ∧
      (r.source = .failed → Gives (.drbgRequestDone ch i) s ch fun y => (y.rng.inst.get i).result = 1)) ∧
    (q.cmd = 4 → Gives (.drbgRequestDone ch i) s ch fun y => (y.rng.inst.get i).state = 0 ∧ (y.rng.inst.get i).key = [] ∧
      (y.rng.inst.get i).result = 0) ∧
    (q.cmd = 2 → (g.state = 1 ∨ g.state = 2) → q.len = 0 ∨ 65536 < q.len → Gives (.drbgRequestDone ch i) s ch fun y =>
      (y.rng.inst.get i).result = 3 ∧ y.mem = c.mem) ∧
    (q.cmd = 2 → (g.state = 1 ∨ g.state = 2) → 0 < q.len → q.len ≤ 65536 → inData q.dst q.len = true → rngBad c.table q = none →
      (g.count < drbgLimit → Gives (.drbgRequestDone ch i) s ch fun y => (y.rng.inst.get i).result = 0 ∧
        (y.rng.inst.get i).count = g.count + 1 ∧ y.mem = (c.store q.dst (g.generate q.len).1).mem) ∧
      (drbgLimit ≤ g.count → r.source ≠ .failed → Ends (.drbgRequestDone ch i) s nothing))) ∧
  (g.state = 1 → 2 ^ 20 ≤ g.count → Ends (.drbgReseedDue ch i) s (set1 fun g => { g with state := 2, wants := 2 - g.blocks.length })) ∧
  (g.state = 1 → g.count < 2 ^ 20 → Ends (.drbgReseedDue ch i) s (set1 id)) ∧
  (g.state = 2 → 2 ≤ g.blocks.length → (g.current = none ∨ drbgLimit ≤ g.count) → Gives (.drbgReseedApply ch i) s ch fun y =>
    (y.rng.inst.get i).state = 1 ∧ (y.rng.inst.get i).count = 0 ∧ (y.rng.inst.get i).reseeds = (g.reseeds + 1) % 2 ^ 32 ∧
    (y.rng.inst.get i).blocks = g.blocks.drop 2) ∧
  ((g.state ≠ 2 ∨ g.blocks.length < 2 ∨ (g.current.isSome = true ∧ g.count < drbgLimit)) → Ends (.drbgReseedApply ch i) s (set1 id)) ∧
  (Gives (.drbgInstanceError ch i) s ch fun y => y.sf.mech = 0x06 ∧ y.sf.info = i.val ∧ (y.rng.inst.get i).state = 3) ∧
  (r.source = .running → c.state ≠ .asleep → (∀ t, r.calTick = some t → t + 600000 ≤ s.dev.tick) →
    (debtWaits .calibration s.dev c = false → Ends (.calibrationStart ch) s (put s ch fun c => { c with rng := { r with source := .calibrating } })) ∧
    (debtWaits .calibration s.dev c = true → Ends (.calibrationStart ch) s (put s ch id))) ∧
  (r.source ≠ .running ∨ c.state = .asleep ∨ (∃ t, r.calTick = some t ∧ s.dev.tick < t + 600000) → Ends (.calibrationStart ch) s (put s ch id)) ∧
  (r.source = .calibrating → (Gives (.calibrationDone ch false) s ch fun y => y.rng.source = .running ∧ y.rng.calTick = some s.dev.tick ∧
      y.rng.irq.getLsbD 3 = true) ∧
    Gives (.calibrationDone ch true) s ch fun y => y.rng.source = .failed ∧ y.sf.mech = 0x06) ∧
  (s.dev.lifecycle ≠ 1 → (∀ v, Ends (.rgTestWrite ch v) s (put s ch id)) ∧ (∀ v, Ends (.rgTpDataWrite ch v) s nothing) ∧
    Ends (.rgRawRead ch) s (put s ch fun c => { c with rng := { r with raw := 0 } })) ∧
  (s.dev.lifecycle = 1 →
    (∀ v : Word, v.getLsbD 0 = true → Gives (.rgTestWrite ch v) s ch fun y => y.rng.source = .test ∧ y.rng.tpEn = true ∧ y.rng.rawRd = v.getLsbD 1) ∧
    (r.rawRd = true → r.tpEn = false → Gives (.rgRawRead ch) s ch fun y => y.rng.raw = BitVec.ofNat 32 (leNat (freeBytes ch.val c.draws 4))) ∧
    (r.tpEn = true → r.samples = [] → r.aptPos = 0 → r.rctRun = 0 → Gives (.rgTpDataWrite ch 0x76543210) s ch fun y =>
      y.rng.samples = [0, 1, 2, 3, 4, 5, 6, 7] ∧ y.rng.alarms = r.alarms ∧ y.rng.rctVal = 7 ∧ y.rng.rctRun = 1))

/-- R275 to R279: BMOV copies its bytes in rising order, VMAC adds its products to its accumulator; each checks its whole extents
before the first step, and a length above 65,535 raises RANGE. Covers BMOV, VMAC. -/
def Obligations.KentenMoves : Prop := ∀ (s : State) (u : Core) (m : Byte),
  let c := opened (.bmov m.toNat) (unit s u)
  let k := c.core
  let gs := k.seg (m.toNat % 8)
  let gd := k.seg (m.toNat / 8 % 8)
  let a := (inp (k.top 3) 0).toNat
  let b := (inp (k.top 3) 1).toNat
  let n := (inp (k.top 3) 2).toNat
  (∀ stop, Ready s u (.bmov m.toNat) → 65535 < n → Ends (.bmov u m stop) s (onCore u (refusesLong (.bmov m.toNat) ⟨7, 0, 0xB000⟩) s)) ∧
  (∀ stop, Ready s u (.vmac m.toNat) → 65535 < n → Ends (.vmac u m stop) s (onCore u (refusesLong (.vmac m.toNat) ⟨7, 0, 0xB100⟩) s)) ∧
  (let rd (o w : Nat) : KExt := ⟨m.toNat % 8, o, w, .read, 3⟩
   let wr (o w : Nat) : KExt := ⟨m.toNat / 8 % 8, o, w, .write, 3⟩
   Ready s u (.bmov m.toNat) → Calm (coreExt u s) c → n ≤ 65535 → gs.base + gs.limit ≤ 2 ^ 32 → gd.base + gd.limit ≤ 2 ^ 32 →
   limitBad k 0xB0 (rd a n) = none → limitBad k 0xB0 (wr b n) = none →
   (∀ i, 8 * i < n → stepBad c 0xB0 [rd (a + 8 * i) (min 8 (n - 8 * i)), wr (b + 8 * i) (min 8 (n - 8 * i))] = none) →
     Leaves (.bmov u m none) s u fun c' =>
       let y := (List.range n).foldl (fun y j => y.storeByte (gd.base + b + j) (y.byteAt (gs.base + a + j))) c
       c'.mem = y.mem ∧ c'.patches = y.patches ∧
       c'.core.pc = k.pc + 2 ∧ c'.core.depth = k.depth - 3 ∧ c'.core.cycles = k.cycles + 2 + ceilDiv n 8 ∧ KeepsBlocks c c') ∧
  (let rx (i w : Nat) : KExt := ⟨m.toNat % 8, a + 4 * i, w, .read, 3⟩
   let ry (i w : Nat) : KExt := ⟨m.toNat / 8 % 8, b + 4 * i, w, .read, 3⟩
   let word (e : KExt) : Word := BitVec.ofNat 32 (leNat (c.bytesAt (e.phys k) 4))
   let acc := bit m.toNat 6
   let k' := (List.range n).foldl (fun y i =>
     if bit m.toNat 7 then accAdd acc (2 * (pairLo (word (rx i 4)) * pairLo (word (ry i 4))))
       (accAdd acc (2 * (pairHi (word (rx i 4)) * pairHi (word (ry i 4)))) y)
     else accAdd acc (mulQ y.psw (word (rx i 4)) (word (ry i 4))) y) k
   Ready s u (.vmac m.toNat) → Calm (coreExt u s) c → n ≤ 65535 → limitBad k 0xB1 (rx 0 (4 * n)) = none → limitBad k 0xB1 (ry 0 (4 * n)) = none →
   (n = 0 ∨ ((rx 0 0).phys k % 4 = 0 ∧ (ry 0 0).phys k % 4 = 0)) → (∀ i, i < n → stepBad c 0xB1 [rx i 4, ry i 4] = none) →
     Leaves (.vmac u m none) s u fun c' => c'.core.acc acc = k'.acc acc ∧ c'.core.acc (!acc) = k.acc (!acc) ∧ c'.core.psw = k'.psw ∧
       c'.core.pc = k.pc + 2 ∧ c'.core.depth = k.depth - 3 ∧ c'.core.cycles = k.cycles + 4 + n ∧ c'.mem = c.mem ∧ KeepsBlocks c c')

/-- R280, R282: LOOPS repeats its body, count 0 skips it; DIVS divides with rounding in the current mode, yields between steps and resumes at the step it stopped at. What DV_Q and DV_R hold
after a completed step is the model's free value. Covers LOOPS, DIVS. -/
def Obligations.KentenLoopsDivision : Prop := ∀ (s : State) (u : Core) (b : Half) (n : Byte),
  let c := issuing (unit s u)
  let k := c.core
  let p := inp (k.top 2) 0
  let q := inp (k.top 2) 1
  let l := (opened (.loops b.toNat) (unit s u)).core
  let v := (opened (.divs n.toNat) (unit s u)).core
  (Ready s u (.loops b.toNat) → 65535 < (inp (l.top 2) 0).toNat → Ends (.loops u b) s (onCore u (refusesLong (.loops b.toNat) ⟨7, 0, 0xB200⟩) s)) ∧
  (Ready s u (.loops b.toNat) → (inp (l.top 2) 0).toNat ≤ 65535 → (k.seg 0).limit < k.pc + 3 + b.toNat →
    Ends (.loops u b) s (onCore u (refusesLong (.loops b.toNat) ⟨4, (k.seg 0).limit, 0xB210⟩) s)) ∧
  (Ready s u (.loops b.toNat) → Calm (coreExt u s) c → p.toNat ≤ 65535 → k.pc + 3 + b.toNat ≤ (k.seg 0).limit → Leaves (.loops u b) s u fun c' =>
    let k' := c'.core
    k'.lpStart = k.pc + 3 ∧ k'.lpEnd = k.pc + 3 + b.toNat ∧ k'.lpCount = p.toNat ∧ k'.lpStride = q.toNat ∧ k'.loop = 0 ∧
    (p = 0 → k'.pc = k.pc + 3 + b.toNat ∧ k'.depth = k.depth - 2 ∧ k'.looping = false ∧ k'.landings = k.landings) ∧
    (p ≠ 0 → k'.pc = k.pc + 3 ∧ k'.depth = k.depth - 1 ∧ k'.looping = true ∧ ⟨k.cycles + 2, k.depth - 2, 0⟩ ∈ k'.landings) ∧
    c'.mem = c.mem ∧ KeepsBlocks c c') ∧
  (∀ stop, Ready s u (.divs n.toNat) → inp (v.top 2) 1 = 0 → Ends (.divs u n stop) s (onCore u (refusesLong (.divs n.toNat) ⟨7, 0, 0xB400⟩) s)) ∧
  (let r := fit32 k.psw (roundDiv (pswRnd k.psw) (p.toInt * 2 ^ n.toNat * (if q.toInt < 0 then -1 else 1)) q.toInt.natAbs)
   Ready s u (.divs n.toNat) → Calm (coreExt u s) c → q ≠ 0 →
   (Leaves (.divs u n none) s u fun c' => let k' := c'.core
     k'.psw = r.2 ∧ ⟨k.cycles + 18, k.depth - 2, r.1⟩ ∈ k'.landings ∧ k'.depth = k.depth - 1 ∧ k'.pc = k.pc + 2 ∧ k'.cycles = k.cycles + 18 ∧
     k'.step = 0 ∧ k'.long = false ∧ c'.mem = c.mem ∧ KeepsBlocks c c') ∧
   ∀ j, 0 < j → j < 16 → pswMask k.psw = false → (∀ y, atBoundary { k with cycles := y } = true) →
     Leaves (.divs u n (some j)) s u fun c' => let k' := c'.core
     k'.step = j ∧ k'.long = true ∧ k'.pc = k.pc ∧ k'.depth = k.depth ∧ k'.psw = k.psw ∧ k'.landings = k.landings ∧ c'.mem = c.mem) ∧
  (Ready s u (.divs n.toNat) → k.depth ≤ 16 → k.long = false → q ≠ 0 → (∀ y, atBoundary { k with cycles := y } = true) →
   (∀ y, (takeable (coreExt u s) { k with cycles := y }).isSome = true) → ∀ stop, Leaves (.divs u n stop) s u fun c' => let k' := c'.core
     k'.step = 1 ∧ k'.long = true ∧ k'.pc = k.pc ∧ k'.depth = k.depth ∧ k'.psw = k.psw ∧ k'.cycles = k.cycles + 3 ∧ c'.mem = c.mem) ∧
  (let r := fit32 k.psw (roundDiv (pswRnd k.psw) (p.toInt * 2 ^ n.toNat * (if q.toInt < 0 then -1 else 1)) q.toInt.natAbs)
   Ready s u (.divs n.toNat) → Shallow c → k.long = true → q ≠ 0 → (∀ y, takeable (coreExt u s) { k with cycles := y } = none) →
     Leaves (.divs u n none) s u fun c' => let k' := c'.core
       k'.psw = r.2 ∧ ⟨k.cycles + 2 + (16 - k.step), k.depth - 2, r.1⟩ ∈ k'.landings ∧ k'.depth = k.depth - 1 ∧ k'.pc = k.pc + 2 ∧
       k'.cycles = k.cycles + 2 + (16 - k.step) ∧ k'.step = 0 ∧ k'.long = false ∧ c'.mem = c.mem)

/-- R281: HBLK drives hash context 3: INIT opens it, FEED adds the bytes of an extent, FINAL stores the digest and closes it; FEED and
FINAL of a context that is not open raise RANGE. Covers HBLK_INIT, HBLK_FEED, HBLK_FINAL. -/
def Obligations.KentenHash : Prop := ∀ (s : State) (u : Core) (hi : Fin 32) (wait : Nat),
  let c := issuing (unit s u)
  let k := c.core
  let y := c.hash.ctx 3
  let g := hi.val % 8
  (∀ alg : Fin 3, Ready s u (.hblk (8 * hi.val + alg.val)) → Calm (coreExt u s) c → Leaves (.hblkInit u alg hi wait) s u fun c' =>
    c'.hash = onHashCtx 3 (fun _ => { alg := alg.val + 1, opened := true }) c.hash ∧ c'.core.pc = k.pc + 2 ∧ c'.core.depth = k.depth ∧
    c'.core.hblkWait = (if c.hash.main.isEmpty = true then k.hblkWait else min (k.hblkWait + wait) 0xFFFFFFFF) ∧ c'.mem = c.mem) ∧
  (∀ stop, Ready s u (.hblk (8 * hi.val + 3)) → (65535 < (inp ((opened (.hblk (8 * hi.val + 3)) (unit s u)).core.top 2) 1).toNat ∨ y.opened = false) →
    Ends (.hblkFeed u hi wait stop) s (onCore u (refusesLong (.hblk (8 * hi.val + 3)) ⟨7, 0, 0xB300⟩) s)) ∧
  (∀ stop, Ready s u (.hblk (8 * hi.val + 4)) → y.opened = false →
    Ends (.hblkFinal u hi wait stop) s (onCore u (refusesLong (.hblk (8 * hi.val + 4)) ⟨7, 0, 0xB300⟩) s)) ∧
  (let o := (inp (k.top 2) 0).toNat
   let n := (inp (k.top 2) 1).toNat
   let e (j w : Nat) : KExt := ⟨g, o + j, w, .read, 3⟩
   Ready s u (.hblk (8 * hi.val + 3)) → Calm (coreExt u s) c → n ≤ 65535 → y.opened = true → (k.seg g).base + (k.seg g).limit ≤ 2 ^ 32 →
   limitBad k 0xB3 (e 0 n) = none → (∀ j w, j + w ≤ n → stepBad c 0xB3 [e j w] = none) →
     Leaves (.hblkFeed u hi wait none) s u fun c' =>
       c'.hash = onHashCtx 3 (fun y => { y with message := y.message ++ c.bytesAt ((e 0 n).phys k) n }) c.hash ∧
       c'.core.pc = k.pc + 2 ∧ c'.core.depth = k.depth - 2 ∧ c'.mem = c.mem) ∧
  (let e : KExt := ⟨g, (inp (k.top 1) 0).toNat, (hash (algOf y.alg) []).length, .write, 3⟩
   Ready s u (.hblk (8 * hi.val + 4)) → Calm (coreExt u s) c → y.opened = true → limitBad k 0xB3 e = none → stepBad c 0xB3 [e] = none →
     Leaves (.hblkFinal u hi wait none) s u fun c' => c'.mem = (c.store (e.phys k) y.finish).mem ∧
       c'.patches = (c.store (e.phys k) y.finish).patches ∧
       c'.hash = onHashCtx 3 (fun y => { y with digest := y.finish, opened := false, message := [] }) c.hash ∧
       c'.core.pc = k.pc + 2 ∧ c'.core.depth = k.depth - 1)

/-- R264, R285, R286, R291 to R298, R302 to R306: entries, returns and stops of a core. An entry stores its frame and goes to its vector;
with MASK set a fault becomes a double fault, which halts the core. Covers GATE, RETE,
FAULT_ENTRY, INTERRUPT_ENTRY, RESULT_LAND, TIMER_MATCH, DOUBLE_FAULT, LOCKSTEP_MISCOMPARE. -/
def Obligations.KentenEntries : Prop := ∀ (s : State) (u : Core), Present s u →
  let c := unit s u
  let k := c.core
  let i := issuing c
  (∀ n : Byte, Ready s u (.gate n.toNat) →
    let same := decide (128 ≤ n.toNat)
    let on := i.core.gateEn.testBit (if same then 16 + n.toNat % 16 else n.toNat % 16)
    let args := n.toNat / 16 % 8
    (on = false → Ends (.gate u n) s (onCore u (refusesPass ⟨2, 0, 0xC100⟩) s)) ∧
    (on = true → k.depth < args → Ends (.gate u n) s (onCore u (refusesPass ⟨3, 0, 0xC100⟩) s)) ∧
    (on = true → args ≤ k.depth → same = true → Room i k.inWorld (48 + n.toNat % 16) →
      Leaves (.gate u n) s u fun c' => Entered i c' (48 + n.toNat % 16) 2 args (k.pc + 2) 0 0) ∧
    (on = true → args ≤ k.depth → same = false → ∀ h : u.val < 16, let l := outside ⟨u.val, h⟩ s.dev args i
      Room l true (48 + n.toNat % 16) → Leaves (.gate u n) s u fun c' => Crossed i l c' (48 + n.toNat % 16) args)) ∧
  (Ready s u .rete →
    let ptr := if k.inWorld then k.framePtrI else k.framePtrO
    let base := if k.inWorld then k.frameBaseI else k.frameBaseO
    let top := if k.inWorld then k.frameTopI else k.frameTopO
    let f := c.bytesAt ptr 80
    ((ptr < base ∨ top < ptr + 80) → Ends (.rete u) s (onCore u (refusesPass ⟨7, 0, 0xC200⟩) s)) ∧
    (base ≤ ptr → ptr + 80 ≤ top → (∀ j, j < 80 → isPeriph (ptr + j) = false ∧ atAllows c.table k.ctx .read (ptr + j) = true) →
      badWordIn c.table ptr 80 = none → reteBad k f = none → pswInner (BitVec.ofNat 32 (fieldLE f 8 4)) = k.inWorld →
      Leaves (.rete u) s u fun c' => let k' := c'.core
        k'.pc = fieldLE f 4 4 ∧ k'.psw = BitVec.ofNat 32 (fieldLE f 8 4) ∧ k'.seg 0 = ⟨fieldLE f 12 4, fieldLE f 16 4⟩ ∧
        k'.prog = fieldLE f 32 4 ∧ k'.lpStart = fieldLE f 36 4 ∧ k'.lpEnd = fieldLE f 40 4 ∧ k'.lpCount = fieldLE f 44 4 ∧
        k'.lpStride = fieldLE f 48 4 ∧ k'.dvq = BitVec.ofNat 32 (fieldLE f 56 4) ∧ k'.dvr = BitVec.ofNat 32 (fieldLE f 60 4) ∧
        k'.long = bit (fieldLE f 0 4) 12 ∧ k'.looping = bit (fieldLE f 0 4) 13 ∧ k'.branch.isSome = bit (fieldLE f 0 4) 8 ∧
        (if k.inWorld then k'.framePtrI else k'.framePtrO) = ptr + 80 ∧ k'.depth = k.depth ∧ c'.mem = c.mem)) ∧
  (let l : Channel := { c with core := k.landEvery }
   ∀ f, k.fault = some f → k.halted = false →
    (pswMask k.psw = true → Leaves (.faultEntry u none) s u fun c' => c'.core.fault = none ∧
      c'.core.dfault = some ⟨f.vector, 0, f.faddr⟩ ∧ c'.core.pc = k.pc ∧ c'.mem = c.mem) ∧
    (pswMask k.psw = false → (k.inWorld = true ∨ k.froute.testBit f.vector = true) → Room l k.inWorld f.vector →
      Leaves (.faultEntry u none) s u fun c' => Entered l c' f.vector 0 0 k.pc f.faddr f.finfo) ∧
    (pswMask k.psw = false → k.inWorld = false → k.froute.testBit f.vector = false → ∀ h : u.val < 16,
      let o := outside ⟨u.val, h⟩ s.dev 0 l
      Room o true f.vector → Leaves (.faultEntry u none) s u fun c' => Crossed l o c' f.vector 0)) ∧
  (let l : Channel := { c with core := k.land }
   ∀ b, takeable (coreExt u s) k.land = some b → k.irqWorld.testBit b = !k.inWorld →
    (atBoundary k.land = true → Room l k.inWorld (16 + b) →
      Leaves (.interruptEntry u) s u fun c' => Entered l c' (16 + b) 1 0 k.pc 0 0) ∧
    (atBoundary k.land = false → Leaves (.interruptEntry u) s u fun c' => c'.core = k.land ∧ c'.mem = c.mem)) ∧
  (let l : Channel := { c with core := k.land }
   ∀ b, takeable (coreExt u s) k.land = some b → k.irqWorld.testBit b = false → k.inWorld = false → atBoundary k.land = true →
    ∀ h : u.val < 16, let o := outside ⟨u.val, h⟩ s.dev 0 l
      Room o true (16 + b) → Leaves (.interruptEntry u) s u fun c' => Crossed l o c' (16 + b) 0) ∧
  (takeable (coreExt u s) k.land = none → Leaves (.interruptEntry u) s u fun c' => c'.core = k.land ∧ c'.mem = c.mem) ∧
  (let due := k.landings.takeWhile fun x => x.due ≤ k.cycles
   Leaves (.resultLand u) s u fun c' => c'.core.landings = k.landings.drop due.length ∧
    c'.core.regs = due.foldl (fun r x => r.set (x.slot % 16) x.value (Nat.mod_lt _ (by decide))) k.regs ∧
    c'.core.pc = k.pc ∧ c'.core.depth = k.depth ∧ c'.mem = c.mem) ∧
  (k.waiting = true → k.halted = false → Leaves (.timerMatch u) s u fun c' => c'.core.cycles = max k.cycles k.tcmp ∧ c'.core.timer = true) ∧
  (k.waiting = false → Leaves (.timerMatch u) s u fun c' => c'.core = k) ∧
  (∀ f, k.dfault = some f → Leaves (.doubleFault u) s u fun c' => c'.core.halted = true ∧ c'.core.dfault = none ∧
    c'.core.df = dfRecord k f ∧ (c.table.mgmt = false → c.state = .ready → c'.state = .fault ∧ c'.sf.mech = 0x02 ∧ c'.sf.info = f.vector % 2 ^ 32)) ∧
  (Leaves (.lockstepMiscompare u) s u fun c' => c'.core.halted = true ∧
    (c.table.mgmt = false → c.state = .ready → c'.state = .fault ∧ c'.sf.mech = 0x01))

/-- The frame of the instructions that compute on the stack alone: memory, every block outside the core and every register but the
stack, PSW's RND, SAT and OV, the PC and the counters stay; a store writes the bytes of its extent and no other. A core that cannot issue, or
whose fetch the flash bank holds up, does nothing. -/
def Obligations.KentenFrames : Prop := ∀ (s : State) (u : Core) (b : Byte) (h : Half) (w : Word) (g : Fin 6),
  let c := issuing (unit s u)
  (∀ r ∈ stackRows u (coreAt s u) (pswOf s u) b h w ++ fittedRows u (pswOf s u) b h ++ logicRows u (pswOf s u) b ++ systemRows u c (pswOf s u) b,
    Ready s u r.2.1 → Shallow c → depthAfter c r.2.1 ≤ 16 →
      Leaves r.1 s u fun c' => c'.mem = c.mem ∧ KeepsBlocks c c' ∧ KeepsRegisters c.core c'.core) ∧
  (∀ r ∈ storeRows u g h, let e := r.2.2 (inputs s u r.2.1)
    Ready s u r.2.1 → Shallow c → Passes s u r.2.1 [e] → isPeriph (e.phys c.core) = false → memWf c.mem = true →
      Leaves r.1 s u fun c' => memWf c'.mem = true ∧ KeepsBlocks c c' ∧ KeepsRegisters c.core c'.core ∧
        ∀ a, c'.byteAt a = if e.phys c.core ≤ a ∧ a < e.phys c.core + e.width
          then (in0 (inputs s u r.2.1)).extractLsb' (8 * (a - e.phys c.core)) 8 else c.byteAt a) ∧
  (∀ r ∈ stackRows u (coreAt s u) (pswOf s u) b h w, Present s u →
    (canIssue (coreExt u s) (unit s u).core = false ∨ fetchReads r.2.1 (unit s u) = none) →
      Leaves r.1 s u fun c' => c'.core = (unit s u).core ∧ c'.mem = (unit s u).mem ∧ KeepsBlocks (unit s u) c')

/-- R69 to R72, R152, R334, R409, R470, R551, R552: the boot of a channel. A change of lifecycle or a slot on trial is confirmed by
management first; a slot that passes its checks is copied, without one the channel enters RECOVERY; a failed known-answer test and a wrong
signature of an overdue logic BIST are reported; a fast restart leaves code SRAM and journal alone; the second part decides the entry in
COMMITTING by LAST_TXN, locks the table, arms the watchdog and ends READY; root-load compares the tree's root and retries. Covers
CHANNEL_BOOT, ROOT_LOAD_RETRY. -/
def Obligations.ChannelBoots : Prop := ∀ (s : State) (ch : Ch) (seen : BootSeen), s.dev.has ch = true →
  let c := s.chan ch
  let env := bootEnv ch s
  let slot := bootSlot false s.mg.chSvn (!c.jr.entries.isEmpty) c.fw c.fw.order
  let clean := seen.rows = [] ∧ seen.flips = [] ∧ seen.corrected = [] ∧ seen.uncorrectable = []
  let sound := s.dev.lifecycle = 7 ∧ env.tampered = false ∧ ∀ p ∈ c.keys.slots, p.2.faulty = false
  c.state = .booting →
  (c.bootStep < 3 → c.needsConfirm = true → mgmtServes s = false → Gives (.channelBoot ch seen) s ch fun c' =>
    c'.state = .waitMgmt ∧ c'.bootStep = c.bootStep ∧ c'.jr = c.jr ∧ c'.mem = c.mem) ∧
  (c.bootStep < 3 → c.needsConfirm = false → fastRestart seen c = false → c.sf.bistTick + 28800000 < s.dev.tick →
    ∀ lo hi, seen.signature = some (lo, hi) → Gives (.channelBoot ch seen) s ch fun c' =>
      c'.state = .fault ∧ c'.sf.latched = true ∧ c'.sf.mech = 0x0C) ∧
  (c.bootStep < 3 → c.needsConfirm = false → fastRestart seen c = false → seen.signature = none → clean →
    (slot.1 = none → Gives (.channelBoot ch seen) s ch fun c' => c'.state = .recovery ∧ c'.fw.running = none ∧ c'.sf.mbDone = true) ∧
    (∀ b i, slot.1 = some (b, i) →
      (seen.kat = true → Gives (.channelBoot ch seen) s ch fun c' => c'.state = .fault ∧ c'.sf.mech = 0x0B) ∧
      (seen.kat = false → Gives (.channelBoot ch seen) s ch fun c' => c'.state = .booting ∧ c'.bootStep = 3 ∧ c'.rng.source = .proofing ∧
        c'.fw.running = some b ∧ c'.image = some i.hdr ∧ c'.jr = c.jr ∧
        c'.mem = memStore (testedMem (decide (1 ≤ c.jr.lastReset) && decide (c.jr.lastReset ≤ 4)) c.mem) 0 i.body))) ∧
  (c.bootStep < 3 → c.needsConfirm = false → fastRestart seen c = true → clean → seen.kat = false →
    Gives (.channelBoot ch seen) s ch fun c' => c'.state = .booting ∧ c'.bootStep = 3 ∧ c'.rng.source = .proofing ∧ c'.fw = c.fw ∧
      c'.jr = c.jr ∧ c'.mem = c.mem ∧ c'.recipes = c.recipes) ∧
  (c.bootStep = 4 → c.needsConfirm = false → (c.jr.lastReset ≠ 4 ∨ seen.digest = true) → seen.check = true →
    Gives (.channelBoot ch seen) s ch fun c' => c'.state = .fault ∧ c'.sf.latched = true ∧ c'.sf.mech = 0x0C) ∧
  (c.bootStep = 4 → c.needsConfirm = false → ((c.jr.lastReset = 4 ∧ seen.digest = false) ∨ seen.check = false) → c.shard.assigned = false →
    (sound → Gives (.channelBoot ch seen) s ch fun c' =>
      c'.state = .ready ∧ c'.bootStep = 7 ∧ c'.table.lockAll = true ∧ c'.table.entries.take 13 = firmwareTable ∧ c'.sf.wdogEn = true ∧
      c'.ce.standing = true ∧ (c'.ce.cxs.get 1).st = .held ∧
      c'.jr.entries.map (·.jidx) = (c.jr.entries.filter fun e => !entryLost c e).map (·.jidx)) ∧
    (c.patches = [] → c.table.badWords = [] → c.sf.valid = false → ∀ e ∈ c.jr.entries, e.state = .committing →
      (∀ o ∈ c.jr.entries, o.state = .committing → o = e) → Gives (.channelBoot ch seen) s ch fun c' => ∃ n ∈ c'.jr.entries, n.jidx = e.jidx ∧
        n.state = if c.shard.lastTxn = (s.dev.bootCount, e.serial) then (if e.writes.isEmpty then .written else .committed) else .claimed)) ∧
  (∀ (image : Option Bytes) (flips : List (Nat × Byte)) (micros : Nat), c.bootStep = 5 → c.shard.assigned = true → c.held = false →
    c.pair.role ≠ .standbyEmpty → let f := applyFlips flips c
    (treeSource image f = none → Gives (.rootLoadRetry ch image flips micros) s ch fun c' =>
      c' = { f with outSources := [], outCrumbs := [] }) ∧
    (∀ nodes, treeSource image f = some nodes →
      let t := (treePatches f).foldl (fun t p => treeSet t p.2.1 p.2.2) nodes
      (treeRoot t ≠ c.shard.root → Gives (.rootLoadRetry ch image flips micros) s ch fun c' =>
        c'.state = .booting ∧ c'.bootStep = 5 ∧ c'.rootTries = c.rootTries + 1 ∧ c'.treeOk = c.treeOk ∧ c'.jr = c.jr) ∧
      (treeRoot t = c.shard.root → sound → (∀ e ∈ c.jr.entries, e.state ≠ .committing) →
        Gives (.rootLoadRetry ch image flips micros) s ch fun c' =>
          c'.state = .ready ∧ c'.tree = t ∧ c'.treeOk = true ∧ c'.bootStep = 7 ∧ c'.table.lockAll = true)))

/-- A step runs the command at the front of the queue on the state with the queue's rest. On an empty queue a millisecond of the
battery tick passes while the battery domain has a supply (the model's choice, log entry 3). -/
def Obligations.StepRunsFront : Prop := ∀ s : State,
  (∀ c rest, s.pending = c :: rest → step s = exec c { s with pending := rest }) ∧
  (s.pending = [] → ∃ t, step s = .next t ∧ t = { s with dev := { s.dev with tick := t.dev.tick } } ∧
    t.dev.tick = if s.pw.main = true ∨ s.tp.battery = true then (s.dev.tick + 1) % 2 ^ 64 else s.dev.tick)

/-- What a step can never do: it always answers a next state; the queue loses its front command and nothing else; the fuses stay,
and no firmware floor falls (R4, R408, R411). -/
def Obligations.OneWay : Prop := ∀ s : State, ∃ t, step s = .next t ∧ t.pending = s.pending.tail ∧ t.dev.enabled = s.dev.enabled ∧
  s.mg.mgSvn ≤ t.mg.mgSvn ∧ s.mg.chSvn ≤ t.mg.chSvn

/-- R4, an invariant of every step: a channel that the fuses do not enable stays in reset and holds no job, no key and no data. -/
def Obligations.DisabledChannels : Prop := ∀ s t : State, DisabledDark s → step s = .next t → DisabledDark t

/-- What reset leaves: an empty queue, every channel dark, memories empty and in canonical form, the cores at the boot ROM's vector with
PSW 0x700 and no frame area, access-table entry 63 alone valid, the engines idle, the journal empty, function 0 idle, no update
session, the tamper monitor not armed. -/
def Obligations.ResetFacts : Prop :=
  let s := State.reset
  s.pending = [] ∧ DisabledDark s ∧ (∀ ch : Ch, Dark (s.chan ch)) ∧ s.fn0.current = none ∧ s.fn0.phase = .idle ∧ s.mg.update.state = 0 ∧
  s.tp.armed = false ∧ s.pw.main = true ∧ s.pw.link = false ∧ s.dev.mgmtUp = false ∧
  ∀ u : Core, let c := unit s u
    memWf c.mem = true ∧ c.core.psw = 0x700 ∧ c.core.pc = 0 ∧ c.core.seg 0 = ⟨0xFFFF0000, 0x10000⟩ ∧ c.core.depth = 0 ∧
    c.core.frameBaseI = 0 ∧ c.core.framePtrI = 0 ∧ c.core.frameTopI = 0 ∧ c.core.tcmp = 2 ^ 64 - 1 ∧
    (∀ n : Nat, n < 64 → ((c.table.entries.getD n {}).perm ≠ 0 ↔ n = 63)) ∧
    c.pke.running = none ∧ c.hash.main.isEmpty = true ∧ c.rng.source = .off ∧ c.nv.busy = none ∧ c.jr.entries = []

/-- R14: a command confined to one channel leaves every other channel, the clocks, the tamper monitor, management's own record and unit (but
for the cause of its interrupt), the tag, the cards and the power state as they were; and what it does to its channel depends on nothing
but that channel, the shared clocks and identity, the tamper monitor and the power state: two states that agree on those agree on the
channel afterwards. -/
def Obligations.ChannelIsolation : Prop := ∀ (i : Instr) (ch : Ch), reaches i = some ch →
  (∀ s t : State, Ends i s t → (∀ a : Ch, a ≠ ch → t.chan a = s.chan a) ∧ t.dev = s.dev ∧ t.tp = s.tp ∧ t.mgu = { s.mgu with causes := t.mgu.causes } ∧ t.mg = s.mg ∧
    t.nf = s.nf ∧ t.cards = s.cards ∧ t.pw = s.pw ∧ t.log = s.log) ∧
  ∀ s1 s2 t1 t2 : State, s1.chan ch = s2.chan ch → s1.dev = s2.dev → s1.tp = s2.tp → s1.pw = s2.pw →
    Ends i s1 t1 → Ends i s2 t2 → t1.chan ch = t2.chan ch
end

