-- ==== Sys2Proof/Laws/State.lean ====
section
/-! SUPPORT. What each named update of the state changes and what it leaves: one lemma a field, true by unfolding, so that
no later proof unfolds a record update. -/

namespace Sys2Proof.Machine

/-! ### setChan -/

@[simp] theorem setChan_pending (s : State) (ch : Ch) (c : Channel) : (setChan s ch c).pending = s.pending := rfl

@[simp] theorem setChan_fn0 (s : State) (ch : Ch) (c : Channel) : (setChan s ch c).fn0 = s.fn0 := rfl

@[simp] theorem setChan_dev (s : State) (ch : Ch) (c : Channel) : (setChan s ch c).dev = s.dev := rfl

@[simp] theorem setChan_aon (s : State) (ch : Ch) (c : Channel) : (setChan s ch c).aon = s.aon := rfl

@[simp] theorem setChan_mgu (s : State) (ch : Ch) (c : Channel) : (setChan s ch c).mgu = s.mgu := rfl

@[simp] theorem setChan_mg (s : State) (ch : Ch) (c : Channel) : (setChan s ch c).mg = s.mg := rfl

@[simp] theorem setChan_log (s : State) (ch : Ch) (c : Channel) : (setChan s ch c).log = s.log := rfl

@[simp] theorem setChan_tp (s : State) (ch : Ch) (c : Channel) : (setChan s ch c).tp = s.tp := rfl

@[simp] theorem setChan_nf (s : State) (ch : Ch) (c : Channel) : (setChan s ch c).nf = s.nf := rfl

@[simp] theorem setChan_cards (s : State) (ch : Ch) (c : Channel) : (setChan s ch c).cards = s.cards := rfl

@[simp] theorem setChan_pw (s : State) (ch : Ch) (c : Channel) : (setChan s ch c).pw = s.pw := rfl

@[simp] theorem setChan_same (s : State) (ch : Ch) (c : Channel) : (setChan s ch c).chan ch = c := by
  show (s.chans.set ch.val c ch.isLt)[ch.val] = c
  simp

theorem setChan_other (s : State) (a b : Ch) (c : Channel) (h : b ≠ a) : (setChan s a c).chan b = s.chan b := by
  have h' : a.val ≠ b.val := fun e => h (Fin.ext e.symm)
  show (s.chans.set a.val c a.isLt)[b.val] = s.chans[b.val]
  simp [h']

theorem setChan_chan (s : State) (a b : Ch) (c : Channel) : (setChan s a c).chan b = if b = a then c else s.chan b := by
  by_cases h : b = a
  · subst h; simp
  · simp [h, setChan_other s a b c h]

@[simp] theorem setChan_setChan (s : State) (ch : Ch) (c d : Channel) : setChan (setChan s ch c) ch d = setChan s ch d := by
  simp [setChan]

/-! ### onChan -/

@[simp] theorem onChan_pending (ch : Ch) (f : Ch → Device → Channel → Channel) (s : State) : (onChan ch f s).pending = s.pending := by
  unfold onChan; split <;> rfl

@[simp] theorem onChan_fn0 (ch : Ch) (f : Ch → Device → Channel → Channel) (s : State) : (onChan ch f s).fn0 = s.fn0 := by
  unfold onChan; split <;> rfl

@[simp] theorem onChan_dev (ch : Ch) (f : Ch → Device → Channel → Channel) (s : State) : (onChan ch f s).dev = s.dev := by
  unfold onChan; split <;> rfl

@[simp] theorem onChan_aon (ch : Ch) (f : Ch → Device → Channel → Channel) (s : State) : (onChan ch f s).aon = s.aon := by
  unfold onChan; split <;> rfl

@[simp] theorem onChan_mgu (ch : Ch) (f : Ch → Device → Channel → Channel) (s : State) : (onChan ch f s).mgu = s.mgu := by
  unfold onChan; split <;> rfl

@[simp] theorem onChan_mg (ch : Ch) (f : Ch → Device → Channel → Channel) (s : State) : (onChan ch f s).mg = s.mg := by
  unfold onChan; split <;> rfl

@[simp] theorem onChan_log (ch : Ch) (f : Ch → Device → Channel → Channel) (s : State) : (onChan ch f s).log = s.log := by
  unfold onChan; split <;> rfl

@[simp] theorem onChan_tp (ch : Ch) (f : Ch → Device → Channel → Channel) (s : State) : (onChan ch f s).tp = s.tp := by
  unfold onChan; split <;> rfl

@[simp] theorem onChan_nf (ch : Ch) (f : Ch → Device → Channel → Channel) (s : State) : (onChan ch f s).nf = s.nf := by
  unfold onChan; split <;> rfl

@[simp] theorem onChan_cards (ch : Ch) (f : Ch → Device → Channel → Channel) (s : State) : (onChan ch f s).cards = s.cards := by
  unfold onChan; split <;> rfl

@[simp] theorem onChan_pw (ch : Ch) (f : Ch → Device → Channel → Channel) (s : State) : (onChan ch f s).pw = s.pw := by
  unfold onChan; split <;> rfl

theorem onChan_enabled (ch : Ch) (f : Ch → Device → Channel → Channel) (s : State) (h : s.dev.has ch = true) :
    onChan ch f s = setChan s ch (f ch s.dev (s.chan ch)) := by simp [onChan, h]

/-- A channel that is not enabled takes no command (R4). -/
theorem onChan_disabled (ch : Ch) (f : Ch → Device → Channel → Channel) (s : State) (h : s.dev.has ch = false) :
    onChan ch f s = s := by simp [onChan, h]

theorem onChan_same (ch : Ch) (f : Ch → Device → Channel → Channel) (s : State) (h : s.dev.has ch = true) :
    (onChan ch f s).chan ch = f ch s.dev (s.chan ch) := by simp [onChan, h]

/-- A command confined to one channel leaves every other channel (R14). -/
theorem onChan_other (a b : Ch) (f : Ch → Device → Channel → Channel) (s : State) (h : b ≠ a) :
    (onChan a f s).chan b = s.chan b := by
  unfold onChan
  split
  · exact setChan_other s a b _ h
  · rfl

/-! ### raiseFn0 -/

@[simp] theorem raiseFn0_pending (v : Nat) (s : State) : (raiseFn0 v s).pending = s.pending := by
  unfold raiseFn0
  split
  · rfl
  · split <;> rfl

@[simp] theorem raiseFn0_chans (v : Nat) (s : State) : (raiseFn0 v s).chans = s.chans := by
  unfold raiseFn0
  split
  · rfl
  · split <;> rfl

@[simp] theorem raiseFn0_dev (v : Nat) (s : State) : (raiseFn0 v s).dev = s.dev := by
  unfold raiseFn0
  split
  · rfl
  · split <;> rfl

@[simp] theorem raiseFn0_aon (v : Nat) (s : State) : (raiseFn0 v s).aon = s.aon := by
  unfold raiseFn0
  split
  · rfl
  · split <;> rfl

@[simp] theorem raiseFn0_mgu (v : Nat) (s : State) : (raiseFn0 v s).mgu = s.mgu := by
  unfold raiseFn0
  split
  · rfl
  · split <;> rfl

@[simp] theorem raiseFn0_mg (v : Nat) (s : State) : (raiseFn0 v s).mg = s.mg := by
  unfold raiseFn0
  split
  · rfl
  · split <;> rfl

@[simp] theorem raiseFn0_log (v : Nat) (s : State) : (raiseFn0 v s).log = s.log := by
  unfold raiseFn0
  split
  · rfl
  · split <;> rfl

@[simp] theorem raiseFn0_tp (v : Nat) (s : State) : (raiseFn0 v s).tp = s.tp := by
  unfold raiseFn0
  split
  · rfl
  · split <;> rfl

@[simp] theorem raiseFn0_nf (v : Nat) (s : State) : (raiseFn0 v s).nf = s.nf := by
  unfold raiseFn0
  split
  · rfl
  · split <;> rfl

@[simp] theorem raiseFn0_cards (v : Nat) (s : State) : (raiseFn0 v s).cards = s.cards := by
  unfold raiseFn0
  split
  · rfl
  · split <;> rfl

@[simp] theorem raiseFn0_pw (v : Nat) (s : State) : (raiseFn0 v s).pw = s.pw := by
  unfold raiseFn0
  split
  · rfl
  · split <;> rfl

@[simp] theorem raiseFn0_chan (v : Nat) (s : State) (ch : Ch) : (raiseFn0 v s).chan ch = s.chan ch := by simp [State.chan]

/-! ### aonCrumb -/

@[simp] theorem aonCrumb_pending (x : Crumb) (s : State) : (aonCrumb x s).pending = s.pending := by
  unfold aonCrumb; split <;> rfl

@[simp] theorem aonCrumb_chans (x : Crumb) (s : State) : (aonCrumb x s).chans = s.chans := by
  unfold aonCrumb; split <;> rfl

@[simp] theorem aonCrumb_fn0 (x : Crumb) (s : State) : (aonCrumb x s).fn0 = s.fn0 := by
  unfold aonCrumb; split <;> rfl

@[simp] theorem aonCrumb_dev (x : Crumb) (s : State) : (aonCrumb x s).dev = s.dev := by
  unfold aonCrumb; split <;> rfl

@[simp] theorem aonCrumb_mgu (x : Crumb) (s : State) : (aonCrumb x s).mgu = s.mgu := by
  unfold aonCrumb; split <;> rfl

@[simp] theorem aonCrumb_mg (x : Crumb) (s : State) : (aonCrumb x s).mg = s.mg := by
  unfold aonCrumb; split <;> rfl

@[simp] theorem aonCrumb_log (x : Crumb) (s : State) : (aonCrumb x s).log = s.log := by
  unfold aonCrumb; split <;> rfl

@[simp] theorem aonCrumb_tp (x : Crumb) (s : State) : (aonCrumb x s).tp = s.tp := by
  unfold aonCrumb; split <;> rfl

@[simp] theorem aonCrumb_nf (x : Crumb) (s : State) : (aonCrumb x s).nf = s.nf := by
  unfold aonCrumb; split <;> rfl

@[simp] theorem aonCrumb_cards (x : Crumb) (s : State) : (aonCrumb x s).cards = s.cards := by
  unfold aonCrumb; split <;> rfl

@[simp] theorem aonCrumb_pw (x : Crumb) (s : State) : (aonCrumb x s).pw = s.pw := by
  unfold aonCrumb; split <;> rfl

@[simp] theorem aonCrumb_chan (x : Crumb) (s : State) (ch : Ch) : (aonCrumb x s).chan ch = s.chan ch := by simp [State.chan]

/-! ### raiseMg -/

@[simp] theorem raiseMg_pending (i : Nat) (s : State) : (raiseMg i s).pending = s.pending := rfl

@[simp] theorem raiseMg_chans (i : Nat) (s : State) : (raiseMg i s).chans = s.chans := rfl

@[simp] theorem raiseMg_fn0 (i : Nat) (s : State) : (raiseMg i s).fn0 = s.fn0 := rfl

@[simp] theorem raiseMg_dev (i : Nat) (s : State) : (raiseMg i s).dev = s.dev := rfl

@[simp] theorem raiseMg_aon (i : Nat) (s : State) : (raiseMg i s).aon = s.aon := rfl

@[simp] theorem raiseMg_mg (i : Nat) (s : State) : (raiseMg i s).mg = s.mg := rfl

@[simp] theorem raiseMg_log (i : Nat) (s : State) : (raiseMg i s).log = s.log := rfl

@[simp] theorem raiseMg_tp (i : Nat) (s : State) : (raiseMg i s).tp = s.tp := rfl

@[simp] theorem raiseMg_nf (i : Nat) (s : State) : (raiseMg i s).nf = s.nf := rfl

@[simp] theorem raiseMg_cards (i : Nat) (s : State) : (raiseMg i s).cards = s.cards := rfl

@[simp] theorem raiseMg_pw (i : Nat) (s : State) : (raiseMg i s).pw = s.pw := rfl

@[simp] theorem raiseMg_mgu (i : Nat) (s : State) : (raiseMg i s).mgu = raiseCause i s.mgu := rfl

@[simp] theorem raiseMg_chan (i : Nat) (s : State) (ch : Ch) : (raiseMg i s).chan ch = s.chan ch := rfl

/-! ### Folds of the two, and collect -/

theorem foldl_keeps {α β : Type} (g : State → β) (f : State → α → State) (hf : ∀ s a, g (f s a) = g s) (l : List α) (s : State) :
    g (l.foldl f s) = g s := by
  induction l generalizing s with
  | nil => rfl
  | cons a l ih => simp [List.foldl, ih, hf]

@[simp] theorem collect_pending (ch : Ch) (s : State) : (collect ch s).pending = s.pending := by
  unfold collect
  simp only []
  rw [foldl_keeps (·.pending) _ (by simp), foldl_keeps (·.pending) _ (by simp)]
  split <;> rfl

@[simp] theorem collect_dev (ch : Ch) (s : State) : (collect ch s).dev = s.dev := by
  unfold collect
  simp only []
  rw [foldl_keeps (·.dev) _ (by simp), foldl_keeps (·.dev) _ (by simp)]
  split <;> rfl

@[simp] theorem collect_mgu (ch : Ch) (s : State) :
    (collect ch s).mgu = if (s.chan ch).outSources.isEmpty then s.mgu else raiseCause 9 s.mgu := by
  unfold collect
  simp only []
  rw [foldl_keeps (·.mgu) _ (by simp), foldl_keeps (·.mgu) _ (by simp)]
  split <;> rfl

@[simp] theorem collect_mg (ch : Ch) (s : State) : (collect ch s).mg = s.mg := by
  unfold collect
  simp only []
  rw [foldl_keeps (·.mg) _ (by simp), foldl_keeps (·.mg) _ (by simp)]
  split <;> rfl

@[simp] theorem collect_log (ch : Ch) (s : State) : (collect ch s).log = s.log := by
  unfold collect
  simp only []
  rw [foldl_keeps (·.log) _ (by simp), foldl_keeps (·.log) _ (by simp)]
  split <;> rfl

@[simp] theorem collect_tp (ch : Ch) (s : State) : (collect ch s).tp = s.tp := by
  unfold collect
  simp only []
  rw [foldl_keeps (·.tp) _ (by simp), foldl_keeps (·.tp) _ (by simp)]
  split <;> rfl

@[simp] theorem collect_nf (ch : Ch) (s : State) : (collect ch s).nf = s.nf := by
  unfold collect
  simp only []
  rw [foldl_keeps (·.nf) _ (by simp), foldl_keeps (·.nf) _ (by simp)]
  split <;> rfl

@[simp] theorem collect_cards (ch : Ch) (s : State) : (collect ch s).cards = s.cards := by
  unfold collect
  simp only []
  rw [foldl_keeps (·.cards) _ (by simp), foldl_keeps (·.cards) _ (by simp)]
  split <;> rfl

@[simp] theorem collect_pw (ch : Ch) (s : State) : (collect ch s).pw = s.pw := by
  unfold collect
  simp only []
  rw [foldl_keeps (·.pw) _ (by simp), foldl_keeps (·.pw) _ (by simp)]
  split <;> rfl

theorem collect_other (a b : Ch) (s : State) (h : b ≠ a) : (collect a s).chan b = s.chan b := by
  unfold collect
  simp only []
  rw [foldl_keeps (State.chan · b) _ (by simp), foldl_keeps (State.chan · b) _ (by simp)]
  split <;> exact setChan_other s a b _ h

@[simp] theorem collect_same (ch : Ch) (s : State) :
    (collect ch s).chan ch = { s.chan ch with outSources := [], outCrumbs := [] } := by
  unfold collect
  simp only []
  rw [foldl_keeps (State.chan · ch) _ (by simp), foldl_keeps (State.chan · ch) _ (by simp)]
  split <;> simp

@[simp] theorem onChanS_pending (ch : Ch) (f : Ch → Device → Channel → Channel) (s : State) :
    (onChanS ch f s).pending = s.pending := by simp [onChanS]

@[simp] theorem onChanS_dev (ch : Ch) (f : Ch → Device → Channel → Channel) (s : State) :
    (onChanS ch f s).dev = s.dev := by simp [onChanS]

theorem onChanS_mgu (ch : Ch) (f : Ch → Device → Channel → Channel) (s : State) :
    (onChanS ch f s).mgu = if ((onChan ch f s).chan ch).outSources.isEmpty then s.mgu else raiseCause 9 s.mgu := by simp [onChanS]

@[simp] theorem onChanS_mg (ch : Ch) (f : Ch → Device → Channel → Channel) (s : State) :
    (onChanS ch f s).mg = s.mg := by simp [onChanS]

@[simp] theorem onChanS_log (ch : Ch) (f : Ch → Device → Channel → Channel) (s : State) :
    (onChanS ch f s).log = s.log := by simp [onChanS]

@[simp] theorem onChanS_tp (ch : Ch) (f : Ch → Device → Channel → Channel) (s : State) :
    (onChanS ch f s).tp = s.tp := by simp [onChanS]

@[simp] theorem onChanS_nf (ch : Ch) (f : Ch → Device → Channel → Channel) (s : State) :
    (onChanS ch f s).nf = s.nf := by simp [onChanS]

@[simp] theorem onChanS_cards (ch : Ch) (f : Ch → Device → Channel → Channel) (s : State) :
    (onChanS ch f s).cards = s.cards := by simp [onChanS]

@[simp] theorem onChanS_pw (ch : Ch) (f : Ch → Device → Channel → Channel) (s : State) :
    (onChanS ch f s).pw = s.pw := by simp [onChanS]

theorem onChanS_other (a b : Ch) (f : Ch → Device → Channel → Channel) (s : State) (h : b ≠ a) :
    (onChanS a f s).chan b = s.chan b := by
  simp [onChanS, collect_other _ _ _ h, onChan_other _ _ _ _ h]

theorem onChanS_same (ch : Ch) (f : Ch → Device → Channel → Channel) (s : State) (h : s.dev.has ch = true) :
    (onChanS ch f s).chan ch = { f ch s.dev (s.chan ch) with outSources := [], outCrumbs := [] } := by
  simp [onChanS, onChan_same _ _ _ h]

/-! ### onEvery -/

@[simp] theorem onEvery_pending (f : Ch → Device → Channel → Channel) (s : State) : (onEvery f s).pending = s.pending := rfl

@[simp] theorem onEvery_fn0 (f : Ch → Device → Channel → Channel) (s : State) : (onEvery f s).fn0 = s.fn0 := rfl

@[simp] theorem onEvery_dev (f : Ch → Device → Channel → Channel) (s : State) : (onEvery f s).dev = s.dev := rfl

@[simp] theorem onEvery_aon (f : Ch → Device → Channel → Channel) (s : State) : (onEvery f s).aon = s.aon := rfl

@[simp] theorem onEvery_mgu (f : Ch → Device → Channel → Channel) (s : State) : (onEvery f s).mgu = s.mgu := rfl

@[simp] theorem onEvery_mg (f : Ch → Device → Channel → Channel) (s : State) : (onEvery f s).mg = s.mg := rfl

@[simp] theorem onEvery_log (f : Ch → Device → Channel → Channel) (s : State) : (onEvery f s).log = s.log := rfl

@[simp] theorem onEvery_tp (f : Ch → Device → Channel → Channel) (s : State) : (onEvery f s).tp = s.tp := rfl

@[simp] theorem onEvery_nf (f : Ch → Device → Channel → Channel) (s : State) : (onEvery f s).nf = s.nf := rfl

@[simp] theorem onEvery_cards (f : Ch → Device → Channel → Channel) (s : State) : (onEvery f s).cards = s.cards := rfl

@[simp] theorem onEvery_pw (f : Ch → Device → Channel → Channel) (s : State) : (onEvery f s).pw = s.pw := rfl

@[simp] theorem onEvery_chan (f : Ch → Device → Channel → Channel) (s : State) (ch : Ch) :
    (onEvery f s).chan ch = if s.dev.has ch then f ch s.dev (s.chan ch) else s.chan ch := by
  show (Vector.ofFn fun i => if s.dev.has i then f i s.dev (s.chans.get i) else s.chans.get i)[ch.val] = _
  rw [Vector.getElem_ofFn]
  rfl

/-! ### onAll -/

@[simp] theorem onAll_pending (f : Ch → Device → Channel → Channel) (s : State) : (onAll f s).pending = s.pending := rfl

@[simp] theorem onAll_fn0 (f : Ch → Device → Channel → Channel) (s : State) : (onAll f s).fn0 = s.fn0 := rfl

@[simp] theorem onAll_dev (f : Ch → Device → Channel → Channel) (s : State) : (onAll f s).dev = s.dev := rfl

@[simp] theorem onAll_aon (f : Ch → Device → Channel → Channel) (s : State) : (onAll f s).aon = s.aon := rfl

@[simp] theorem onAll_mgu (f : Ch → Device → Channel → Channel) (s : State) : (onAll f s).mgu = s.mgu := rfl

@[simp] theorem onAll_mg (f : Ch → Device → Channel → Channel) (s : State) : (onAll f s).mg = s.mg := rfl

@[simp] theorem onAll_log (f : Ch → Device → Channel → Channel) (s : State) : (onAll f s).log = s.log := rfl

@[simp] theorem onAll_tp (f : Ch → Device → Channel → Channel) (s : State) : (onAll f s).tp = s.tp := rfl

@[simp] theorem onAll_nf (f : Ch → Device → Channel → Channel) (s : State) : (onAll f s).nf = s.nf := rfl

@[simp] theorem onAll_cards (f : Ch → Device → Channel → Channel) (s : State) : (onAll f s).cards = s.cards := rfl

@[simp] theorem onAll_pw (f : Ch → Device → Channel → Channel) (s : State) : (onAll f s).pw = s.pw := rfl

@[simp] theorem onAll_chan (f : Ch → Device → Channel → Channel) (s : State) (ch : Ch) :
    (onAll f s).chan ch = f ch s.dev (s.chan ch) := by
  show (Vector.ofFn fun i => f i s.dev (s.chans.get i))[ch.val] = _
  rw [Vector.getElem_ofFn]
  rfl

/-! ### onMg -/

@[simp] theorem onMg_pending (f : Mgmt → Mgmt) (s : State) : (onMg f s).pending = s.pending := rfl

@[simp] theorem onMg_chans (f : Mgmt → Mgmt) (s : State) : (onMg f s).chans = s.chans := rfl

@[simp] theorem onMg_fn0 (f : Mgmt → Mgmt) (s : State) : (onMg f s).fn0 = s.fn0 := rfl

@[simp] theorem onMg_dev (f : Mgmt → Mgmt) (s : State) : (onMg f s).dev = s.dev := rfl

@[simp] theorem onMg_aon (f : Mgmt → Mgmt) (s : State) : (onMg f s).aon = s.aon := rfl

@[simp] theorem onMg_mgu (f : Mgmt → Mgmt) (s : State) : (onMg f s).mgu = s.mgu := rfl

@[simp] theorem onMg_log (f : Mgmt → Mgmt) (s : State) : (onMg f s).log = s.log := rfl

@[simp] theorem onMg_tp (f : Mgmt → Mgmt) (s : State) : (onMg f s).tp = s.tp := rfl

@[simp] theorem onMg_nf (f : Mgmt → Mgmt) (s : State) : (onMg f s).nf = s.nf := rfl

@[simp] theorem onMg_cards (f : Mgmt → Mgmt) (s : State) : (onMg f s).cards = s.cards := rfl

@[simp] theorem onMg_pw (f : Mgmt → Mgmt) (s : State) : (onMg f s).pw = s.pw := rfl

@[simp] theorem onMg_mg (f : Mgmt → Mgmt) (s : State) : (onMg f s).mg = f s.mg := rfl

/-! ### onFn0 -/

@[simp] theorem onFn0_pending (f : Fn0 → Fn0) (s : State) : (onFn0 f s).pending = s.pending := rfl

@[simp] theorem onFn0_chans (f : Fn0 → Fn0) (s : State) : (onFn0 f s).chans = s.chans := rfl

@[simp] theorem onFn0_dev (f : Fn0 → Fn0) (s : State) : (onFn0 f s).dev = s.dev := rfl

@[simp] theorem onFn0_aon (f : Fn0 → Fn0) (s : State) : (onFn0 f s).aon = s.aon := rfl

@[simp] theorem onFn0_mgu (f : Fn0 → Fn0) (s : State) : (onFn0 f s).mgu = s.mgu := rfl

@[simp] theorem onFn0_mg (f : Fn0 → Fn0) (s : State) : (onFn0 f s).mg = s.mg := rfl

@[simp] theorem onFn0_log (f : Fn0 → Fn0) (s : State) : (onFn0 f s).log = s.log := rfl

@[simp] theorem onFn0_tp (f : Fn0 → Fn0) (s : State) : (onFn0 f s).tp = s.tp := rfl

@[simp] theorem onFn0_nf (f : Fn0 → Fn0) (s : State) : (onFn0 f s).nf = s.nf := rfl

@[simp] theorem onFn0_cards (f : Fn0 → Fn0) (s : State) : (onFn0 f s).cards = s.cards := rfl

@[simp] theorem onFn0_pw (f : Fn0 → Fn0) (s : State) : (onFn0 f s).pw = s.pw := rfl

@[simp] theorem onFn0_fn0 (f : Fn0 → Fn0) (s : State) : (onFn0 f s).fn0 = f s.fn0 := rfl

/-! ### mgCrumb -/

@[simp] theorem mgCrumb_pending (src code p0 p1 p2 p3 : Nat) (s : State) : (mgCrumb src code p0 p1 p2 p3 s).pending = s.pending := rfl

@[simp] theorem mgCrumb_chans (src code p0 p1 p2 p3 : Nat) (s : State) : (mgCrumb src code p0 p1 p2 p3 s).chans = s.chans := rfl

@[simp] theorem mgCrumb_fn0 (src code p0 p1 p2 p3 : Nat) (s : State) : (mgCrumb src code p0 p1 p2 p3 s).fn0 = s.fn0 := rfl

@[simp] theorem mgCrumb_dev (src code p0 p1 p2 p3 : Nat) (s : State) : (mgCrumb src code p0 p1 p2 p3 s).dev = s.dev := rfl

@[simp] theorem mgCrumb_aon (src code p0 p1 p2 p3 : Nat) (s : State) : (mgCrumb src code p0 p1 p2 p3 s).aon = s.aon := rfl

@[simp] theorem mgCrumb_mgu (src code p0 p1 p2 p3 : Nat) (s : State) : (mgCrumb src code p0 p1 p2 p3 s).mgu = s.mgu := rfl

@[simp] theorem mgCrumb_mg (src code p0 p1 p2 p3 : Nat) (s : State) : (mgCrumb src code p0 p1 p2 p3 s).mg = s.mg := rfl

@[simp] theorem mgCrumb_tp (src code p0 p1 p2 p3 : Nat) (s : State) : (mgCrumb src code p0 p1 p2 p3 s).tp = s.tp := rfl

@[simp] theorem mgCrumb_nf (src code p0 p1 p2 p3 : Nat) (s : State) : (mgCrumb src code p0 p1 p2 p3 s).nf = s.nf := rfl

@[simp] theorem mgCrumb_cards (src code p0 p1 p2 p3 : Nat) (s : State) : (mgCrumb src code p0 p1 p2 p3 s).cards = s.cards := rfl

@[simp] theorem mgCrumb_pw (src code p0 p1 p2 p3 : Nat) (s : State) : (mgCrumb src code p0 p1 p2 p3 s).pw = s.pw := rfl

@[simp] theorem onMg_chan (f : Mgmt → Mgmt) (s : State) (ch : Ch) : (onMg f s).chan ch = s.chan ch := rfl

@[simp] theorem onFn0_chan (f : Fn0 → Fn0) (s : State) (ch : Ch) : (onFn0 f s).chan ch = s.chan ch := rfl

@[simp] theorem mgCrumb_chan (src code p0 p1 p2 p3 : Nat) (s : State) (ch : Ch) : (mgCrumb src code p0 p1 p2 p3 s).chan ch = s.chan ch := rfl

/-! ### endMessage -/

@[simp] theorem endMessage_pending (status : Nat) (response : Option Bytes) (s : State) : (endMessage status response s).pending = s.pending := by
  simp [endMessage]

@[simp] theorem endMessage_chans (status : Nat) (response : Option Bytes) (s : State) : (endMessage status response s).chans = s.chans := by
  simp [endMessage]

@[simp] theorem endMessage_dev (status : Nat) (response : Option Bytes) (s : State) : (endMessage status response s).dev = s.dev := by
  simp [endMessage]

@[simp] theorem endMessage_aon (status : Nat) (response : Option Bytes) (s : State) : (endMessage status response s).aon = s.aon := by
  simp [endMessage]

@[simp] theorem endMessage_mgu (status : Nat) (response : Option Bytes) (s : State) : (endMessage status response s).mgu = s.mgu := by
  simp [endMessage]

@[simp] theorem endMessage_mg (status : Nat) (response : Option Bytes) (s : State) : (endMessage status response s).mg = s.mg := by
  simp [endMessage]

@[simp] theorem endMessage_log (status : Nat) (response : Option Bytes) (s : State) : (endMessage status response s).log = s.log := by
  simp [endMessage]

@[simp] theorem endMessage_tp (status : Nat) (response : Option Bytes) (s : State) : (endMessage status response s).tp = s.tp := by
  simp [endMessage]

@[simp] theorem endMessage_nf (status : Nat) (response : Option Bytes) (s : State) : (endMessage status response s).nf = s.nf := by
  simp [endMessage]

@[simp] theorem endMessage_cards (status : Nat) (response : Option Bytes) (s : State) : (endMessage status response s).cards = s.cards := by
  simp [endMessage]

@[simp] theorem endMessage_pw (status : Nat) (response : Option Bytes) (s : State) : (endMessage status response s).pw = s.pw := by
  simp [endMessage]

/-! ### answer -/

@[simp] theorem answer_pending (payload : Bytes) (s : State) : (answer payload s).pending = s.pending := by
  unfold answer; split <;> simp

@[simp] theorem answer_chans (payload : Bytes) (s : State) : (answer payload s).chans = s.chans := by
  unfold answer; split <;> simp

@[simp] theorem answer_dev (payload : Bytes) (s : State) : (answer payload s).dev = s.dev := by
  unfold answer; split <;> simp

@[simp] theorem answer_aon (payload : Bytes) (s : State) : (answer payload s).aon = s.aon := by
  unfold answer; split <;> simp

@[simp] theorem answer_mgu (payload : Bytes) (s : State) : (answer payload s).mgu = s.mgu := by
  unfold answer; split <;> simp

@[simp] theorem answer_mg (payload : Bytes) (s : State) : (answer payload s).mg = s.mg := by
  unfold answer; split <;> simp

@[simp] theorem answer_log (payload : Bytes) (s : State) : (answer payload s).log = s.log := by
  unfold answer; split <;> simp

@[simp] theorem answer_tp (payload : Bytes) (s : State) : (answer payload s).tp = s.tp := by
  unfold answer; split <;> simp

@[simp] theorem answer_nf (payload : Bytes) (s : State) : (answer payload s).nf = s.nf := by
  unfold answer; split <;> simp

@[simp] theorem answer_cards (payload : Bytes) (s : State) : (answer payload s).cards = s.cards := by
  unfold answer; split <;> simp

@[simp] theorem answer_pw (payload : Bytes) (s : State) : (answer payload s).pw = s.pw := by
  unfold answer; split <;> simp

/-! ### refuse -/

@[simp] theorem refuse_pending (status : Nat) (s : State) : (refuse status s).pending = s.pending := by
  unfold refuse; split <;> simp

@[simp] theorem refuse_chans (status : Nat) (s : State) : (refuse status s).chans = s.chans := by
  unfold refuse; split <;> simp

@[simp] theorem refuse_dev (status : Nat) (s : State) : (refuse status s).dev = s.dev := by
  unfold refuse; split <;> simp

@[simp] theorem refuse_aon (status : Nat) (s : State) : (refuse status s).aon = s.aon := by
  unfold refuse; split <;> simp

@[simp] theorem refuse_mgu (status : Nat) (s : State) : (refuse status s).mgu = s.mgu := by
  unfold refuse; split <;> simp

@[simp] theorem refuse_mg (status : Nat) (s : State) : (refuse status s).mg = s.mg := by
  unfold refuse; split <;> simp

@[simp] theorem refuse_log (status : Nat) (s : State) : (refuse status s).log = s.log := by
  unfold refuse; split <;> simp

@[simp] theorem refuse_tp (status : Nat) (s : State) : (refuse status s).tp = s.tp := by
  unfold refuse; split <;> simp

@[simp] theorem refuse_nf (status : Nat) (s : State) : (refuse status s).nf = s.nf := by
  unfold refuse; split <;> simp

@[simp] theorem refuse_cards (status : Nat) (s : State) : (refuse status s).cards = s.cards := by
  unfold refuse; split <;> simp

@[simp] theorem refuse_pw (status : Nat) (s : State) : (refuse status s).pw = s.pw := by
  unfold refuse; split <;> simp

end Sys2Proof.Machine
end

