-- ==== Sys2Proof/Laws/Core.lean ====
section
/-! SUPPORT. What a command of one core does: it changes the record of that core's unit, and of management's core what
its accesses outside the unit reach. -/

namespace Sys2Proof.Machine

@[simp] theorem onTag_mgu (f : Tag → Tag) (s : State) : (onTag f s).mgu = s.mgu := rfl
@[simp] theorem onSd_mgu (f : SdHost → SdHost) (s : State) : (onSd f s).mgu = s.mgu := rfl
@[simp] theorem onSc_mgu (f : ScSlot → ScSlot) (s : State) : (onSc f s).mgu = s.mgu := rfl


@[simp] theorem nfStore_mgu (o : Nat) (v : Word) (s : State) : (nfStore o v s).mgu = s.mgu := by
  unfold nfStore
  simp only []
  split <;> rfl

@[simp] theorem sdStore_mgu (o : Nat) (v : Word) (s : State) : (sdStore o v s).mgu = s.mgu := by
  unfold sdStore
  simp only []
  split <;> rfl

set_option maxRecDepth 100000 in
@[simp] theorem scStore_mgu (o : Nat) (v : Word) (s : State) : (scStore o v s).mgu = s.mgu := by
  unfold scStore
  by_cases h : 0x100 ≤ o ∧ o < 0x200
  · simp only [if_pos h]; rfl
  · simp only [if_neg h]
    split <;> rfl

set_option maxRecDepth 100000 in
@[simp] theorem mgmtBlock_mgu (s : State) (p : Nat × Option Word) : (mgmtBlock s p).mgu = s.mgu := by
  obtain ⟨a, v⟩ := p
  unfold mgmtBlock
  simp only []
  split
  · split <;> simp
  · simp
  · simp
  · simp
  · rfl

@[simp] theorem onTag_chans (f : Tag → Tag) (s : State) : (onTag f s).chans = s.chans := rfl
@[simp] theorem onSd_chans (f : SdHost → SdHost) (s : State) : (onSd f s).chans = s.chans := rfl
@[simp] theorem onSc_chans (f : ScSlot → ScSlot) (s : State) : (onSc f s).chans = s.chans := rfl

@[simp] theorem nfStore_chans (o : Nat) (v : Word) (s : State) : (nfStore o v s).chans = s.chans := by
  unfold nfStore
  simp only []
  split <;> rfl

@[simp] theorem sdStore_chans (o : Nat) (v : Word) (s : State) : (sdStore o v s).chans = s.chans := by
  unfold sdStore
  simp only []
  split <;> rfl

set_option maxRecDepth 100000 in
@[simp] theorem scStore_chans (o : Nat) (v : Word) (s : State) : (scStore o v s).chans = s.chans := by
  unfold scStore
  by_cases h : 0x100 ≤ o ∧ o < 0x200
  · simp only [if_pos h]; rfl
  · simp only [if_neg h]
    split <;> rfl

set_option maxRecDepth 100000 in
@[simp] theorem mgmtBlock_chans (s : State) (p : Nat × Option Word) : (mgmtBlock s p).chans = s.chans := by
  obtain ⟨a, v⟩ := p
  unfold mgmtBlock
  simp only []
  split
  · split <;> simp
  · simp
  · simp
  · simp
  · rfl

@[simp] theorem onTag_pending (f : Tag → Tag) (s : State) : (onTag f s).pending = s.pending := rfl
@[simp] theorem onSd_pending (f : SdHost → SdHost) (s : State) : (onSd f s).pending = s.pending := rfl
@[simp] theorem onSc_pending (f : ScSlot → ScSlot) (s : State) : (onSc f s).pending = s.pending := rfl

@[simp] theorem nfStore_pending (o : Nat) (v : Word) (s : State) : (nfStore o v s).pending = s.pending := by
  unfold nfStore
  simp only []
  split <;> rfl

@[simp] theorem sdStore_pending (o : Nat) (v : Word) (s : State) : (sdStore o v s).pending = s.pending := by
  unfold sdStore
  simp only []
  split <;> rfl

set_option maxRecDepth 100000 in
@[simp] theorem scStore_pending (o : Nat) (v : Word) (s : State) : (scStore o v s).pending = s.pending := by
  unfold scStore
  by_cases h : 0x100 ≤ o ∧ o < 0x200
  · simp only [if_pos h]; rfl
  · simp only [if_neg h]
    split <;> rfl

set_option maxRecDepth 100000 in
@[simp] theorem mgmtBlock_pending (s : State) (p : Nat × Option Word) : (mgmtBlock s p).pending = s.pending := by
  obtain ⟨a, v⟩ := p
  unfold mgmtBlock
  simp only []
  split
  · split <;> simp
  · simp
  · simp
  · simp
  · rfl

@[simp] theorem onTag_dev (f : Tag → Tag) (s : State) : (onTag f s).dev = s.dev := rfl
@[simp] theorem onSd_dev (f : SdHost → SdHost) (s : State) : (onSd f s).dev = s.dev := rfl
@[simp] theorem onSc_dev (f : ScSlot → ScSlot) (s : State) : (onSc f s).dev = s.dev := rfl

@[simp] theorem nfStore_dev (o : Nat) (v : Word) (s : State) : (nfStore o v s).dev = s.dev := by
  unfold nfStore
  simp only []
  split <;> rfl

@[simp] theorem sdStore_dev (o : Nat) (v : Word) (s : State) : (sdStore o v s).dev = s.dev := by
  unfold sdStore
  simp only []
  split <;> rfl

set_option maxRecDepth 100000 in
@[simp] theorem scStore_dev (o : Nat) (v : Word) (s : State) : (scStore o v s).dev = s.dev := by
  unfold scStore
  by_cases h : 0x100 ≤ o ∧ o < 0x200
  · simp only [if_pos h]; rfl
  · simp only [if_neg h]
    split <;> rfl

set_option maxRecDepth 100000 in
@[simp] theorem mgmtBlock_dev (s : State) (p : Nat × Option Word) : (mgmtBlock s p).dev = s.dev := by
  obtain ⟨a, v⟩ := p
  unfold mgmtBlock
  simp only []
  split
  · split <;> simp
  · simp
  · simp
  · simp
  · rfl

@[simp] theorem flushWrites_mgu (s : State) : (flushWrites s).mgu = { s.mgu with outWrites := [] } := by
  unfold flushWrites
  simp only []
  rw [foldl_keeps (·.mgu) _ (by simp)]

@[simp] theorem collectMg_mgu (s : State) : (collectMg s).mgu = { s.mgu with outSources := [], outCrumbs := [] } := by
  unfold collectMg
  simp only []
  rw [foldl_keeps (·.mgu) _ (by simp)]

/-- A command of a channel's core is one of that channel. -/
theorem onCore_channel (u : Core) (h : u.val < 16) (f : Ext → Ch → Device → Channel → Channel) (s : State) :
    onCore u f s = onChanS ⟨u.val, h⟩ (f (coreExt u s)) s := by simp [onCore, h]

/-- Two changes of a core that agree on its unit are one. -/
theorem onCore_congr (u : Core) (f g : Ext → Ch → Device → Channel → Channel) (s : State)
    (hc : ∀ h : u.val < 16, f (coreExt u s) ⟨u.val, h⟩ s.dev (s.chan ⟨u.val, h⟩) = g (coreExt u s) ⟨u.val, h⟩ s.dev (s.chan ⟨u.val, h⟩))
    (hm : ¬ u.val < 16 → f (coreExt u s) 0 s.dev s.mgu = g (coreExt u s) 0 s.dev s.mgu) : onCore u f s = onCore u g s := by
  unfold onCore
  split
  next h => simp only [onChanS, onChan, hc h]
  next h => rw [hm h]

end Sys2Proof.Machine
end

