-- ==== Sys2Proof/Laws/Jobs.lean ====
section
/-! SUPPORT. What the shared steps of a job do: a job that may run runs, one that may not changes nothing, and a change of
one journal entry leaves every other. -/

namespace Sys2Proof.Machine

/-- A job that may run runs its meaning. -/
theorem runJob_ready {op j : Nat} {f : JEntry → Channel → Channel} {c : Channel} {e : JEntry} (h : c.entry j = some e)
    (r : jobReady c e op = true) : runJob op j f c = f e c := by simp [runJob, h, r]

/-- A job that may not run yet changes nothing. -/
theorem runJob_waits {op j : Nat} {f : JEntry → Channel → Channel} {c : Channel} {e : JEntry} (h : c.entry j = some e)
    (r : jobReady c e op = false) : runJob op j f c = c := by simp [runJob, h, r]

/-- Without the journal entry it names, a job's command changes nothing. -/
theorem runJob_absent {op j : Nat} {f : JEntry → Channel → Channel} {c : Channel} (h : c.entry j = none) :
    runJob op j f c = c := by simp [runJob, h]

/-- The whole of a job's step: it runs its meaning on an entry that may run, or changes nothing. -/
theorem runJob_cases (op j : Nat) (f : JEntry → Channel → Channel) (c : Channel) :
    (∃ e, c.entry j = some e ∧ jobReady c e op = true ∧ runJob op j f c = f e c) ∨ runJob op j f c = c := by
  unfold runJob
  split
  next e h =>
    split
    next r => exact .inl ⟨e, h, r, rfl⟩
    next => exact .inr rfl
  next => exact .inr rfl

/-- A changed entry is found changed, when the change keeps its index. -/
theorem entry_onEntry (c : Channel) (j : Nat) (f : JEntry → JEntry) (e : JEntry) (h : c.entry j = some e)
    (hf : ∀ x : JEntry, (f x).jidx = x.jidx) : (onEntry j f c).entry j = some (f e) := by
  unfold Channel.entry onEntry at *
  simp only [] at *
  generalize c.jr.entries = l at h
  induction l with
  | nil => simp at h
  | cons x l ih =>
    by_cases hx : x.jidx = j
    · have hxe : x = e := by simpa [List.find?_cons, hx] using h
      subst hxe
      simp [hx, hf]
    · have h' : l.find? (fun e => e.jidx == j) = some e := by
        simpa [List.find?_cons, show (x.jidx == j) = false by simpa using hx] using h
      simp only [List.map_cons, if_neg hx, List.find?_cons, show (x.jidx == j) = false by simpa using hx]
      exact ih h'

/-- Every other entry is found as before. -/
theorem entry_onEntry_other (c : Channel) (j k : Nat) (f : JEntry → JEntry) (h : k ≠ j)
    (hf : ∀ x : JEntry, (f x).jidx = x.jidx) : (onEntry j f c).entry k = c.entry k := by
  unfold Channel.entry onEntry
  simp only []
  induction c.jr.entries with
  | nil => rfl
  | cons x l ih =>
    by_cases hx : x.jidx = j
    · simp only [List.map_cons, if_pos hx, List.find?_cons, hf, show (x.jidx == k) = false by simp [hx, Ne.symm h]]
      exact ih
    · by_cases hk : x.jidx = k
      · simp only [List.map_cons, if_neg hx, List.find?_cons, show (x.jidx == k) = true by simpa using hk]
      · simp only [List.map_cons, if_neg hx, List.find?_cons, show (x.jidx == k) = false by simpa using hk]
        exact ih

/-- What a change of one entry leaves. -/
@[simp] theorem onEntry_mem (j : Nat) (f : JEntry → JEntry) (c : Channel) : (onEntry j f c).mem = c.mem := rfl
@[simp] theorem onEntry_shard (j : Nat) (f : JEntry → JEntry) (c : Channel) : (onEntry j f c).shard = c.shard := rfl
@[simp] theorem onEntry_gov (j : Nat) (f : JEntry → JEntry) (c : Channel) : (onEntry j f c).gov = c.gov := rfl
@[simp] theorem onEntry_tree (j : Nat) (f : JEntry → JEntry) (c : Channel) : (onEntry j f c).tree = c.tree := rfl
@[simp] theorem onEntry_ded (j : Nat) (f : JEntry → JEntry) (c : Channel) : (onEntry j f c).ded = c.ded := rfl
@[simp] theorem onEntry_keys (j : Nat) (f : JEntry → JEntry) (c : Channel) : (onEntry j f c).keys = c.keys := rfl
@[simp] theorem onEntry_host (j : Nat) (f : JEntry → JEntry) (c : Channel) : (onEntry j f c).host = c.host := rfl
@[simp] theorem onEntry_core (j : Nat) (f : JEntry → JEntry) (c : Channel) : (onEntry j f c).core = c.core := rfl
@[simp] theorem onEntry_state (j : Nat) (f : JEntry → JEntry) (c : Channel) : (onEntry j f c).state = c.state := rfl

/-- A failed job: its entry is WRITTEN with the failure's status, and it has no output. -/
theorem entry_failJob (c : Channel) (j : Nat) (f : Fail) (e : JEntry) (h : c.entry j = some e) :
    ∃ n, (failJob j f c).entry j = some n ∧ n.state = .written ∧ n.cpl.status = f.status ∧ n.cpl.detail = f.detail ∧
      n.cpl.result = f.result ∧ n.cpl.outBytes = 0 ∧ n.writes = [] :=
  ⟨_, entry_onEntry c j _ e h (fun _ => rfl), rfl, rfl, rfl, rfl, rfl, rfl⟩

/-- A finished job: its entry holds the completion and the writes that wait to be sent. -/
theorem entry_finishJob (c : Channel) (j st de re ob : Nat) (ws : List HostWrite) (e : JEntry) (h : c.entry j = some e) :
    ∃ n, (finishJob j st de re ob ws c).entry j = some n ∧ n.state = (if ws.isEmpty then .written else .claimed) ∧
      n.cpl.status = st ∧ n.cpl.detail = de ∧ n.cpl.result = re ∧ n.cpl.outBytes = ob ∧ n.writes = ws ∧ n.ready = none :=
  ⟨_, entry_onEntry c j _ e h (fun _ => rfl), rfl, rfl, rfl, rfl, rfl, rfl, rfl⟩

/-- A staged job: its entry holds the effect, and nothing is applied. -/
theorem entry_stageJob (c : Channel) (j : Nat) (x : Effect) (e : JEntry) (h : c.entry j = some e) :
    (stageJob j x c).entry j = some { e with ready := some x } := entry_onEntry c j _ e h (fun _ => rfl)

end Sys2Proof.Machine
end

