-- ==== Sys2Proof/Laws/Kenten.lean ====
section
/-! SUPPORT. What a core's issue can do: nothing while it is held, a fault when a check fails, or its instruction; and what a
change of DEPTH, a landing and the end of an instruction change. -/

namespace Sys2Proof.Machine

/-- A core that may not issue does nothing. -/
theorem issue_held {x : Ext} {ch : Ch} {d : Device} {i : KOp} {stop : Option Nat} {wait : Nat} {c : Channel}
    (h : canIssue x c.core = false) : issue x ch d i stop wait c = c := by simp [issue, h]

/-- A fetch that the flash bank holds up does nothing. -/
theorem issue_stalled {x : Ext} {ch : Ch} {d : Device} {i : KOp} {stop : Option Nat} {wait : Nat} {c : Channel}
    (h : fetchReads i c = none) : issue x ch d i stop wait c = c := by simp [issue, h]

/-- A bank that neither programs nor erases serves every read. -/
theorem flashReads_idle (es : List (Nat × Nat)) (c : Channel) (h : c.nv.writes = false) : flashReads es c = some c := by
  have a : nvAutosuspend c = c := by
    unfold nvAutosuspend
    rw [if_neg]
    intro b
    rw [NvBank.writes] at h
    cases e : c.nv.busy with
    | none => simp [e] at b
    | some k => simp [e] at b h; omega
  simp [flashReads, a, h]

/-- A failing check at issue raises its fault. -/
theorem issue_refused {x : Ext} {ch : Ch} {d : Device} {i : KOp} {stop : Option Nat} {wait : Nat} {c : Channel} {f : KFault}
    (h : canIssue x c.core = true) (q : fetchReads i c = some c) (p : preFault { c with core := { c.core.land with waiting := false } } i = some f) :
    issue x ch d i stop wait c = raiseFault ch d f { c with core := { c.core.land with waiting := false } } := by
  simp [issue, h, q, p]

/-- The instructions that are neither long nor entries nor returns. -/
def KOp.short : KOp → Bool
  | .bmov _ | .vmac _ | .divs _ | .loops _ | .hblk _ | .gate _ | .rete => false
  | _ => true

/-- An ordinary instruction whose checks pass runs. -/
theorem issue_short {x : Ext} {ch : Ch} {d : Device} {i : KOp} {stop : Option Nat} {wait : Nat} {c : Channel}
    (h : canIssue x c.core = true) (q : fetchReads i c = some c)
    (p : preFault { c with core := { c.core.land with waiting := false } } i = none) (o : i.short = true) :
    issue x ch d i stop wait c = kRun x ch d i { c with core := { c.core.land with waiting := false, long := false } } := by
  unfold issue
  rw [if_pos h, q]
  simp only []
  rw [p]
  cases i <;> first | rfl | (simp [KOp.short] at o)

/-- DEPTH moving within the stack registers makes no access. -/
theorem depthExts_low (o n : Nat) (h : o ≤ 16) (k : n ≤ 16) : depthExts o n = [] := by
  have a : o - 16 = 0 := by omega
  have b : n - 16 = 0 := by omega
  simp [depthExts, spilled, filled, a, b]

/-- DEPTH moving within the stack registers changes DEPTH alone. -/
theorem moveDepth_low (x : Ext) (ch : Ch) (d : Device) (n : Nat) (c : Channel) (h : c.core.depth ≤ 16) (k : n ≤ 16) :
    moveDepth x ch d n c = { c with core := c.core.onBank fun b => { b with depth := n } } := by
  have a : c.core.depth - 16 = 0 := by omega
  have b : n - 16 = 0 := by omega
  have s : spilled c.core.depth n = [] := by simp [spilled, a, b]
  have l : filled c.core.depth n = [] := by simp [filled, a, b]
  unfold moveDepth
  simp only []
  rw [s, l]
  by_cases w : c.core.inWorld = true
  · simp [fillFrom, spillTo, Kenten.onBank, w]
  · simp [fillFrom, spillTo, Kenten.onBank, w]

/-- No access, no fault. -/
@[simp] theorem extentsBad_nil (c : Channel) (op : Nat) : extentsBad c op [] = none := rfl

/-- Landing writes stack registers and nothing else. -/
theorem landAll_regs (l : List Landing) (k : Kenten) :
    landAll l k = { k with regs := l.foldl (fun r x => r.set (x.slot % 16) x.value (Nat.mod_lt _ (by decide))) k.regs } := by
  induction l generalizing k with
  | nil => rfl
  | cons x l ih => rw [landAll, ih]; rfl

theorem land_eq (k : Kenten) : k.land =
    { k with
      landings := k.landings.dropWhile fun l => l.due ≤ k.cycles
      regs := (k.landings.takeWhile fun l => l.due ≤ k.cycles).foldl (fun r x => r.set (x.slot % 16) x.value (Nat.mod_lt _ (by decide))) k.regs } := by
  rw [Kenten.land, landAll_regs]

/-- Results pushed join the landings and change nothing else. -/
theorem pushResults_eq (base lat : Nat) (vs : List Word) (k : Kenten) :
    pushResults base lat vs k = { k with landings := (pushResults base lat vs k).landings } := by
  induction vs generalizing base k with
  | nil => rfl
  | cons v vs ih => rw [pushResults, ih]

theorem mem_insertLanding (l : Landing) (ls : List Landing) : ∀ x, x ∈ insertLanding l ls ↔ x = l ∨ x ∈ ls := by
  intro x
  induction ls with
  | nil => simp [insertLanding]
  | cons y ys ih =>
    unfold insertLanding
    split
    · simp only [List.mem_cons, ih]
      exact ⟨fun h => h.elim (fun a => .inr (.inl a)) (fun h => h.elim .inl (fun a => .inr (.inr a))),
        fun h => h.elim (fun a => .inr (.inl a)) (fun h => h.elim .inl (fun a => .inr (.inr a)))⟩
    · simp

/-- Outside loops and delay slots an instruction ends with its cycle and the next PC. -/
theorem kDone_plain (x : Ext) (ch : Ch) (d : Device) (len : Nat) (c : Channel) (b : c.core.branch = none) (l : c.core.looping = false) :
    kDone x ch d len c = { c with core := { c.core with cycles := c.core.cycles + 1, pc := c.core.pc + len } } := by
  simp [kDone, nextPc, loopEnd, b, l]

/-- A raised fault waits; what else it changes is its capture. -/
theorem raiseFault_plain (ch : Ch) (d : Device) (f : KFault) (c : Channel) (a : f.vector ≠ 6) (b : f.vector ≠ 9) :
    raiseFault ch d f c = { c with core := { c.core with fault := some f } } := by
  simp [raiseFault, captureFault, a, b]

/-- A timer that has matched, enabled and routed to the Inner world, is taken with MASK clear (R291, R302). -/
theorem takeable_timer (x : Ext) (k : Kenten) (m : pswMask k.psw = false) (e : k.irqEn.testBit 0 = true) (t : k.timer = true)
    (w : k.irqWorld.testBit 0 = false) : takeable x k = some 0 := by
  have h : (requested x k).testBit 0 = true := by
    unfold requested
    rw [Nat.testBit_and, e, Bool.and_true]
    unfold irqPend
    rw [t, Nat.testBit_zero]
    simp [b2n]
    omega
  have r : List.range 19 = 0 :: List.range' 1 18 := rfl
  simp [takeable, m, r, h, w]

/-- With MASK set no interrupt is taken (R294). -/
theorem takeable_masked (x : Ext) (k : Kenten) (m : pswMask k.psw = true) : takeable x k = none := by simp [takeable, m]

/-- With none enabled none is taken (R302). -/
theorem takeable_off (x : Ext) (k : Kenten) (e : k.irqEn = 0) : takeable x k = none := by simp [takeable, requested, e]

/-- A running core with nothing pending is at a boundary, whenever that is (R285). -/
theorem atBoundary_quiet (k : Kenten) (l : k.landings = []) (b : k.branch = none) (f : k.fault = none) (d : k.dfault = none)
    (h : k.halted = false) (a0 : k.bank.a0.wrote = none) (a1 : k.bank.a1.wrote = none) (y : Nat) :
    atBoundary { k with cycles := y } = true := by
  have e0 : ({ k with cycles := y } : Kenten).bank.a0.wrote = none := a0
  have e1 : ({ k with cycles := y } : Kenten).bank.a1.wrote = none := a1
  simp only [atBoundary, e0, e1]
  simp [l, b, f, d, h]

end Sys2Proof.Machine
end

