-- ==== Sys2Proof/Laws/Memory.lean ====
section
/-! SUPPORT. The memory of a unit: every write keeps the canonical form, a byte reads as it was written last, and every
other byte as before. -/

namespace Sys2Proof.Machine

theorem memWf_iff (m : Mem) : memWf m = true ↔ m.Pairwise (fun a b => a.1 < b.1) ∧ ∀ c ∈ m, c.2 ≠ 0 := by
  simp [memWf]

theorem memWf_nil : memWf [] = true := by decide

theorem memWf_filter (m : Mem) (p : Host.Cell → Bool) (h : memWf m = true) : memWf (m.filter p) = true := by
  rw [memWf_iff] at *
  exact ⟨h.1.filter p, fun c hc => h.2 c (List.mem_filter.1 hc).1⟩

theorem mem_memInsert (a : Nat) (b : Byte) (m : Mem) : ∀ c ∈ memInsert a b m, c = (a, b) ∨ c ∈ m := by
  induction m with
  | nil => simp [memInsert]
  | cons d m ih =>
    intro c hc
    unfold memInsert at hc
    split at hc
    · simpa using hc
    · split at hc
      · rcases List.mem_cons.1 hc with h | h
        · exact .inl h
        · exact .inr (List.mem_cons_of_mem _ h)
      · rcases List.mem_cons.1 hc with h | h
        · exact .inr (h ▸ List.mem_cons_self)
        · rcases ih c h with h | h
          · exact .inl h
          · exact .inr (List.mem_cons_of_mem _ h)

theorem memInsert_sorted (a : Nat) (b : Byte) (m : Mem) (h : m.Pairwise (fun x y => x.1 < y.1)) :
    (memInsert a b m).Pairwise (fun x y => x.1 < y.1) := by
  induction m with
  | nil => simp [memInsert]
  | cons d m ih =>
    rw [List.pairwise_cons] at h
    unfold memInsert
    split
    next lt =>
      refine List.pairwise_cons.2 ⟨?_, List.pairwise_cons.2 h⟩
      intro c hc
      rcases List.mem_cons.1 hc with e | e
      · exact e ▸ lt
      · exact Nat.lt_trans lt (h.1 c e)
    next ge =>
      split
      next eq => exact List.pairwise_cons.2 ⟨fun c hc => eq ▸ h.1 c hc, h.2⟩
      next ne =>
        refine List.pairwise_cons.2 ⟨?_, ih h.2⟩
        intro c hc
        rcases mem_memInsert a b m c hc with e | e
        · subst e
          show d.1 < a
          omega
        · exact h.1 c e

/-- A byte written keeps the canonical form. -/
theorem memWf_memWrite (m : Mem) (a : Nat) (b : Byte) (h : memWf m = true) : memWf (memWrite m a b) = true := by
  unfold memWrite
  split
  · exact memWf_filter m _ h
  next hb =>
    rw [memWf_iff] at *
    refine ⟨memInsert_sorted a b m h.1, fun c hc => ?_⟩
    rcases mem_memInsert a b m c hc with e | e
    · exact e ▸ hb
    · exact h.2 c e

/-- Bytes written keep the canonical form. -/
theorem memWf_memStore (bs : Bytes) (m : Mem) (a : Nat) (h : memWf m = true) : memWf (memStore m a bs) = true := by
  induction bs generalizing m a with
  | nil => exact h
  | cons b bs ih => exact ih _ _ (memWf_memWrite m a b h)

theorem memRead_filter (m : Mem) (a x : Nat) :
    memRead (m.filter fun c => c.1 != a) x = if x = a then 0 else memRead m x := by
  unfold memRead
  induction m with
  | nil => simp
  | cons c m ih =>
    by_cases hc : c.1 = a
    · rw [List.filter_cons_of_neg (by simp [hc])]
      by_cases hx : x = a
      · simpa [hx] using ih
      · rw [ih]
        simp [hx, show ¬ c.1 = x from fun e => hx (e.symm.trans hc)]
    · rw [List.filter_cons_of_pos (by simp [hc])]
      by_cases hx : c.1 = x
      · simp [hx, show ¬ x = a from fun e => hc (hx.trans e)]
      · simp only [List.find?_cons, show (c.1 == x) = false by simpa using hx]
        exact ih

theorem memRead_memInsert (m : Mem) (a : Nat) (b : Byte) (x : Nat) (h : m.Pairwise (fun p q => p.1 < q.1)) :
    memRead (memInsert a b m) x = if x = a then b else memRead m x := by
  induction m with
  | nil =>
    by_cases hx : x = a
    · simp [memInsert, memRead, hx]
    · simp [memInsert, memRead, hx, show ¬ a = x from fun e => hx e.symm]
  | cons c m ih =>
    rw [List.pairwise_cons] at h
    have ih := ih h.2
    unfold memInsert
    split
    next lt =>
      by_cases hx : x = a
      · simp [memRead, hx]
      · simp [memRead, List.find?_cons, hx, show ¬ a = x from fun e => hx e.symm]
    next ge =>
      split
      next eq =>
        by_cases hx : x = a
        · simp [memRead, hx]
        · simp [memRead, hx, show ¬ a = x from fun e => hx e.symm, ← eq]
      next ne =>
        by_cases hc : c.1 = x
        · simp [memRead, hc, show ¬ x = a from fun e => ne (e.symm.trans hc.symm)]
        · unfold memRead at *
          simp only [List.find?_cons, show (c.1 == x) = false by simpa using hc]
          exact ih

/-- A byte reads as it was written; every other byte as before. -/
theorem memRead_memWrite (m : Mem) (a : Nat) (b : Byte) (x : Nat) (h : memWf m = true) :
    memRead (memWrite m a b) x = if x = a then b else memRead m x := by
  unfold memWrite
  split
  next hb => rw [memRead_filter, hb]
  next => exact memRead_memInsert m a b x ((memWf_iff m).1 h).1

/-- What memory reads as after a store: the bytes stored from `a` up, and every other byte as before. -/
theorem memRead_memStore (bs : Bytes) (m : Mem) (a x : Nat) (h : memWf m = true) :
    memRead (memStore m a bs) x = if a ≤ x ∧ x < a + bs.length then bs.getD (x - a) 0 else memRead m x := by
  induction bs generalizing m a with
  | nil => rw [if_neg (by simp only [List.length_nil]; omega), memStore]
  | cons b bs ih =>
    rw [memStore, ih _ _ (memWf_memWrite m a b h), memRead_memWrite m a b x h]
    by_cases h1 : x = a
    · subst h1
      have h2 : ¬ (x + 1 ≤ x ∧ x < x + 1 + bs.length) := by omega
      have h3 : x ≤ x ∧ x < x + (b :: bs).length := by simp only [List.length_cons]; omega
      rw [if_neg h2, if_pos rfl, if_pos h3, Nat.sub_self]
      rfl
    · by_cases h2 : a + 1 ≤ x ∧ x < a + 1 + bs.length
      · have h3 : a ≤ x ∧ x < a + (b :: bs).length := by simp only [List.length_cons]; omega
        have h4 : x - a = x - (a + 1) + 1 := by omega
        rw [if_pos h2, if_pos h3, h4]
        rfl
      · have h3 : ¬ (a ≤ x ∧ x < a + (b :: bs).length) := by simp only [List.length_cons]; omega
        rw [if_neg h2, if_neg h3, if_neg h1]

end Sys2Proof.Machine
end

