-- ==== Sys2Proof/Laws/Layout.lean ====
section
/-! SUPPORT. A store into a unit's physical map, the firmware's own structures among it: it keeps the canonical form, every byte
outside it reads as before, and below the flash window the stored bytes read as they were stored. -/

namespace Sys2Proof.Machine

/-- A store moves none of the firmware's own structures. -/
@[simp] theorem firmwareByte_storeByte (c : Channel) (a : Nat) (b : Byte) (x : Nat) :
    (c.storeByte a b).firmwareByte x = c.firmwareByte x := by
  unfold Channel.storeByte; split <;> rfl

theorem storeByte_wf (c : Channel) (a : Nat) (b : Byte) (h : memWf c.mem = true) : memWf (c.storeByte a b).mem = true := by
  unfold Channel.storeByte
  split
  · exact h
  · exact memWf_memWrite _ _ _ h

theorem store_wf (bs : Bytes) (c : Channel) (a : Nat) (h : memWf c.mem = true) : memWf (c.store a bs).mem = true := by
  induction bs generalizing c a with
  | nil => exact h
  | cons b bs ih => exact ih _ _ (storeByte_wf c a b h)

theorem patched_cons (l : List (Nat × Byte × Byte)) (a x : Nat) (f b g : Byte) :
    patched ((a, f, b) :: l.filter fun p => p.1 != a) x g =
      if a = x then (if f = g then b else g) else patched l x g := by
  by_cases h : a = x
  · simp [patched, h]
  · have : List.find? (fun p => p.1 == x) (l.filter fun p => p.1 != a) = l.find? (fun p => p.1 == x) := by
      rw [List.find?_filter]
      congr 1
      funext p
      by_cases hp : p.1 = x
      · simp [hp, Ne.symm h]
      · simp [hp]
    simp [patched, List.find?_cons, show (a == x) = false by simpa using h, h, this]

/-- Every other byte reads as before. -/
theorem byteAt_storeByte_other (c : Channel) (a : Nat) (b : Byte) (x : Nat) (hw : memWf c.mem = true) (h : x ≠ a) :
    (c.storeByte a b).byteAt x = c.byteAt x := by
  unfold Channel.byteAt
  rw [firmwareByte_storeByte]
  unfold Channel.storeByte
  split <;> split
  · rw [patched_cons, if_neg (Ne.symm h)]
  · rfl
  · rfl
  · simp only [mapByte, memRead_memWrite _ _ _ _ hw, if_neg h]

/-- Below the flash window the byte reads as it was stored. -/
theorem byteAt_storeByte_same (c : Channel) (a : Nat) (b : Byte) (hw : memWf c.mem = true) (h : a < 0x800000) :
    (c.storeByte a b).byteAt a = b := by
  unfold Channel.byteAt
  rw [firmwareByte_storeByte]
  unfold Channel.storeByte
  cases hf : c.firmwareByte a with
  | some f => simp only [patched_cons, if_true]
  | none =>
    simp only [mapByte, if_neg (show ¬ 0xFFFF0000 ≤ a by omega),
      if_neg (show ¬ (0x800000 ≤ a ∧ a < 0x800000 + bankBytes c.table.mgmt) by omega), memRead_memWrite _ _ _ _ hw, if_true]

/-- What the map reads as after a store: the bytes stored from `a` up, and every other byte as before. -/
theorem byteAt_store (bs : Bytes) (c : Channel) (a x : Nat) (hw : memWf c.mem = true) (h : a + bs.length ≤ 0x800000) :
    (c.store a bs).byteAt x = if a ≤ x ∧ x < a + bs.length then bs.getD (x - a) 0 else c.byteAt x := by
  induction bs generalizing c a with
  | nil => rw [if_neg (by simp only [List.length_nil]; omega), Channel.store]
  | cons b bs ih =>
    have hl : (b :: bs).length = bs.length + 1 := rfl
    rw [Channel.store, ih _ _ (storeByte_wf c a b hw) (by omega)]
    by_cases h1 : x = a
    · subst h1
      rw [if_neg (by omega), if_pos (by omega), byteAt_storeByte_same c x b hw (by omega), Nat.sub_self]
      rfl
    · rw [byteAt_storeByte_other c a b x hw h1]
      by_cases h2 : a + 1 ≤ x ∧ x < a + 1 + bs.length
      · rw [if_pos h2, if_pos (by omega), show x - a = x - (a + 1) + 1 by omega]
        rfl
      · rw [if_neg h2, if_neg (by omega)]

end Sys2Proof.Machine
end

