-- ==== Sys2Proof/Safety.lean ====
section
/-! DEFINITION. What a safe run is: no step stops, and the memory of every unit keeps its canonical form. -/

namespace Sys2Proof.Machine

/-- The memories of all units are in canonical form. -/
def State.memOk (s : State) : Bool := memWf s.mgu.mem && s.chans.toList.all fun c => memWf c.mem

/-- A step answers a next state. -/
def State.goes (s : State) : Bool :=
  match step s with
  | .next _ => true
  | _ => false

/-- A state in which the block is safe to go on. -/
def State.safe (s : State) : Prop := s.goes = true ∧ s.memOk = true

end Sys2Proof.Machine
end

