-- ==== Sys2Proof/WellFormed.lean ====
section
/-! DEFINITION. Which commands are well formed: operands in the ranges the spec gives them where their types allow more. A sender sends no
other command; `exec` still gives every one a meaning. -/

namespace Sys2Proof

/-- A journal index: 12 bits (R44). -/
def jidxOk (n : Nat) : Bool := decide (n < 4096)

/-- A submission entry, when one is there: 64 bytes (R40). -/
def entryOk (b : Option Bytes) : Bool := b.all fun x => x.length == 64

/-- The steps a long instruction completes before a waiting interrupt fit PROG.STEP, 16 bits (R277). -/
def stopOk (n : Option Nat) : Bool := n.all fun x => decide (x < 65536)

/-- A reader frame: a command byte and a CRC at least, 128 bytes at most (R492). -/
def frameOk (b : Bytes) : Bool := decide (3 ≤ b.length) && decide (b.length ≤ 128)

/-- What the tamper monitor sees: of a source, one of the 32 (R432). -/
def metOk (l : List TamperSense) : Bool := l.all fun x => match x with
  | .source src _ => decide (src < 32)
  | .wires .. => true

/-- An address in the journal or in the result stage (R60, R64). -/
def keptOk (a : Nat) : Bool := decide (0x1C0000 ≤ a) && decide (a < 0x300000)

/-- What a channel boot finds: places of journal and stage, a bit of a word, private key slots, a whole tree image (R69, R152, R173,
R474). -/
def BootSeen.ok (x : BootSeen) : Bool :=
  (x.corrected.all fun p => keptOk p.1 && decide (p.2 < 72)) && x.uncorrectable.all keptOk && (x.flips.all fun p => keptOk p.1) &&
  (x.rows.all fun r => decide (r.2.2.2 < 72)) && (x.slots.all fun n => decide (n < 16)) && x.image.all fun b => b.length == 262144

/-- A register write: whole aligned words; in a core's space exactly one (R26, R31). -/
def writeOk (x : RegSpace) (off : Nat) (b : Bytes) : Bool :=
  off % 4 == 0 && b.length % 4 == 0 && match x with
    | .func _ => decide (0 < b.length)
    | .core _ => b.length == 4 && decide (off < 0x100000)

/-- The operands of a command are in range. -/
def Instr.wf : Instr → Bool
  | .jobCommit _ j | .stagedWritesSend _ j | .completionPost _ j | .commitList _ j | .commitRecover _ j | .journalList _ j
  | .unprotect _ j | .unprotectSeq _ j | .protect _ j | .protectBroadcast _ j | .protectDisconnect _ j | .keyTransport _ j
  | .keyActivate _ j | .keyDiscard _ j | .dedicatedRelease _ j | .governorStatus _ j | .tokenChallenge _ j | .tokenApply _ j
  | .governorLower _ j | .recipeLoad _ j | .recipeList _ j | .recipeRemove _ j | .recordImport _ j | .recordRewrap _ j
  | .recordRotate _ j | .recordRetire _ j | .shardCreate _ j | .treeImage _ j | .shardStatus _ j | .sigVerify _ j
  | .rsaVerify _ j | .rsaSign _ j | .attest _ j | .pubkeyExport _ j | .settleRun _ j | .settleOpen _ j | .settleAdjust _ j
  | .settleClose _ j | .programLoad _ j | .programList _ j | .programRemove _ j | .noteBuild _ j | .pairBeat _ j
  | .snapshotStart _ j | .snapshotChunk _ j | .snapshotCommit _ j | .relinquish _ j | .pairReceive _ j | .receiveNote _ j
  | .receiveAck _ j | .receiveBeat _ j | .receiveChunk _ j | .receiveCommit _ j | .receiveRelinquish _ j
  | .pairBindActive _ j | .pairBindStandby _ j | .pairUnbind _ j | .pairStatus _ j | .revocationLoad _ j => jidxOk j
  | .promote _ j image => jidxOk j && image.all fun b => b.length == 262144
  | .dmaReadDone _ j field _ => jidxOk j && decide (field < 64)
  | .jobClaim _ a b c d => entryOk a && entryOk b && entryOk c && entryOk d
  | .sqDoorbellInline _ _ b => b.length == 64
  | .sqDoorbellInlinePartial _ _ off len => decide (off + len ≤ 64)
  | .registerWrite x off b => writeOk x off b
  | .mailboxTakeUp b => b.all fun x => decide (x.length ≤ 4096)
  | .channelBoot _ x => x.ok
  | .rootLoadRetry _ b flips _ => (b.all fun x => x.length == 262144) && flips.all fun p => keptOk p.1
  | .managementBoot a b => (a ++ b).all fun x => x.length == 32
  | .bmov _ _ n | .vmac _ _ n | .divs _ _ n | .hblkFeed _ _ _ n | .hblkFinal _ _ _ n => stopOk n
  | .tamperArm l _ | .tamperTrip l _ | .batteryBurst l => metOk l
  | .sensorSample l => l.length == 36
  | .transitSample n _ => decide (n < 2048)
  | .classTokenRefill n => decide (n < 16)
  | .smbusPacketReceive _ _ _ b => decide (b.length ≤ 68)
  | .flashWindowRead u off _ _ => decide (off < if u.val < 16 then 0x200000 else 0x400000)
  | .inventory b | .nextSlot b | .ack b | .nak b | .halt b | .tagGetInfo b | .authStart b | .authFinish b | .dtSelect b
  | .dtAccess b | .dtRead b | .readTransit b | .readTamper b | .readNote b | .readIdentity b | .endSession b => frameOk b
  | .readLog b _ | .writeNote b _ _ => frameOk b
  | _ => true

end Sys2Proof
end

