-- ==== Sys2Proof/Tests/Slice0.lean ====
section
/-! SUPPORT. Tests: small states that meet the hypotheses of each statement, ill-formed commands that WellFormed refuses, and single steps
whose results the spec gives. -/

namespace Sys2Proof.Test

-- The kernel evaluations below are heavy: one after another, so that no more than one is held in memory.
set_option Elab.async false

open Sys2Proof Sys2Proof.Machine Sys2Proof.Says

/-- A state with channel 0 changed. -/
def on (f : Channel → Channel) (s : State) : State := setChan s 0 (f (s.chan 0))

/-- A core of channel 0 with its code and data in SRAM, eight words on its stack and a frame area. -/
def cpu (psw : Word) (f : Kenten → Kenten) : State :=
  let b : Bank := { segs := #v[⟨0, 0x1000⟩, ⟨0x130000, 0x1000⟩, ⟨0x131000, 0x1000⟩, ⟨0x132000, 0x1000⟩, ⟨0x133000, 0x1000⟩, ⟨0x134000, 0x1000⟩], depth := 8 }
  on (fun c => { c with
    state := .ready
    table := { c.table with entries := c.table.entries.set 0 ⟨0, 0x3FFFFFF, 0, 0x3FFFFFF, 0x10000 + 0xFFF, false⟩ }
    core := f { c.core with psw := psw, inner := b, outer := b, wcsBaseI := 0, wcsLimitI := 0x1000, wcsBaseO := 0, wcsLimitO := 0x1000
                            framePtrI := 0x8000, framePtrO := 0x9000, frameTopI := 0x8000, frameTopO := 0x9000 } }) State.reset

/-- The part up and running: link, tamper monitor, management and channels. -/
def up : State :=
  { State.reset with
    dev := { State.reset.dev with mgmtUp := true, hearthUp := true, lifecycle := 7, tick := 100000 }
    tp := { State.reset.tp with armed := true, cell := true }
    pw := { State.reset.pw with link := true, mgHeld := false, pcieUp := true, perst := false, selfTest := true }
    chans := Vector.replicate 16 { State.reset.chan 0 with state := .ready, host := { (State.reset.chan 0).host with sleepOk := true } } }

/-- A state in which management has taken up command `code` with payload `p`. -/
def say (s : State) (code : Nat) (p : Bytes) : State := { s with fn0 := { s.fn0 with current := some (code, 0, 1, 0, p) } }

/-- An instruction that issues and whose accesses pass, with the flash bank idle: what `Ready` and `Passes` ask, in terms that evaluate. -/
abbrev Runs (s : State) (u : Core) (i : KOp) (es : List KExt) : Prop :=
  let c := begun i (unit s u)
  (Present s u ∧ canIssue (coreExt u s) (unit s u).core = true ∧ (unit s u).nv.writes = false ∧ preFault (issuing (unit s u)) i = none) ∧
  extentsBad c i.opcode (depthExts c.core.depth (depthAfter c i) ++ es) = none ∧ c.nv.writes = false

theorem ready_of_runs {s : State} {u : Core} {i : KOp} {es : List KExt} (h : Runs s u i es) : Ready s u i :=
  ⟨h.1.1, h.1.2.1, flashReads_idle _ _ h.1.2.2.1, h.1.2.2.2⟩

theorem passes_of_runs {s : State} {u : Core} {i : KOp} {es : List KExt} (h : Runs s u i es) : Ready s u i ∧ Passes s u i es :=
  ⟨ready_of_runs h, h.2.1, flashReads_idle _ _ h.2.2⟩

/-! ### The Kenten core -/

/-- The core above in the supervisor mode of the Inner world. -/
def cpu0 : State := cpu 0x700 id

theorem test_stack_witness : ∀ r ∈ stackRows 0 (coreAt cpu0 0) (pswOf cpu0 0) 3 5 7, Ready cpu0 0 r.2.1 ∧ Passes cpu0 0 r.2.1 [] := by
  have h : ∀ r ∈ stackRows 0 (coreAt cpu0 0) (pswOf cpu0 0) 3 5 7, Runs cpu0 0 r.2.1 [] := by decide +kernel
  exact fun r m => passes_of_runs (h r m)
theorem test_integer_witness : ∀ r ∈ fittedRows 0 (pswOf cpu0 0) 3 5 ++ logicRows 0 (pswOf cpu0 0) 3,
    Ready cpu0 0 r.2.1 ∧ Passes cpu0 0 r.2.1 [] := by
  have h : ∀ r ∈ fittedRows 0 (pswOf cpu0 0) 3 5 ++ logicRows 0 (pswOf cpu0 0) 3, Runs cpu0 0 r.2.1 [] := by decide +kernel
  exact fun r m => passes_of_runs (h r m)
theorem test_acc_read_witness : ∀ r ∈ accReadRows 0 (coreAt cpu0 0) (pswOf cpu0 0) true 3,
    Ready cpu0 0 r.2.1 ∧ Passes cpu0 0 r.2.1 [] := by
  have h : ∀ r ∈ accReadRows 0 (coreAt cpu0 0) (pswOf cpu0 0) true 3, Runs cpu0 0 r.2.1 [] := by decide +kernel
  exact fun r m => passes_of_runs (h r m)
theorem test_acc_write_witness : ∀ r ∈ accRows 0 (issuing (unit cpu0 0)).core (pswOf cpu0 0) false,
    Ready cpu0 0 r.2.1 ∧ Passes cpu0 0 r.2.1 [] := by
  have h : ∀ r ∈ accRows 0 (issuing (unit cpu0 0)).core (pswOf cpu0 0) false, Runs cpu0 0 r.2.1 [] := by decide +kernel
  exact fun r m => passes_of_runs (h r m)
theorem test_load_witness : ∀ r ∈ loadRows 0 1 8, Ready cpu0 0 r.2.1 ∧ Passes cpu0 0 r.2.1 [r.2.2.1 (inputs cpu0 0 r.2.1)] := by
  have h : ∀ r ∈ loadRows 0 1 8, Runs cpu0 0 r.2.1 [r.2.2.1 (inputs cpu0 0 r.2.1)] := by decide +kernel
  exact fun r m => passes_of_runs (h r m)
theorem test_store_witness : ∀ r ∈ storeRows 0 1 8, Ready cpu0 0 r.2.1 ∧ Passes cpu0 0 r.2.1 [r.2.2 (inputs cpu0 0 r.2.1)] := by
  have h : ∀ r ∈ storeRows 0 1 8, Runs cpu0 0 r.2.1 [r.2.2 (inputs cpu0 0 r.2.1)] := by decide +kernel
  exact fun r m => passes_of_runs (h r m)
theorem test_store_frame_witness : ∀ r ∈ storeRows 0 1 8, Shallow (issuing (unit cpu0 0)) ∧
    isPeriph ((r.2.2 (inputs cpu0 0 r.2.1)).phys (issuing (unit cpu0 0)).core) = false ∧ memWf (issuing (unit cpu0 0)).mem = true := by
  decide +kernel
theorem test_branch_witness : ∀ r ∈ branchRows 0 (issuing (unit cpu0 0)) 4 4, (Ready cpu0 0 r.2.1 ∧ Passes cpu0 0 r.2.1 []) ∧
    r.2.2.2.1 (inputs cpu0 0 r.2.1) < ((issuing (unit cpu0 0)).core.seg 0).limit := by
  have h : ∀ r ∈ branchRows 0 (issuing (unit cpu0 0)) 4 4, Runs cpu0 0 r.2.1 [] ∧
    r.2.2.2.1 (inputs cpu0 0 r.2.1) < ((issuing (unit cpu0 0)).core.seg 0).limit := by decide +kernel
  exact fun r m => ⟨passes_of_runs (h r m).1, (h r m).2⟩
theorem test_branch_limit_witness : ∃ r ∈ branchRows 0 (issuing (unit cpu0 0)) 0x7000 4, Ready cpu0 0 r.2.1 ∧
    r.2.2.1 (inputs cpu0 0 r.2.1) = true ∧ ((issuing (unit cpu0 0)).core.seg 0).limit ≤ r.2.2.2.1 (inputs cpu0 0 r.2.1) := by
  have h : ∃ r ∈ branchRows 0 (issuing (unit cpu0 0)) 0x7000 4, Runs cpu0 0 r.2.1 [] ∧
    r.2.2.1 (inputs cpu0 0 r.2.1) = true ∧ ((issuing (unit cpu0 0)).core.seg 0).limit ≤ r.2.2.2.1 (inputs cpu0 0 r.2.1) := by decide +kernel
  exact h.imp fun r m => ⟨m.1, ready_of_runs m.2.1, m.2.2⟩
theorem test_system_witness : ∀ r ∈ systemRows 0 (issuing (unit cpu0 0)) (pswOf cpu0 0) 1,
    Ready cpu0 0 r.2.1 ∧ Passes cpu0 0 r.2.1 [] := by
  have h : ∀ r ∈ systemRows 0 (issuing (unit cpu0 0)) (pswOf cpu0 0) 1, Runs cpu0 0 r.2.1 [] := by decide +kernel
  exact fun r m => passes_of_runs (h r m)
theorem test_special_witness : ∀ i ∈ [KOp.mfsr 6, .mtsr 2, .segw 1, .wait, .brk 1], Ready cpu0 0 i ∧ Passes cpu0 0 i [] := by
  have h : ∀ i ∈ [KOp.mfsr 6, .mtsr 2, .segw 1, .wait, .brk 1], Runs cpu0 0 i [] := by decide +kernel
  exact fun r m => passes_of_runs (h r m)
theorem test_special_range_witness : srRange (issuing (unit cpu0 0)).core 2 (in0 (inputs cpu0 0 (.mtsr 2))).toNat = false ∧
    (in0 (inputs cpu0 0 (.segw 1))).toNat + (in1 (inputs cpu0 0 (.segw 1))).toNat ≤ 2 ^ 32 := by decide +kernel
theorem test_fetch_held_witness : let s := on (fun c => { c with
      core := { c.core with inner := { c.core.inner with segs := c.core.inner.segs.set 0 ⟨0x800000, 0x1000⟩ } }
      nv := { c.nv with busy := some ⟨1, false, false, 0x80000, 0, [], false⟩ } }) cpu0
    Present s 0 ∧ canIssue (coreExt 0 s) (unit s 0).core = true ∧ fetchReads (.ldw 1) (unit s 0) = none := by
  refine ⟨by decide +kernel, by decide +kernel, Option.isNone_iff_eq_none.1 (by decide +kernel)⟩

/-- The core above with its three top words given, deepest first. -/
def cpu3 (psw a b c : Word) : State := cpu psw fun k => { k with regs := ((k.regs.set 5 a).set 6 b).set 7 c }

/-- With MASK set a unit outside loops, delay slots and long instructions yields to nothing. -/
theorem calm_masked {x : Ext} {c : Channel} (h : Shallow c ∧ c.core.long = false ∧ pswMask c.core.psw = true) : Calm x c :=
  ⟨h.1, h.2.1, fun _ => takeable_masked _ _ h.2.2⟩

/-- With no interrupt enabled too. -/
theorem calm_off {x : Ext} {c : Channel} (h : Shallow c ∧ c.core.long = false ∧ c.core.irqEn = 0) : Calm x c :=
  ⟨h.1, h.2.1, fun _ => takeable_off _ _ h.2.2⟩

theorem test_moves_range_witness : let s := cpu3 0x700 0 0 0x10000
    Ready s 0 (.bmov 0x11) ∧ Ready s 0 (.vmac 0x11) ∧ 65535 < (inp ((opened (.bmov 0x11) (unit s 0)).core.top 3) 2).toNat :=
  ⟨ready_of_runs (es := []) (by decide +kernel), ready_of_runs (es := []) (by decide +kernel), by decide +kernel⟩

theorem test_bmov_witness : let s := cpu3 0x700 0 16 13
    let c := opened (.bmov 0x11) (unit s 0)
    Ready s 0 (.bmov 0x11) ∧ Calm (coreExt 0 s) c ∧ limitBad c.core 0xB0 ⟨1, 0, 13, .read, 3⟩ = none ∧
      limitBad c.core 0xB0 ⟨2, 16, 13, .write, 3⟩ = none ∧
      stepBad c 0xB0 [⟨1, 0, 8, .read, 3⟩, ⟨2, 16, 8, .write, 3⟩] = none ∧ stepBad c 0xB0 [⟨1, 8, 5, .read, 3⟩, ⟨2, 24, 5, .write, 3⟩] = none :=
  ⟨ready_of_runs (es := []) (by decide +kernel), calm_masked (by decide +kernel), by decide +kernel⟩

theorem test_vmac_witness : let s := cpu3 0x700 0 16 2
    let c := opened (.vmac 0x11) (unit s 0)
    Ready s 0 (.vmac 0x11) ∧ Calm (coreExt 0 s) c ∧ limitBad c.core 0xB1 ⟨1, 0, 8, .read, 3⟩ = none ∧
      limitBad c.core 0xB1 ⟨2, 16, 8, .read, 3⟩ = none ∧
      ∀ i ∈ [0, 1], stepBad c 0xB1 [⟨1, 4 * i, 4, .read, 3⟩, ⟨2, 16 + 4 * i, 4, .read, 3⟩] = none :=
  ⟨ready_of_runs (es := []) (by decide +kernel), calm_masked (by decide +kernel), by decide +kernel⟩

theorem test_loops_range_witness : let s := cpu3 0x700 0 0x10000 0
    Ready s 0 (.loops 4) ∧ Ready s 0 (.divs 3) ∧ 65535 < (inp ((opened (.loops 4) (unit s 0)).core.top 2) 0).toNat ∧
      inp ((opened (.divs 3) (unit s 0)).core.top 2) 1 = 0 :=
  ⟨ready_of_runs (es := []) (by decide +kernel), ready_of_runs (es := []) (by decide +kernel), by decide +kernel⟩

theorem test_loops_witness : let s := cpu3 0x700 0 2 3
    let c := issuing (unit s 0)
    Ready s 0 (.loops 0xFFFF) ∧ Ready s 0 (.loops 4) ∧ Ready s 0 (.divs 3) ∧ Calm (coreExt 0 s) c ∧
      (inp ((opened (.loops 0xFFFF) (unit s 0)).core.top 2) 0).toNat ≤ 65535 ∧ (c.core.seg 0).limit < c.core.pc + 3 + 0xFFFF ∧
      c.core.pc + 3 + 4 ≤ (c.core.seg 0).limit ∧ inp (c.core.top 2) 1 ≠ 0 :=
  ⟨ready_of_runs (es := []) (by decide +kernel), ready_of_runs (es := []) (by decide +kernel), ready_of_runs (es := []) (by decide +kernel),
   calm_masked (by decide +kernel), by decide +kernel⟩

theorem test_loops_zero_witness : let s := cpu3 0x700 0 0 3
    Ready s 0 (.loops 4) ∧ Calm (coreExt 0 s) (issuing (unit s 0)) ∧ inp ((issuing (unit s 0)).core.top 2) 0 = 0 :=
  ⟨ready_of_runs (es := []) (by decide +kernel), calm_masked (by decide +kernel), by decide +kernel⟩

/-- A core whose timer has matched and is enabled, with MASK clear. -/
def timed (psw a b c : Word) : State :=
  on (fun y => { y with core := { y.core with irqEn := 1, tcmp := 0 } }) (cpu3 psw a b c)

/-- A division that a request interrupts: MASK clear, at a boundary whenever it arrives. -/
theorem test_division_arrival_witness : let s := cpu3 0x600 0 2 3
    let c := issuing (unit s 0)
    Ready s 0 (.divs 3) ∧ Calm (coreExt 0 s) c ∧ pswMask c.core.psw = false ∧ ∀ y, atBoundary { c.core with cycles := y } = true :=
  ⟨ready_of_runs (es := []) (by decide +kernel), calm_off (by decide +kernel), by decide +kernel,
   atBoundary_quiet _ (by decide +kernel) (by decide +kernel) (by decide +kernel) (by decide +kernel) (by decide +kernel) (by decide +kernel)
     (by decide +kernel)⟩

theorem timer_of_zero {k : Kenten} (h : k.tcmp = 0) (y : Nat) : ({ k with cycles := y } : Kenten).timer = true := by simp [Kenten.timer, h]

theorem test_division_yields_witness : let s := timed 0x600 0 2 3
    let c := issuing (unit s 0)
    Ready s 0 (.divs 3) ∧ c.core.depth ≤ 16 ∧ c.core.long = false ∧ (∀ y, atBoundary { c.core with cycles := y } = true) ∧
      ∀ y, (takeable (coreExt 0 s) { c.core with cycles := y }).isSome = true := by
  refine ⟨ready_of_runs (es := []) (by decide +kernel), by decide +kernel, by decide +kernel,
    atBoundary_quiet _ (by decide +kernel) (by decide +kernel) (by decide +kernel) (by decide +kernel) (by decide +kernel) (by decide +kernel)
      (by decide +kernel), fun y => ?_⟩
  have m : pswMask (issuing (unit (timed 0x600 0 2 3) 0)).core.psw = false := by decide +kernel
  have e : (issuing (unit (timed 0x600 0 2 3) 0)).core.irqEn.testBit 0 = true := by decide +kernel
  have t : (issuing (unit (timed 0x600 0 2 3) 0)).core.tcmp = 0 := by decide +kernel
  have w : (issuing (unit (timed 0x600 0 2 3) 0)).core.irqWorld.testBit 0 = false := by decide +kernel
  exact congrArg Option.isSome (takeable_timer _ { (issuing (unit (timed 0x600 0 2 3) 0)).core with cycles := y } m e (timer_of_zero t y) w)

/-- A division at its fourth step. -/
def halfway : State := on (fun y => { y with core := { y.core with long := true, step := 4 } }) (cpu3 0x700 0 2 3)

theorem test_division_resumes_witness : let c := issuing (unit halfway 0)
    Ready halfway 0 (.divs 3) ∧ Shallow c ∧ c.core.long = true ∧ inp (c.core.top 2) 1 ≠ 0 ∧
      ∀ y, takeable (coreExt 0 halfway) { c.core with cycles := y } = none := by
  refine ⟨ready_of_runs (es := []) (by decide +kernel), by decide +kernel, by decide +kernel, by decide +kernel, fun y => ?_⟩
  have m : pswMask (issuing (unit halfway 0)).core.psw = true := by decide +kernel
  exact takeable_masked _ _ m

theorem test_hash_range_witness : let s := cpu3 0x300 0 0 0x10000
    Ready s 0 (.hblk 8) ∧ Ready s 0 (.hblk 11) ∧ Ready s 0 (.hblk 12) ∧ Calm (coreExt 0 s) (issuing (unit s 0)) ∧
      ((issuing (unit s 0)).hash.ctx 3).opened = false :=
  ⟨ready_of_runs (es := []) (by decide +kernel), ready_of_runs (es := []) (by decide +kernel), ready_of_runs (es := []) (by decide +kernel),
   calm_masked (by decide +kernel), by decide +kernel⟩

/-- A core whose hash context 3 holds three bytes. -/
def hashing : State := on (fun c => { c with hash := onHashCtx 3 (fun _ => { alg := 1, opened := true, message := [1, 2, 3] }) c.hash }) (cpu3 0x300 0 0 5)

theorem test_hash_witness : let c := issuing (unit hashing 0)
    Ready hashing 0 (.hblk 11) ∧ Ready hashing 0 (.hblk 12) ∧ Calm (coreExt 0 hashing) c ∧ (c.hash.ctx 3).opened = true ∧
      limitBad c.core 0xB3 ⟨1, 0, 5, .read, 3⟩ = none ∧
      (∀ j ∈ List.range 6, ∀ w ∈ List.range (6 - j), stepBad c 0xB3 [⟨1, j, w, .read, 3⟩] = none) ∧
      limitBad c.core 0xB3 ⟨1, 5, 32, .write, 3⟩ = none ∧ stepBad c 0xB3 [⟨1, 5, 32, .write, 3⟩] = none :=
  ⟨ready_of_runs (es := []) (by decide +kernel), ready_of_runs (es := []) (by decide +kernel), calm_masked (by decide +kernel), by decide +kernel⟩

/-- A frame that RETE takes back: PSW `p`, PC 0x40, code segment 0 of 0x1000 bytes. -/
def frame (p : Nat) : Bytes := leBytes 4 0 ++ leBytes 4 0x40 ++ leBytes 4 p ++ leBytes 4 0 ++ leBytes 4 0x1000 ++ zeros 60

theorem test_gate_off_witness : let s := cpu3 0x700 0 0 0
    Ready s 0 (.gate 0x83) ∧ (issuing (unit s 0)).core.gateEn.testBit 19 = false :=
  ⟨ready_of_runs (es := []) (by decide +kernel), by decide +kernel⟩
theorem test_gate_stack_witness : let s := cpu 0x300 fun k => { k with gateEn := 0x80008, outer := { k.outer with depth := 1 } }
    Ready s 0 (.gate 0x23) ∧ (issuing (unit s 0)).core.gateEn.testBit 3 = true ∧ (unit s 0).core.depth < 2 :=
  ⟨ready_of_runs (es := []) (by decide +kernel), by decide +kernel⟩
theorem test_gate_witness : let s := cpu 0x700 fun k => { k with gateEn := 0x80008 }
    Ready s 0 (.gate 0x83) ∧ (issuing (unit s 0)).core.gateEn.testBit 19 = true ∧ Room (issuing (unit s 0)) true 51 :=
  ⟨ready_of_runs (es := []) (by decide +kernel), by decide +kernel⟩
theorem test_gate_crosses_witness : let s := cpu 0x300 fun k => { k with gateEn := 0x80008 }
    Ready s 0 (.gate 0x23) ∧ (issuing (unit s 0)).core.gateEn.testBit 3 = true ∧ Room (outside 0 s.dev 2 (issuing (unit s 0))) true 51 :=
  ⟨ready_of_runs (es := []) (by decide +kernel), by decide +kernel⟩
theorem test_rete_range_witness : let s := cpu 0x700 id
    Ready s 0 .rete ∧ (unit s 0).core.frameTopI < (unit s 0).core.framePtrI + 80 :=
  ⟨ready_of_runs (es := []) (by decide +kernel), by decide +kernel⟩
theorem test_rete_witness : let s := on (fun c => { c with mem := memStore [] 0x7F00 (frame 0x700) }) (cpu 0x700 fun k => { k with framePtrI := 0x7F00 })
    let c := unit s 0
    Ready s 0 .rete ∧ 0x7F00 + 80 ≤ c.core.frameTopI ∧
      (∀ j ∈ List.range 80, isPeriph (0x7F00 + j) = false ∧ atAllows c.table c.core.ctx .read (0x7F00 + j) = true) ∧
      badWordIn c.table 0x7F00 80 = none ∧ reteBad c.core (c.bytesAt 0x7F00 80) = none ∧
      pswInner (BitVec.ofNat 32 (fieldLE (c.bytesAt 0x7F00 80) 8 4)) = c.core.inWorld :=
  ⟨ready_of_runs (es := []) (by decide +kernel), by decide +kernel⟩

/-- A core of channel 0 with a fault that waits. -/
def faulted (psw : Word) (route : Nat) : State := cpu psw fun k => { k with fault := some ⟨7, 0, 0xB400⟩, froute := route }

theorem test_fault_witness :
    (let k := (unit (faulted 0x700 0) 0).core
     k.fault = some ⟨7, 0, 0xB400⟩ ∧ k.halted = false ∧ pswMask k.psw = true) ∧
    (let c := unit (faulted 0x600 0) 0
     c.core.fault = some ⟨7, 0, 0xB400⟩ ∧ c.core.halted = false ∧ pswMask c.core.psw = false ∧ c.core.inWorld = true ∧
       Room { c with core := c.core.landEvery } true 7) ∧
    (let c := unit (faulted 0x200 0) 0
     c.core.fault = some ⟨7, 0, 0xB400⟩ ∧ c.core.halted = false ∧ pswMask c.core.psw = false ∧ c.core.inWorld = false ∧
       c.core.froute.testBit 7 = false ∧ Room (outside 0 (faulted 0x200 0).dev 0 { c with core := c.core.landEvery }) true 7) := by
  decide +kernel

theorem test_interrupt_witness : ∀ s ∈ [timed 0x600 1 2 3, on (fun y => { y with core := { y.core with branch := some ⟨2, true, 0⟩ } }) (timed 0x600 1 2 3)],
    Present s 0 ∧ takeable (coreExt 0 s) (unit s 0).core.land = some 0 ∧ (unit s 0).core.irqWorld.testBit 0 = !(unit s 0).core.inWorld := by
  intro s h
  simp only [List.mem_cons, List.not_mem_nil, or_false] at h
  rcases h with rfl | rfl <;>
    exact ⟨by decide +kernel, takeable_timer _ _ (by decide +kernel) (by decide +kernel) (by decide +kernel) (by decide +kernel), by decide +kernel⟩

theorem test_interrupt_boundary :
    (let c := unit (timed 0x600 1 2 3) 0
     atBoundary c.core.land = true ∧ Room { c with core := c.core.land } true 16) ∧
    atBoundary (unit (on (fun y => { y with core := { y.core with branch := some ⟨2, true, 0⟩ } }) (timed 0x600 1 2 3)) 0).core.land = false := by
  decide +kernel

theorem test_interrupt_none_witness : takeable (coreExt 0 (cpu 0x700 id)) (unit (cpu 0x700 id) 0).core.land = none :=
  takeable_masked _ _ (by decide +kernel)

/-- The same timer with the core in the Outer world: the interrupt crosses into the Inner one. -/
theorem test_interrupt_crosses_witness : let s := timed 0x200 1 2 3
    let c := unit s 0
    Present s 0 ∧ takeable (coreExt 0 s) c.core.land = some 0 ∧ c.core.irqWorld.testBit 0 = false ∧ c.core.inWorld = false ∧
      atBoundary c.core.land = true ∧ Room (outside 0 s.dev 0 { c with core := c.core.land }) true 16 :=
  ⟨by decide +kernel, takeable_timer _ _ (by decide +kernel) (by decide +kernel) (by decide +kernel) (by decide +kernel), by decide +kernel⟩

theorem test_stop_witness :
    (let k := (unit (cpu 0x700 fun k => { k with waiting := true }) 0).core
     k.waiting = true ∧ k.halted = false) ∧ (unit (cpu 0x700 id) 0).core.waiting = false ∧
    (let c := unit (cpu 0x700 fun k => { k with dfault := some ⟨7, 0, 0⟩ }) 0
     c.core.dfault = some ⟨7, 0, 0⟩ ∧ c.table.mgmt = false ∧ c.state = .ready) := by decide +kernel

theorem test_frames_witness : let c := issuing (unit cpu0 0)
    Shallow c ∧ ∀ r ∈ stackRows 0 (coreAt cpu0 0) (pswOf cpu0 0) 3 5 7 ++ fittedRows 0 (pswOf cpu0 0) 3 5 ++ logicRows 0 (pswOf cpu0 0) 3 ++
      systemRows 0 c (pswOf cpu0 0) 1, depthAfter c r.2.1 ≤ 16 := by decide +kernel

theorem test_cannot_issue_witness : let s := on (fun c => { c with state := .reset }) cpu0
    Present s 0 ∧ canIssue (coreExt 0 s) (unit s 0).core = false := by decide +kernel

/-! ### Power, boot and management -/

/-- Every mailbox command can be given: to every state in which management runs. -/
theorem test_given (s : State) (code : Nat) (p : Bytes) (h : mgmtRuns s = true) : Given (say s code p) code p := ⟨h, 0, 1, 0, rfl⟩
theorem test_runs : mgmtRuns up = true ∧ mgmtServes up = true := by decide +kernel

theorem test_power_witness :
    (let s : State := { State.reset with pw := { State.reset.pw with main := false }, tp := { State.reset.tp with battery := true } }
     s.pw.main = false ∧ s.tp.battery = true) ∧ (up.pw.main = true ∧ up.pw.fallen = false ∧ up.mg.blow = none) ∧
    ({ up with mg := { up.mg with blow := some 15 } } : State).mg.blow = some 15 ∧
    ({ up with pw := { up.pw with fallen := true } } : State).pw.fallen = true ∧
    ({ up with pw := { up.pw with warmDue := true } } : State).pw.warmDue = true := by decide +kernel

theorem test_link_witness :
    (∀ e ∈ [true, false], let s : State := { up with pw := { up.pw with link := false, entropy := e } }
     s.pw.main = true ∧ s.pw.selfTest = true ∧ s.pw.link = false ∧ s.pw.fallen = false ∧ s.pw.entropy = e) ∧
    frameVerifies true { port := 0, data := [], tag := [] } up.pw = false ∧
    (let s : State := { up with tp := { up.tp with armed := false } }
     s.pw.main = true ∧ s.pw.link = true ∧ s.tp.armed = false ∧ s.tp.queue = [] ∧ s.tp.drops = 0) := by decide +kernel

/-- A link that has been keyed; a frame sealed under the key verifies. -/
def linked : State := { up with pw := { up.pw with linkKey := zeros 16 } }

theorem test_link_frame_witness : ∃ f : LinkFrame, linked.pw.link = true ∧ frameVerifies true f linked.pw = true := by
  let tag := gcmTag linked.pw.linkKey (linkIv true 0 (linked.pw.counter true)) [] []
  have h : (gcmTag linked.pw.linkKey (linkIv true 0 (linked.pw.counter true)) [] []).length = 16 := by decide +kernel
  have e : (gcmTag linked.pw.linkKey (linkIv true 0 (linked.pw.counter true)) [] []).take 16 =
    gcmTag linked.pw.linkKey (linkIv true 0 (linked.pw.counter true)) [] [] := List.take_of_length_le (Nat.le_of_eq h)
  exact ⟨⟨0, [], tag⟩, rfl, by simp [frameVerifies, gcmDecrypt, h, e, tag]⟩

theorem test_release_witness :
    (let s := on (fun c => { c with state := .reset }) up
     s.dev.has 0 = true ∧ (s.chan 0).state = .reset ∧ s.pw.main = true ∧ s.pw.fallen = false ∧ s.dev.lifecycle ≠ 0 ∧
       (s.chan 0).sf.latched = false ∧ s.pw.link = true ∧ s.tp.armed = true ∧ s.pw.refclk = true ∧ bit s.tp.clearing 0 = false) ∧
    (let s := on (fun c => { c with state := .waitLink, sf := { c.sf with latched := true } }) up
     (s.chan 0).state = .waitLink ∧ (s.chan 0).sf.latched = true) ∧
    (let s := on (fun c => { c with state := .reset }) { up with pw := { up.pw with link := false } }
     (s.chan 0).state = .reset ∧ (s.chan 0).sf.latched = false ∧ s.pw.link = false) ∧
    (let s := on (fun c => { c with state := .waitMgmt }) up
     (s.chan 0).state = .waitMgmt ∧ mgmtServes s = true) ∧ mgmtServes State.reset = false := by decide +kernel

theorem test_function_witness : up.pw.main = true ∧ up.pw.perst = false ∧ State.reset.pw.perst = true ∧ State.reset.pw.main = true ∧
    up.pw.pcieUp = true ∧ up.dev.has 0 = true ∧ up.fn0.phase = .idle ∧ up.fn0.current = none ∧
    ({ up with fn0 := { up.fn0 with phase := .waiting } } : State).fn0.phase = .waiting := by decide +kernel

theorem test_sleep_witness :
    (let c := up.chan 0
     c.state = .ready ∧ c.host.sleepOk = true ∧ quiesced c = true ∧ c.host.idle ≤ 100 ∧ enginesIdle c = true ∧ c.notice = false) ∧
    (let s := on (fun c => { c with state := .asleep }) up
     (s.chan 0).state = .asleep ∧ (s.chan 0).deep = false ∧ (s.chan 0).sleepTick + 1000 ≤ s.dev.tick ∧ s.pw.refclk = true ∧
       (s.chan 0).outSources = [] ∧ (s.chan 0).outCrumbs = []) ∧
    ({ up with pw := { up.pw with crystal := true } } : State).pw.crystal = true ∧ (up.pw.main = true ∧ up.pw.refclk = true) ∧
    ({ up with pw := { up.pw with refclk := false } } : State).pw.refclk = false := by decide +kernel

theorem test_cell_witness :
    State.reset.tp.cell = false ∧ State.reset.pw.main = true ∧ (up.pw.main = true ∧ up.tp.cell = true ∧ up.tp.cellTick + 1000 ≤ up.dev.tick) ∧
    (let s : State := { up with pw := { up.pw with main := false } }
     s.pw.main = false ∧ s.tp.cell = true) := by decide +kernel

theorem test_mailbox_witness :
    (let s : State := { up with fn0 := { up.fn0 with reqLen := 4096, win := { up.fn0.win with lock := true, limit := { up.fn0.win.limit with value := 0xFFFF } } } }
     let f := s.fn0
     f.phase = .idle ∧ f.faulted = false ∧ 16 ≤ f.reqLen ∧ f.reqLen ≤ 4096 ∧ f.win.lock = true ∧ f.win.holds f.req.value.toNat 4096 = true ∧
       f.win.holds f.rsp.value.toNat 4096 = true) ∧
    (let s : State := { up with fn0 := { up.fn0 with phase := .waiting, reqLen := 16 } }
     let b := padTo 16 ([1] : Bytes)
     s.fn0.phase = .waiting ∧ s.fn0.current = none ∧ mgmtRuns s = true ∧ s.mg.romOnly = false ∧ fieldLE b 6 2 = s.fn0.reqLen - 16 ∧
       slice b 12 4 = zeros 4 ∧ fieldLE b 0 2 ∈ mailboxCommands) := by decide +kernel

theorem test_management_witness :
    (let s : State := { up with dev := { up.dev with mgmtUp := false } }
     s.pw.main = true ∧ s.pw.mgHeld = false ∧ s.pw.link = true ∧ s.dev.mgmtUp = false ∧ (bootSlot true s.mg.mgSvn false s.mg.fw s.mg.fw.order).1.isSome = true) ∧
    (let s : State := { up with dev := { up.dev with mgmtUp := false }, mg := { up.mg with fw := { a := none } } }
     (bootSlot true s.mg.mgSvn false s.mg.fw s.mg.fw.order).1 = none ∧ (s.cards.sd.objects.find? fun o => o.1 == 1) = none) ∧
    (fieldLE ([5, 2] : Bytes) 0 1 ≤ 127 ∧ fieldLE ([5, 2] : Bytes) 1 1 ≤ 2) ∧
    ({ up with mg := { up.mg with blow := some 15 } } : State).mg.blow = some 15 := by decide +kernel

theorem test_advance_witness :
    let k : KeySlot := { material := [] }
    let s : State := say { up with
      dev := { up.dev with lifecycle := 3, memberValid := true, enabled := 4 }
      chans := Vector.replicate 16 { up.chan 0 with keys := { (up.chan 0).keys with frk := some [], slots := [(0, k), (1, k), (2, k), (3, k)] } } }
      0x0040 [7, 0, 0, 0]
    mgmtRuns s = true ∧ s.mg.blow = none ∧ fieldLE ([7, 0, 0, 0] : Bytes) 0 1 = 7 ∧ advanceAllowed 7 [] s = true := by decide +kernel

/-- An update session of channel 0 in state `st`, its port open. -/
def updating (st : Nat) (n : Nat) (d : Bytes) : State :=
  on (fun c => { c with updatePort := true, fw := { c.fw with other := .trial }, bootTick := 0, state := if st = 3 then .recovery else .ready })
    { up with mg := { up.mg with update := { state := st, component := 0x10, mask := 1, length := n, data := d } } }

theorem test_update_witness :
    (up.chan 0).state = .ready ∧ bit up.tp.tampered 0 = false ∧ (updating 0 0 []).mg.romOnly = false ∧
    (let p : Bytes := [0x10, 0, 1, 0, 0x60, 1, 0, 0]
     fieldLE p 0 2 = 0x10 ∧ fieldLE p 2 2 ≠ 0 ∧ 352 ≤ fieldLE p 4 4 ∧ fieldLE p 4 4 ≤ 524288 ∧ portsOpen 0x10 (fieldLE p 2 2) (updating 0 0 []) = true ∧
       portsWait 0x10 (fieldLE p 2 2) (updating 0 0 []) = false ∧ portsOpen 0x10 (fieldLE p 2 2) up = false) ∧
    portsWait 0x10 1 (on (fun c => { c with nv := { c.nv with susp := some ⟨3, true, false, 0x80000, 0, [], false⟩ } }) (updating 1 400 [1])) = true ∧
    (let s := updating 1 400 [1]
     let p : Bytes := [1] ++ zeros 16
     let u := s.mg.update
     u.state = 1 ∧ fieldLE p 0 4 = u.data.length ∧ p.drop 16 ≠ [] ∧ u.data.length + (p.drop 16).length ≤ u.length ∧
       portsOpen u.component u.mask s = true ∧ portsWait u.component u.mask s = false) ∧
    (let s := updating 1 1 [1]
     s.mg.update.data.length = s.mg.update.length ∧ portsOpen 0x10 1 s = true) ∧
    svnHeld (updating 4 0 []) = false ∧
    (let s := updating 3 0 []
     channelTrialFailed s.dev (s.chan 0) = true ∧ (s.chan 0).state ≠ .fault ∧ bit s.mg.update.mask 0 = true) := by decide +kernel

theorem test_sensor_witness :
    (let p : Bytes := [35, 0, 0, 0, 0, 0, 0, 0, 1, 0, 0, 0]
     fieldLE p 0 1 < 36 ∧ fieldInt p 4 < fieldInt p 8) ∧ (∃ x, up.mg.sensors[35]? = some x ∧ (x.threshold 35).1 < (x.threshold 35).2) := by
  refine ⟨by decide +kernel, {}, by decide +kernel⟩

theorem test_tamper_witness :
    (up.pw.main = true ∧ up.pw.fallen = false ∧ 15 < up.dev.enabled ∧ bit up.tp.live 15 = false ∧ bit up.tp.policy 15 = false ∧
      up.tp.clearing = 0 ∧ up.cards.session = none ∧ up.mg.update.state = 0 ∧ up.tp.missed = []) ∧
    bit ({ up with tp := { up.tp with live := 4 } } : State).tp.live 2 = true ∧
    (let s : State := { up with pw := { up.pw with main := false }, tp := { up.tp with battery := true } }
     s.pw.main = false ∧ s.tp.battery = true) ∧
    fieldLE ([0] : Bytes) 0 1 = 0 ∧ fieldLE ([1] : Bytes) 0 1 = 1 ∧ fieldLE ([2] : Bytes) 0 1 ≤ 2 := by decide +kernel

/-! ### Safety, recorder and sideband -/

theorem test_safety_witness :
    ((1 : Byte).toNat ≥ 1 ∧ (0x0B : Byte).toNat ≤ 0x0B ∧ (up.chan 0).state = .ready) ∧
    (let s := on (fun c => { c with state := .fault }) up
     (s.chan 0).state = .fault ∧ (s.chan 0).sf.latched = false ∧ (s.chan 0).sf.faultTick + 10 ≤ s.dev.tick) ∧
    ((2 : Fin 3) ≠ 0 ∧ up.pw.main = true ∧ up.dev.deviceSafe = false) ∧ (0x50B : Word).toNat % 256 = 0x0B ∧
    (let s := on (fun c => { c with sf := { c.sf with wdogEn := true } }) up
     (s.chan 0).sf.wdogEn = true ∧ (s.chan 0).sf.wdogTick + 20 ≤ s.dev.tick ∧ (s.chan 0).state = .ready) := by decide +kernel

theorem test_selftest_witness :
    (let s : State := { up with dev := { up.dev with tick := 40000000 } }
     (∀ a : Ch, (s.chan a).notice = false ∧ (s.chan a).state ≠ .bist) ∧ bistDue 0 s.dev (s.chan 0).sf ≤ s.dev.tick ∧ (s.chan 0).state = .ready) ∧
    (let s := on (fun c => { c with notice := true }) up
     (s.chan 0).notice = true ∧ (s.chan 0).sf.noticeTick + 500 ≤ s.dev.tick ∧ (s.chan 0).state = .ready ∧ (s.chan 0).pke.running = none ∧
       (s.chan 0).pke.queue = []) ∧
    ((on (fun c => { c with pke := { c.pke with queue := [(0, 0)] } }) up).chan 0).pke.queue ≠ [] ∧
    bit ({ up with mg := { up.mg with incompat := 1 } } : State).mg.incompat 0 = true ∧ bit up.mg.incompat 0 = false ∧
    (let s := on (fun c => { c with state := .bist }) up
     (s.chan 0).state = .bist) ∧
    up.dev.deviceSafe = false ∧ (∀ ch : Ch, (up.chan ch).sf.mbUnrepairable = false) ∧ (bit (fieldLE ([1, 0] : Bytes) 0 2) 0 = true) ∧
    (let p : Bytes := [0, 0, 0, 0, 1, 0, 0, 0]
     fieldLE p 0 1 = 0 ∧ bistDue 0 up.dev (up.chan 0).sf + 1000 * fieldLE p 4 4 ≤ (up.chan 0).sf.bistTick + 28800000 - 540) := by decide +kernel

/-- A log in which crumb `x` waits. -/
def waiting (x : Crumb) (f : Recorder → Recorder) : State := { up with log := f { up.log with inbox := [x] } }

theorem test_crumb_witness :
    (let c := up.chan 0
     c.port.held.length < 32 ∧ bit up.mg.incompat 0 = false) ∧
    (let s := on (fun c => { c with port := { c.port with held := List.replicate 32 ⟨1, 0, 0, 0, 0, 0, 0, 0⟩ } }) up
     32 ≤ (s.chan 0).port.held.length) ∧
    (let x : Crumb := ⟨0x1000, 0, 0, 0, 0, 0, 0, 0⟩
     let s := waiting x id
     mgmtServes s = true ∧ s.log.inbox = [x] ∧ ∃ k, classBucket s (crumbClass x.code) = some k ∧ 0 < k.tokens ∧ 5 < crumbClass x.code ∧
       s.log.rolling.frozen = false ∧ s.log.rolling.draining = false ∧ s.log.rolling.pending.length < 3) ∧
    (let x : Crumb := ⟨0x0401, 0, 0, 0, 0, 0, 0, 0⟩
     let s := waiting x fun l => { l with rolling := { l.rolling with frozen := true } }
     ∃ k, classBucket s (crumbClass x.code) = some k ∧ 0 < k.tokens ∧ crumbClass x.code ≤ 5 ∧ s.log.rolling.frozen = true ∧
       s.log.rolling.held.length < 64 ∧ s.log.pinned.frozen = false ∧ s.log.pinned.draining = false ∧ s.log.pinned.full = false) ∧
    (let x : Crumb := ⟨0x0401, 0, 0, 0, 0, 0, 0, 0⟩
     ∃ k, classBucket (waiting x fun l => { l with classes := l.classes.map fun p => (p.1, { p.2 with tokens := 0 }) }) (crumbClass x.code) = some k ∧
       k.tokens = 0) ∧
    (let s := waiting ⟨1, 0, 0, 0, 0, 0, 0, 0⟩ fun l => { l with rolling := { l.rolling with pending := [zeros 32] } }
     s.log.rolling.stale s.dev.tick = true ∧ s.log.rolling.frozen = false ∧ s.log.pinned.pending = []) :=
  ⟨by decide +kernel, by decide +kernel, ⟨by decide +kernel, rfl, _, rfl, by decide +kernel⟩, ⟨_, rfl, by decide +kernel⟩, ⟨_, rfl, by decide +kernel⟩,
    by decide +kernel⟩

theorem test_recorder_witness :
    ((2 : Word).getLsbD 2 = false ∧ (up.logOf ((2 : Word).getLsbD 0)).draining = false) ∧
    (let s : State := { up with log := { up.log with rolling := { up.log.rolling with frozen := true } } }
     (4 : Word).getLsbD 1 = false ∧ (s.logOf ((4 : Word).getLsbD 0)).frozen = true ∧ s.log.rolling.freezeTick + 10000 ≤ s.dev.tick) ∧
    ((9 : Word).getLsbD 1 = false ∧ (9 : Word).getLsbD 2 = false) ∧
    (let s : State := { up with log := { up.log with cursor := 5, rolling := { up.log.rolling with oldest := 0, next := 8 } } }
     (s.logOf s.log.logSel).oldest ≤ s.log.cursor ∧ s.log.cursor < (s.logOf s.log.logSel).next) ∧
    (let s : State := { up with log := { up.log with rolling := { up.log.rolling with oldest := 8, next := 8 } } }
     (3 : Fin 8) ≠ 7 ∧ s.log.cursor < (s.logOf s.log.logSel).oldest) ∧
    ((classBucket up 4).isSome = true) ∧
    (let p : Bytes := [4, 0, 0, 0, 255, 0, 0, 0, 44, 1, 0, 0]
     let cls := fieldLE p 0 1; let cap := fieldLE p 4 4; let per := fieldLE p 8 4
     (classBucket up cls).isSome = true ∧ 1 ≤ cap ∧ cap ≤ 255 ∧ 1 ≤ per ∧ per ≤ 86400 ∧ (cls ≤ 5 → per ≤ 300) ∧
       periodsOk (per :: (up.log.classes.filter fun x => x.1 != cls).map (·.2.period)) = true) ∧
    (let p : Bytes := [1, 0, 0, 0, 0, 0, 0, 0, 127, 0]
     fieldLE p 0 1 ≤ 1 ∧ 1 ≤ fieldLE p 8 2 ∧ fieldLE p 8 2 ≤ 127) := by decide +kernel

/-- Management serves a request on the sideband. -/
def asking (s : State) (m : SideMsg) : State := onSide (fun d => { d with requests := [m] }) s

theorem test_asked (s : State) (m : SideMsg) (c : SideCmd) (h : mgmtServes s = true) (r : m.cmd = some c) : Asked (asking s m) m c :=
  ⟨h, r, [], rfl⟩

/-- Requests of the control and of the PLDM commands. -/
def control (c : Byte) (p : Bytes) : SideMsg := { vdm := false, addr := 0x10, eid := 9, tag := 8, seq := 0, bytes := [0, 0x80, c] ++ p }
def pldm (t c : Byte) (p : Bytes) : SideMsg := { vdm := false, addr := 0x10, eid := 9, tag := 8, seq := 0, bytes := [1, 0x80, t, c] ++ p }

theorem test_mctp_witness :
    (∀ c ∈ [(1 : Byte), 2, 3, 4, 5], (control c [255]).cmd = some (.control c.toNat)) ∧
    (let p := (control 1 [1, 254]).payload
     fieldLE p 0 1 % 4 < 2 ∧ 1 ≤ fieldLE p 1 1 ∧ fieldLE p 1 1 < 255) ∧
    fieldLE (control 4 [255]).payload 0 1 = 255 ∧ fieldLE (control 4 [1]).payload 0 1 = 1 ∧
    (∀ n ∈ [0, 2], let s := onSide (fun d => { d with out := [control 1 []], retries := n }) up
      (s.mg.side.out.reverse.find? fun m => !m.vdm) = some (control 1 []) ∧ s.mg.side.retries = n) ∧
    (let p : Bytes := [1, 0, 9, 0xC0, 0]
     fieldLE p 0 1 % 16 = 1 ∧ fieldLE p 1 1 = up.mg.side.eid ∧ 5 ≤ p.length ∧ p.length ≤ 68 ∧ bit (fieldLE p 3 1) 7 = true ∧
       bit (fieldLE p 3 1) 6 = true) := by decide +kernel

theorem test_pldm_kinds :
    (∀ c ∈ [(1 : Byte), 2, 3, 4, 5], (pldm 0 c []).cmd = some (.pldm 0 c.toNat)) ∧
    (∀ c ∈ [(0x11 : Byte), 0x21, 0x50, 0x51], (pldm 2 c []).cmd = some (.pldm 2 c.toNat)) ∧
    (∀ c ∈ [(1 : Byte), 2, 0x10, 0x13, 0x14], (pldm 5 c []).cmd = some (.pldm 5 c.toNat)) ∧
    ∀ c ∈ [(0x1A : Byte), 0x1B, 0x1C, 0x1D], (pldm 5 c []).cmd = some (.pldm 5 c.toNat) := by decide +kernel

theorem test_pldm_witness :
    (let p := (pldm 0 1 [254]).payload
     1 ≤ fieldLE p 0 1 ∧ fieldLE p 0 1 < 255) ∧
    fieldLE (pldm 0 3 [0, 0, 0, 0, 1, 5]).payload 5 1 ∈ pldmTypes ∧ fieldLE (pldm 0 5 [2]).payload 0 1 ∈ pldmTypes ∧
    (let p := (pldm 2 0x11 [36, 0]).payload
     1 ≤ fieldLE p 0 2 ∧ (up.mg.sensors[fieldLE p 0 2 - 1]?).isSome = true) ∧
    (up.mg.update.pldm = false ∧ up.mg.update.state = 0 ∧ 256 ≤ fieldLE (pldm 5 0x10 [0, 1, 0, 0]).payload 0 4) ∧
    fieldLE (pldm 5 0x13 [5]).payload 0 1 = 5 ∧
    (let p := (pldm 5 0x14 [0, 0, 1, 0, 0, 0, 0, 0, 0, 0x60, 1, 0, 0]).payload
     fieldLE p 2 2 = 1 ∧ 352 ≤ fieldLE p 9 4 ∧ fieldLE p 9 4 ≤ 262144 ∧ up.mg.romOnly = false ∧ up.mgu.nv.occupied = false) ∧
    portsWait 1 0 ({ up with mgu := { up.mgu with nv := { up.mgu.nv with susp := some ⟨3, true, false, 0x80000, 0, [], false⟩ } } } : State) = true ∧
    (let u : UpdateSession := { state := 1, pldm := true, component := 1, length := 4, maxTransfer := 3, pldmState := 3 }
     ([1, 2, 3] : Bytes).length = min u.maxTransfer (u.length - u.data.length) ∧ u.data.length + 3 ≠ u.length) := by decide +kernel

/-! ### Tag and cards -/

/-- The tag in its field, in state `st`, with handle 0x1234. -/
def near (st : TagState) (f : Tag → Tag) (s : State) : State := { s with nf := f { s.nf with field := true, st := st, handle := 0x1234 } }

/-- A frame of command `c` with body `b`, and one with the tag's handle before it. -/
def frame1 (c : Byte) (b : Bytes) : Bytes := withCrc ([c] ++ b)
def frame2 (c : Byte) (b : Bytes) : Bytes := frame1 c ([0x34, 0x12] ++ b)

theorem test_tag_witness :
    State.reset.nf.field = false ∧ (near .ready id up).nf.field = true ∧ Hears (near .idle id up) 0x01 (frame1 1 [0x12]) [0x12] ∧
    fieldLE ([0x12] : Bytes) 0 1 % 16 ≤ 8 ∧ fieldLE ([0x12] : Bytes) 0 1 < 32 ∧ (near .idle id up).nf.held = false ∧
    (let s := near .ready (fun t => { t with slot := 3 }) up
     Hears s 0x02 (frame1 2 []) [] ∧ s.nf.st = .ready ∧ s.nf.slot ≠ 0) ∧
    (let s := near .ready (fun t => { t with replied := true }) up
     Hears s 0x03 (frame1 3 [0x34, 0x12]) [0x34, 0x12] ∧ s.nf.replied = true ∧ fieldLE ([0x34, 0x12] : Bytes) 0 2 = s.nf.handle ∧
       Hears s 0x04 (frame1 4 []) []) ∧
    (near .active (fun t => { t with reply := some ([], 5) }) up).nf.reply = some ([], 5) ∧
    (let s : State := { up with pw := { up.pw with main := false }, tp := { up.tp with battery := true } }
     s.pw.main = false ∧ s.tp.battery = true) := by decide +kernel

/-- A frame with the tag's handle, in a form that is computed. -/
theorem test_hears_own (s : State) (code : Nat) (f b : Bytes)
    (h : s.nf.held = true ∧ Hears s code f (leBytes 2 s.nf.handle ++ b) ∧ fieldLE (leBytes 2 s.nf.handle ++ b) 0 2 = s.nf.handle ∧
      2 ≤ (leBytes 2 s.nf.handle ++ b).length ∧ b = (leBytes 2 s.nf.handle ++ b).drop 2) : HearsOwn s code f b :=
  ⟨h.1, _, h.2⟩

theorem test_tag_own_witness :
    (∀ c ∈ [(0x05 : Byte), 0x06, 0x40], HearsOwn (near .active id up) c.toNat (frame2 c []) []) ∧
    HearsOwn (near .opened id up) 0x41 (frame2 0x41 [0, 0, 0, 0]) [0, 0, 0, 0] ∧
    HearsOwn (near .opened id up) 0x42 (frame2 0x42 [2, 0, 2]) [2, 0, 2] ∧
    ((List.range (fieldLE ([2, 0, 2] : Bytes) 2 1)).map fun j => fieldLE ([2, 0, 2] : Bytes) 0 2 + j).all (dtAllowed .opened) = true :=
  ⟨fun c h => ⟨by decide +kernel, [0x34, 0x12], by revert c; decide +kernel, by decide +kernel⟩, test_hears_own _ _ _ _ (by decide +kernel), test_hears_own _ _ _ _ (by decide +kernel), by decide +kernel⟩

/-- The tag with its keys, after AUTH_START. -/
def keyed (s : State) : State :=
  near .active (fun t => { t with wrapped := true, kt := some (zeros 16), kn := some (zeros 16), count := { t.count with nonce := 256 }
                                  auth := some (zeros 16, zeros 16) })
    { s with tp := { s.tp with battery := true }, mg := { s.mg with kek := some (zeros 32) } }

theorem test_auth_witness :
    HearsOwn (keyed up) 0x10 (frame2 0x10 (zeros 16)) (zeros 16) ∧ HearsOwn (keyed up) 0x11 (frame2 0x11 (zeros 8)) (zeros 8) ∧ keyOk (keyed up) = true ∧
    (keyed up).nf.issued < (keyed up).nf.count.nonce ∧ (keyed up).nf.auth = some (zeros 16, zeros 16) :=
  ⟨test_hears_own _ _ _ _ (by decide +kernel),
    test_hears_own _ _ _ _ (by decide +kernel), by decide +kernel⟩

theorem test_nf_mailbox_witness :
    (fieldLE ([0, 28] : Bytes) 0 1 + fieldLE ([0, 28] : Bytes) 1 1 ≤ 28) ∧ fieldLE ([0, 0, 0, 4] : Bytes) 2 2 ≤ 1024 ∧ mgmtRuns up = true := by
  decide +kernel

/-- A session in progress, and its frame of an inner command. -/
def key : TagSession := { kenc := zeros 16, kmac := ones 16, ctr := 7 }
def secure (inner : Byte) (p : Bytes) : Bytes :=
  let ct := aesCtr key.kenc (secureBlock 0 7) ([inner] ++ p)
  let b := leBytes 4 7 ++ ct
  b ++ (cmac key.kmac ([0, 0x34, 0x12] ++ b)).take 8

/-- READ_LOG to END_SESSION reach the tag as frames of its session. -/
theorem test_secure_witness : let s := near .active (fun t => { t with session := some key, kt := some (zeros 16) }) up
    (∀ c ∈ [(0x21 : Byte), 0x22, 0x23, 0x24, 0x25, 0x26, 0x27], HearsSecure s (frame2 0x20 (secure c [1, 2])) key c.toNat [1, 2]) ∧
    (let b := leBytes 4 6 ++ zeros 9
     HearsOwn s 0x20 (frame2 0x20 b) b ∧ 13 ≤ b.length ∧ fieldLE b 0 4 ≠ key.ctr) := by
  refine ⟨?_, test_hears_own _ _ _ _ (by decide +kernel), by decide +kernel⟩
  intro c h
  have w : HearsOwn (near .active (fun t => { t with session := some key, kt := some (zeros 16) }) up) 0x20 (frame2 0x20 (secure c [1, 2]))
      (secure c [1, 2]) := test_hears_own _ _ _ _ (by revert c; decide +kernel)
  exact ⟨secure c [1, 2], w, by clear w; revert c; decide +kernel⟩

theorem test_sd_witness :
    up.cards.sd.present = false ∧ up.pw.main = true ∧ up.cards.sc.present = false ∧
    (let d : SdHost := { present := true, busy := true, v18 := true, writing := some (3, []) }
     ({ up with cards := { up.cards with sd := d } } : State).cards.sd.busy = true ∧ d.v18 = true ∧ d.writing = some (3, [])) ∧
    (let d : SdHost := { present := true, busy := true, mode := 4 }
     d.busy = true ∧ 4 ≤ d.mode) ∧
    (let x : SdSeen := { s18a := true, uhs := 2, window := some 3 }
     x.s18a = true ∧ x.window.isSome = true) ∧
    (let x : SdSeen := { s18a := true, uhs := 2, window := none }
     x.s18a = true ∧ x.window = none ∧ 2 ≤ x.uhs.val) ∧
    (let s := onSd (fun d => { d with present := true }) up
     s.cards.sd.present = true ∧ s.cards.sd.busy = false) := by decide +kernel

theorem test_sc_witness :
    (∀ n ∈ [1, 2], let c := scActivate n up.cards.sc; c.st = .activating ∧ c.cls = n) ∧
    (let c : ScSlot := { present := true, st := .pps, fi := 9, di := 4 }
     c.st = .pps ∧ ([0xFF, 0x11, 0x94, 0x7A] : Bytes) = ppsBytes c.fi c.di) ∧
    (let c : ScSlot := { present := true, st := .exchanging, retries := 2 }
     c.st = .exchanging ∧ c.retries < 3 ∧ t1BlockOk c.edcCrc [0, 0, 2, 0x90, 0, 0x92] = true ∧
       bit (fieldLE ([0, 0, 2, 0x90, 0, 0x92] : Bytes) 1 1) 7 = false) ∧
    (let c : ScSlot := { present := true, st := .exchanging, retries := 3 }
     c.st = .exchanging ∧ 3 ≤ c.retries) := by decide +kernel

/-- A part that can hold a ceremony: DIK, key-encryption key, SD card, smart card ready. -/
def holding (l : Nat) (x : Option Ceremony) : State :=
  { up with
    dev := { up.dev with lifecycle := l }
    mg := { up.mg with dik := some [], kek := some [], fbk := some (zeros 32) }
    cards := { up.cards with session := x, sd := { up.cards.sd with present := true }, sc := { up.cards.sc with present := true, st := .ready } } }

theorem test_ceremony_witness :
    (let p : Bytes := [1, 0, 5, 0, 2, 3, 0]
     let s := holding 3 none
     fieldLE p 0 1 = 1 ∧ fieldLE p 2 2 < 4096 ∧ 1 ≤ fieldLE p 4 1 ∧ fieldLE p 4 1 ≤ fieldLE p 5 1 ∧ fieldLE p 5 1 ≤ 16 ∧ fieldLE p 6 1 < 16 ∧
       s.cards.session = none ∧ s.dev.lifecycle = 3 ∧ s.mg.dik.isSome = true ∧ s.mg.kek.isSome = true ∧ s.cards.sd.present = true) ∧
    (let x : Ceremony := { kind := 1, n := 3, tick := 0, cards := [(0, [7])] }
     let s := holding 3 (some x)
     let a : CardAnswer := { pub := [8] }
     pinOk [6, 0x30, 0x31, 0x32, 0x33, 0x34, 0x35] = true ∧ s.cards.sc.st = .ready ∧ a.failed = false ∧ a.pinOk = true ∧ a.refused = false ∧ x.kind = 1 ∧
       x.cards.length < x.n ∧ ∀ y ∈ x.cards, y.2 ≠ a.pub) ∧
    (let x : Ceremony := { kind := 1, tick := 0 }
     x.tick + 3600000 ≤ ({ holding 3 (some x) with dev := { up.dev with tick := 3600000 } } : State).dev.tick) ∧
    16 < ([6, 0x30, 0x31, 0x32, 0x33, 0x34, 0x35] ++ zeros 10 : Bytes).length ∧
    (let s := holding 7 none
     s.cards.sd.busy = false ∧ s.mg.fbk = some (zeros 32) ∧ s.cards.sd.objects.length < 8) ∧ fieldLE ([0x14] : Bytes) 0 1 = 0x14 := by decide +kernel

/-- A key package of one item under an FPK that one share gives, and the ceremony that opens it. -/
def pack : Bytes := makePackage (zeros 32) (zeros 12) (zeros 8) 1 [(0x08, zeros 8)]
def joining : State :=
  let x : Ceremony := { kind := 2, tick := 0, shares := [(0, zeros 32)], pkg := pack }
  { holding 7 (some x) with chans := Vector.replicate 16 { up.chan 0 with kek := some [] } }

/-- The clause of CEREMONY_FINISH that joins a fleet is met, and the channels take the package's item. -/
theorem test_join_witness :
    openIntake none [] = some [] ∧ openPackage (sharedFpk [(0, zeros 32)]) pack = some (zeros 8, 1, [(0x08, zeros 8)]) ∧
    packageAllowed (zeros 8) 1 (sha256 pack) joining = true ∧
    (installOn 1 (sha256 pack) [(0x08, zeros 8)] (joining.chan 0)).toOption.map (·.keys.heTitle) = some (some (zeros 8)) := by decide +kernel

/-! ### Rings and jobs -/

/-- Channel 0 with its window locked over all addresses, ring pair 0 enabled, and the journal entries given. -/
def posted (es : List JEntry) (c : Channel) : Channel :=
  let w : Window := { limit := { value := 0xFFFFFFFFFFFFFFFF }, lock := true }
  { c with
    host := { c.host with en := true, win := w, pairs := c.host.pairs.set 0 { (c.host.pairs.get 0) with en := true, sqTail := 2, cqTail := 1, irqEn := true } }
    jr := { c.jr with entries := es } }
def posting (es : List JEntry) (f : Channel → Channel) : State := on (fun c => f (posted es c)) up

theorem test_registers_witness :
    up.dev.has 0 = true ∧ (up.chan 0).host.win.lock = false ∧ ((up.chan 0).host.win.base.value.toNat ≤ (up.chan 0).host.win.limit.value.toNat ∧
      ∀ o ∈ otherWindows up 1, o.lock = true → o.overlaps (up.chan 0).host.win = false) ∧ ((posting [] id).chan 0).host.win.lock = true ∧
    (((posting [] id).chan 0).host.pairs.get 0).en = true ∧ up.pw.pcieUp = true ∧ bits (0x400 : Word).toNat 12 8 = 4 ∧
    bits (0x300 : Word).toNat 12 8 < 4 := by decide +kernel

theorem test_enable_witness :
    let s := posting [] fun c => { c with host := { c.host with pairs := c.host.pairs.set 0 {} } }
    let p := (s.chan 0).host.pairs.get 0
    p.en = false ∧ 6 ≤ p.sqLog2 ∧ p.sqLog2 ≤ 16 ∧ p.sqBase.value.toNat % 4096 = 0 ∧ p.cqBase.value.toNat % 4096 = 0 ∧
      (s.chan 0).host.win.holds p.sqBase.value.toNat (64 * p.sqSize) = true ∧ (s.chan 0).host.win.holds p.cqBase.value.toNat (32 * p.cqSize) = true := by
  decide +kernel

theorem test_doorbell_witness :
    (let s := posting [] id
     let p := (s.chan 0).host.pairs.get 0
     let unread := (p.sqTail + p.sqSize - p.sqHead) % p.sqSize
     (s.chan 0).host.faulted = false ∧ p.en = true ∧ (∀ v ∈ [2, 63], unread ≤ ((BitVec.ofNat 32 v).toNat % 65536 + p.sqSize - p.sqHead) % p.sqSize) ∧
       (∀ v ∈ [1, 64], p.sqSize ≤ (BitVec.ofNat 32 v).toNat % 65536 ∨ ((BitVec.ofNat 32 v).toNat % 65536 + p.sqSize - p.sqHead) % p.sqSize < unread) ∧ unread + 1 < p.sqSize ∧
       (p.inline.filter fun e => e.1 != p.sqTail).length < 8 ∧ p.cqTail = 1 ∧ p.irqEn = true) ∧
    (let s := posting [] fun c => { c with host := { c.host with pairs := c.host.pairs.set 0 { (c.host.pairs.get 0) with sqTail := 63, coTime := 1, counted := 1 } } }
     let p := (s.chan 0).host.pairs.get 0
     p.sqSize ≤ (p.sqTail + p.sqSize - p.sqHead) % p.sqSize + 1 ∧ p.coTime ≠ 0 ∧ 0 < p.counted ∧ (s.chan 0).host.msix[p.vec]? = some {} ∧ ({} : MsixEntry).mask = true) ∧
    (let s := posting [] fun c => { c with host := { c.host with fault := 1 } }
     (s.chan 0).host.faulted = true) := by decide +kernel

/-- A job at index 5, with an effect computed from the state `c`. -/
def entry (op : Nat) : JEntry := { jidx := 5, sub := { opcode := op }, queue := 0, inline := false, serial := 1 }
def effect (c : Channel) : Effect := { basisShard := c.shard, basisGov := c.gov, shard := c.shard, gov := c.gov, cpl := {}, writes := [] }

theorem test_claim_witness :
    (let s := posting [] id
     let c := s.chan 0
     c.host.en = true ∧ claimsIn c.state = true ∧ canClaim s.dev c = true ∧ claimable c 0 (some (zeros 64)) = true ∧
       headEntry (c.pairOf 0) (some (zeros 64)) = some (zeros 64, false) ∧ ((c.pairOf 0).seqValid = false)) ∧
    (let s := posting [] fun c => { c with host := { c.host with pairs := c.host.pairs.set 0 { (c.host.pairs.get 0) with seqValid := true } } }
     let p := (s.chan 0).pairOf 0
     p.seqValid = true ∧ claimable (s.chan 0) 0 (some (zeros 64)) = true ∧ (0 + 65536 - p.seqLast) % 65536 = 0) ∧ (up.chan 0).host.en = false ∧
    (let e : JEntry := { entry 0x0F30 with sub := { opcode := 0x0F30, inLen := 100 } }
     Holds ((posting [e] id).chan 0) e ∧ e.state = .claimed ∧ e.writes = [] ∧ e.ready = none ∧ e.recheck = false ∧ 32 ∈ e.sub.readsNeeded) := by
  decide +kernel

theorem test_commit_witness :
    (let e : JEntry := { entry 0x0F41 with ready := some (effect (up.chan 0)) }
     let c := (posting [e] id).chan 0
     Holds c e ∧ e.ready = some (effect (up.chan 0)) ∧ sameBasis (effect (up.chan 0)) c = true ∧ notesKept c = false ∧ imagePending c 5 = false ∧
       advancesIn e.sub.opcode = false ∧ stageFind c.jr.entries (stageUnits (effect (up.chan 0)).writes) = some 0 ∧
       2 ≤ (freeSlots c.shard.slots).length ∧ ∀ x ∈ c.jr.entries, x.state ≠ .committing) ∧
    (let x := effect { up.chan 0 with shard := { (up.chan 0).shard with epoch := 9 } }
     sameBasis x ((posting [{ entry 0x0F41 with ready := some x }] id).chan 0) = false) ∧
    (let e : JEntry := { entry 0x0F41 with ready := some (effect (up.chan 0)) }
     let c := (posting [e, { entry 0x0F41 with jidx := 6, state := .committing }] id).chan 0
     Holds c e ∧ (∃ x ∈ c.jr.entries, x.state = .committing) ∧ sameBasis (effect (up.chan 0)) c = true) ∧
    (∀ u ∈ [0, 2000], let x : Effect := { effect (up.chan 0) with units := u }
     let e : JEntry := { entry 0x0230 with state := .committing, ready := some x }
     let c := (posting [e] id).chan 0
     c.jr.entries.find? (fun x => x.state == .committing) = some e ∧ Holds c e ∧ ((x.gov.take up.dev.tick x.units).isSome = (u == 0))) := by
  decide +kernel

theorem test_completion_witness :
    (let e : JEntry := { entry 0x0F41 with state := .committed, writes := [⟨.output, 5, 0, [1]⟩] }
     let s := posting [e] id
     Holds (s.chan 0) e ∧ e.state = .committed ∧ e.writes ≠ [] ∧ recheckHolds (s.chan 0) e = false ∧
       treeBehind (s.chan 0) e [⟨.output, 5, 0, [1]⟩] = false ∧ canTransmit s.dev (s.chan 0) = true) ∧
    (let w : HostWrite := ⟨.treeNode, 5, 0, [1]⟩
     let e : JEntry := { entry 0x0F41 with state := .committed, writes := [w], epoch := 8 }
     let s := posting [e, { entry 0x0F41 with jidx := 6, state := .committed, writes := [⟨.treeNode, 6, 0, [1]⟩], epoch := 7 }] id
     Holds (s.chan 0) e ∧ treeBehind (s.chan 0) e [w] = true) ∧ (up.dev.hearthUp = true ∧ State.reset.dev.hearthUp = false) ∧
    (∀ k ∈ [WKind.completion, .output], let w : HostWrite := ⟨k, 5, 0, [1]⟩
     let c := (posting [entry 0x0F41] fun c => { c with host := { c.host with sent := [w] } }).chan 0
     c.host.sent = [w] ∧ w.jidx = (entry 0x0F41).jidx ∧ Holds c (entry 0x0F41)) ∧
    (∀ h ∈ [0, 2], let e : JEntry := { entry 0x0F41 with state := .written }
     let s := posting [e] fun c => { c with host := { c.host with pairs := c.host.pairs.set 0 { (c.host.pairs.get 0) with cqHead := h } } }
     Holds (s.chan 0) e ∧ e.posted = false ∧ ((s.chan 0).pairOf 0).en = true ∧ replayBehind (s.chan 0) e = false ∧
       ((s.chan 0).pairOf 0).cqFull = (h == 2)) ∧
    (let s : State := { up with fn0 := { up.fn0 with sent := [⟨.response, 0, 0, []⟩] } }
     s.fn0.sent = [⟨.response, 0, 0, []⟩]) ∧ (([] : List JEntry).length < 4096) := by decide +kernel

/-! ### Records, keys and images -/

/-- A wrapped record of generation 0, the record it is taken for, and a channel that serves shard 0 with that record in its key cache and
in its tree. -/
def wrap : Bytes := zeros 14 ++ [1] ++ zeros 209
def held (suite flags pending : Nat) : MRec :=
  { title := zeros 8, suiteByte := suite, flags := flags, pendingId := pending, guek := zeros 32, gak := zeros 32, pendingKey := zeros 32 }
def serving (r : MRec) (c : Channel) : Channel :=
  { c with
    shard := { c.shard with assigned := true }, treeOk := true, cache := [⟨r, false, 0, 0⟩]
    tree := [(0, (boundaryOf 0 (leafOf r wrap) (zeros 256)).take 16)]
    keys := { c.keys with heTitle := some (zeros 8), mkdk := List.replicate 4 (some (zeros 32)) } }

/-- A job whose reads are in, and its check's result. -/
def asked (op flags param : Nat) (b : Bytes) : JEntry :=
  { jidx := 5, queue := 0, inline := false, serial := 1, reads := [(16, wrap), (24, zeros 256), (32, b), (56, wrap)]
    sub := { opcode := op, flags := flags, recipe := 1, inLen := b.length, outLen := 2 ^ 20, param := param } }
def checked (r : MRec) : RecCheck := ⟨r, 0, wrap, zeros 256⟩

theorem test_ok {E A : Type} (x : Except E A) (h : x.toOption.isSome = true) : ∃ v, x = .ok v := by
  cases x with
  | error e => cases h
  | ok v => exact ⟨v, rfl⟩

theorem test_ok_of {E A : Type} (x : Except E A) (v : A) (h : x.toOption = some v) : x = .ok v := by
  cases x with
  | error e => cases h
  | ok w => cases h; rfl

/-- The record checks pass in a channel that serves, whatever else it holds. -/
theorem test_checked (c : Channel) (e : JEntry) (r : MRec)
    (h : c.shard.assigned = true ∧ c.shard.gen = 0 ∧ c.shard.shard = 0 ∧ c.treeOk = true ∧ c.held = false ∧ c.pair.role ≠ .standby ∧
      c.pair.role ≠ .standbyEmpty ∧ r.meter = 0 ∧ e.sub.meter = 0 ∧ e.wrapped = wrap ∧ e.proof = zeros 256)
    (k : c.cache = [⟨r, false, 0, 0⟩]) (t : c.tree = [(0, (boundaryOf 0 (leafOf r wrap) (zeros 256)).take 16)]) :
    recordCheck c e.sub e.wrapped e.proof = .ok (checked r) := by
  obtain ⟨h0, h1, h2, h3, h4, h5, h6, h7, h8, h9, h10⟩ := h
  rw [h9, h10]
  have w : wrappedGen wrap = 0 := by decide +kernel
  have w1 : fieldLE wrap 14 1 = 1 := by decide +kernel
  have w2 : fieldLE wrap 15 1 = 0 := by decide +kernel
  have a : shardCheck c 0 = none := by simp [shardCheck, servesShard, h0, h2, h3, h4, h5, h6]
  have b : headerCheck c.shard wrap 0x01 = none := by simp [headerCheck, h1, w, w1, w2]
  have d : cacheFind c 0 = some ⟨r, false, 0, 0⟩ := by simp [cacheFind, k, h7]
  simp [recordCheck, h8, a, b, d, h7, t, treeNode, groupOf, w, checked]

/-- The channel a state of these tests holds. -/
theorem test_posting (es : List JEntry) (f : Channel → Channel) : (posting es f).chan 0 = f (posted es (up.chan 0)) := by
  simp [posting, on]

/-- A recipe of no steps, and one that finds SC, IC, the cipher text and the tag of a glo- APDU. -/
def guards (form certLen : Nat) (steps : List Bytes) : Bytes :=
  [0x54, 0x52, 0x43, 0x50, 1, 0, 1, 0, 1, 0, 0, 0] ++ leBytes 2 steps.length ++ leBytes 2 steps.length ++ leBytes 2 steps.length ++
    [0x1F, 7, byte form, 0, 1, 0, 0xFF, 0xFF] ++ leBytes 2 certLen ++ [0xE0, 1, 0, 0] ++ zeros 32 ++ steps.flatten
def loaded (b : Bytes) (c : Channel) : Channel := { c with recipes := { loaded := [{ id := 1, version := 1, bytes := b, digest := [] }] } }
def findSteps : List Bytes := [[5, 0, 2, 0, 1, 0, 0, 0] ++ zeros 8, [6, 0, 3, 0, 4, 0, 0, 0] ++ zeros 8, [7, 0, 7, 0, 0, 0, 12, 0] ++ zeros 8,
  [8, 1, 12, 0, 12, 0, 0, 0] ++ zeros 8]

/-- An APDU protected under a GUEK of zeros with counter 5. -/
def apdu : Bytes := [0xC8, 19] ++ securedContent 0x30 5 (protectBody (zeros 16) (zeros 16) (zeros 8) 5 0x30 [0xC4, 1])

theorem test_unprotect_witness :
    let e := asked 0x0101 0 0 apdu
    let s := posting [e] fun c => loaded (guards 0 0 findSteps) (serving (held 0 4 0xFF) c)
    let r := Recipe.ofBytes (guards 0 0 findSteps)
    let c := seenBy r.usesEngine s 0 e
    jobRecipe (s.chan 0) e = some r ∧ paramReserved e.sub (if r.keysel = 1 then [60, 61] else []) = none ∧ MayRun s 0 e 0x0101 ∧
      (held 0 4 0xFF).broadcast = false ∧ inboundKeys c e r (held 0 4 0xFF) = none ∧ apdu = (splitCert e r).1 ∧
      EnginesOpen r.usesEngine e (s.chan 0) ∧ Checked s 0 e (checked (held 0 4 0xFF)) := by
  refine ⟨by decide +kernel, by decide +kernel, by decide +kernel, by decide +kernel, by decide +kernel, by decide +kernel, by decide +kernel, ?_⟩
  rw [Checked, test_posting]
  exact test_checked _ _ _ (by decide +kernel) rfl rfl

/-- A channel all of whose cipher contexts are held, and one whose BIST notice keeps the public-key engine closed. -/
def busyCipher (c : Channel) : Channel := { c with ce := { c.ce with cxs := Vector.replicate 8 { st := .held } } }

theorem test_engine_waits_witness :
    (∀ op ∈ [0x0201, 0x0202, 0x0230, 0x0401, 0x0101], let e := asked op 0 0 apdu
      let s := posting [e] fun c => busyCipher (loaded (guards 0 0 findSteps) c)
      MayRun s 0 e op ∧ (∀ x ∈ (s.chan 0).ce.cxs.toList, x.st ≠ .free) ∧ jobRecipe (s.chan 0) e = some (Recipe.ofBytes (guards 0 0 findSteps))) ∧
    (∀ op ∈ [0x0301, 0x0302, 0x0310, 0x0311], let e := asked op 0 0 []
      let s := posting [e] fun c => { c with notice := true }
      MayRun s 0 e op ∧ engineTurn (s.chan 0) e = false) := by decide +kernel

theorem test_sequence_witness :
    let b := leBytes 2 apdu.length ++ apdu
    let e := asked 0x0102 0 0 b
    let s := posting [e] fun c => loaded (guards 0 0 findSteps) (serving (held 0 4 0xFF) c)
    let r := Recipe.ofBytes (guards 0 0 findSteps)
    MayRun s 0 e 0x0102 ∧ e.sub.opflag 2 = false ∧ splitSeq (splitCert e r).1.length (splitCert e r).1 = some [apdu] ∧ paramReserved e.sub [] = none := by
  decide +kernel

/-- The APDU unprotects, from a high-water below its counter and from an empty one. -/
theorem test_counter_witness : ∀ f ∈ [0, 4], let x : Inbound := { record := held 0 f 0xFF, ded := none }
    let r := Recipe.ofBytes (guards 0 0 findSteps)
    r.keysel ≠ 1 ∧ x.record.pendingId = 0xFF ∧ ∃ v, unprotectOne (up.chan 0) r false false apdu [] x = .ok v := by
  intro f h
  refine ⟨by decide +kernel, by rfl, test_ok _ ?_⟩
  revert f
  decide +kernel

/-- Outbound jobs: opcode, PARAM, record flags, plaintext. -/
def outs : List (Nat × Nat × Nat × Bytes) := [(0x0201, 0x3002, 0, [0xC0, 1]), (0x0202, 0x7002, 5, [0xC0, 1]), (0x0230, 0x3002, 2, [0xC3, 4]),
  (0x0401, 0x3002, 0, [0xC0] ++ zeros 30), (0x0201, 0x3000, 0, [0xC0, 1]), (0x0201, 0x3003 + 5 * 2 ^ 32, 0, [0xC0, 1])]
def outJob (o : Nat × Nat × Nat × Bytes) : JEntry := asked o.1 0 o.2.1 o.2.2.2
def outState (o : Nat × Nat × Nat × Bytes) : State :=
  posting [outJob o] fun c => { loaded (guards (o.2.1 % 256) 0 []) (serving (held 0 o.2.2.1 0xFF) c) with
    rng := { c.rng with inst := Vector.replicate 8 { state := 1 } }
    ded := [{ entry := 5, generation := 0, meter := 0, key := zeros 16, out := 0, inHigh := none, used := 0 }] }

/-- The checks of an outbound job, its record's and its certificate's apart. -/
theorem test_sendable (s : State) (ch : Ch) (e : JEntry) (r : Recipe) (k : RecCheck) (stat : Bytes) (tag : Nat) (o : Nat) (x : Checked s ch e k)
    (h : let c := seenBy e.sub.usesEngine s ch e
      let p := splitCert e r
      let m := e.sub.outParam
      let suite := k.record.suite
      MayRun s ch e o ∧ EnginesOpen e.sub.usesEngine e (s.chan ch) ∧ p.1.length ≤ 65024 ∧ jobRecipe (s.chan ch) e = some r ∧
      outRecordCheck e k.record = none ∧ outParamCheck c e suite p.1.length = none ∧ outKeyCheck c e k.record = none ∧
      r.fits (jobsBit e.sub.opcode) suite p.1.length (e.sub.opflag 1) (some m.form) = true ∧
      runGuards r p.1 p.2 (m.place, fillLen e.sub suite) = none ∧ releaseCheck e.sub.opcode p.1 = none ∧
      outTag m.form (decide (e.sub.opcode = 0x0201) && e.sub.opflag 3) (fieldBE p.1 0 1) = some tag ∧
      (outStatic c e r k.record p.2).toOption = some stat) : MayRun s ch e o ∧ Sendable s ch e r k stat tag := by
  obtain ⟨a, b, l, h1, h3, h4, h5, h6, h7, h8, h9, h10⟩ := h
  exact ⟨a, b, l, h1, x, h3, h4, h5, h6, h7, h8, h9, test_ok_of _ _ h10⟩

/-- Each outbound job passes its checks. -/
theorem test_outbound_witness : ∀ o ∈ outs, let e := outJob o
    MayRun (outState o) 0 e o.1 ∧ Sendable (outState o) 0 e (Recipe.ofBytes (guards (o.2.1 % 256) 0 [])) (checked (held 0 o.2.2.1 0xFF)) []
      (if o.2.1 % 256 = 0 then 0xC8 else 0) := by
  intro o h
  refine test_sendable _ _ _ _ _ _ _ _ ?_ (by revert o; decide +kernel)
  rw [Checked, outState, test_posting]
  exact test_checked _ _ _ (by revert o; decide +kernel) rfl rfl

/-- Its draws are served, its counter can be taken and its place filled; form 5 alone draws a scalar first. -/
theorem test_reserve_witness : ∀ o ∈ outs, let e := outJob o
    let c := seenBy e.sub.usesEngine (outState o) 0 e
    let start := absorbAck c.shard (held 0 o.2.2.1 0xFF)
    e.sub.outParam.form ≠ 5 ∧ ∃ y, outKey c e false start [] 0 = .ok y ∧ (fillPlace e y.record c).toOption.isSome = true ∧
      (signOut e y [] c).toOption.isSome = true := by
  intro o h
  refine ⟨by revert o; decide +kernel, ?_⟩
  have k : ((outKey (seenBy (outJob o).sub.usesEngine (outState o) 0 (outJob o)) (outJob o) false
      (absorbAck (seenBy (outJob o).sub.usesEngine (outState o) 0 (outJob o)).shard (held 0 o.2.2.1 0xFF)) [] 0).toOption.any fun y =>
      (fillPlace (outJob o) y.record (seenBy (outJob o).sub.usesEngine (outState o) 0 (outJob o))).toOption.isSome &&
      (signOut (outJob o) y [] (seenBy (outJob o).sub.usesEngine (outState o) 0 (outJob o))).toOption.isSome) = true := by revert o; decide +kernel
  revert k
  generalize outKey _ _ _ _ _ _ = z
  cases z with
  | error f => intro k; cases k
  | ok y => intro k; exact ⟨y, rfl, by simpa [Except.toOption] using k⟩

theorem test_take_counter_witness :
    (takeCounter (serving (held 0 0 0xFF) (up.chan 0)).shard false 0xFFEFFFFF (held 0 0 0xFF)).toOption.isSome = true ∧ 0xFFEFFFFF ≤ 0xFFFFFFFE ∧
    (let e := outJob (0x0201, 0x3003 + 5 * 2 ^ 32, 0, [0xC0, 1])
     let s := outState (0x0201, 0x3003 + 5 * 2 ^ 32, 0, [0xC0, 1])
     ((dedFind (seenBy e.sub.usesEngine s 0 e) e.sub.outParam.handle e.sub.meter).map fun y => y.out) = some 0) := by decide +kernel

/-- The job opcodes. -/
def jobs : List Nat := [0x0101, 0x0102, 0x0201, 0x0202, 0x0230, 0x0301, 0x0302, 0x0310, 0x0311, 0x0401, 0x0402, 0x0403, 0x0404, 0x0501, 0x0502, 0x0503,
  0x0504, 0x0601, 0x0602, 0x0603, 0x0604, 0x0701, 0x0702, 0x0703, 0x0704, 0x0705, 0x0710, 0x0F20, 0x0F21, 0x0F22, 0x0F30, 0x0F31, 0x0F32, 0x0F40, 0x0F41,
  0x0F42, 0x0F43, 0x0F50, 0x0F51, 0x0F52, 0x0F60, 0x0F70, 0x0F71, 0x0F72, 0x0F80, 0x0F81, 0x0F82, 0x0F83]

/-- Every job may run in some state, on a channel that serves a shard and on one that does not. -/
theorem test_may_run : ∀ op ∈ jobs, MayRun (posting [asked op 0 0 [1]] (serving (held 0 0 0xFF))) 0 (asked op 0 0 [1]) op ∧
    MayRun (posting [asked op 0 0 [1]] id) 0 (asked op 0 0 [1]) op := by decide +kernel

theorem test_serves : servesShard ((posting [] (serving (held 0 0 0xFF))).chan 0) = true ∧ servesShard ((posting [] id).chan 0) = false ∧
    (∀ x ∈ ((posting [asked 0x0F50 0 0 []] id).chan 0).jr.entries, x.state ≠ .committing) := by decide +kernel

/-- The records of key activation: a pending GUEK, a pending GAK, none. -/
theorem test_key_witness : ∀ p ∈ [0, 2, 0xFF], let r := held 0 0 p
    let s := posting [asked 0x0402 0 0 []] (serving r)
    Checked s 0 (asked 0x0402 0 0 []) (checked r) ∧ r.broadcast = false ∧ (∃ n, reserveIn (s.chan 0).shard ((s.chan 0).gov.soloNow s.dev.tick) r = .ok n) ∧
      (s.chan 0).shard.gen < (checked r).gen + 4 := by
  intro p h
  refine ⟨?_, by revert p; decide +kernel, test_ok _ (by revert p; decide +kernel), by revert p; decide +kernel⟩
  rw [Checked, test_posting]
  exact test_checked _ _ _ (by revert p; decide +kernel) rfl rfl

theorem test_governor_witness : let g := (up.chan 0).gov
    (10 ≤ g.budget ∧ g.window ≤ 100) ∧ (g.budget < 2000 ∧ 5 < g.window) ∧
    (asked 0x0F43 0 (10 + 100 * 65536) []).sub.phalf 56 = 10 ∧ (asked 0x0F43 0 (10 + 100 * 65536) []).sub.phalf 58 = 100 := by decide +kernel

/-- The public point of the private scalar 1, and a signature under it with the nonce 1. -/
def pub1 (c : Curve) : Bytes := beBytes (curveLen c) (curveG c).1 ++ beBytes (curveLen c) (curveG c).2
def sign1 (c : Curve) (dg : Bytes) : Bytes :=
  let r := (curveG c).1 % curveN c
  beBytes (curveLen c) r ++ beBytes (curveLen c) ((ecdsaHashInt c dg + r) % curveN c)

/-- A token that grants 5 units for 60 s, and a revocation list of one member, signed by the one card of a set. -/
def token : Bytes :=
  let b := leBytes 2 1 ++ [1, 1] ++ zeros 4 ++ zeros 16 ++ leBytes 4 5 ++ leBytes 4 60 ++ zeros 32
  b ++ [0, 0, 0, 0] ++ sign1 .p256 (sha256 b)
def revoked : Bytes :=
  let b := leBytes 2 1 ++ [1, 0] ++ leBytes 4 1 ++ leBytes 2 1 ++ zeros 22 ++ leBytes 2 7 ++ zeros 2
  b ++ [0, 0, 0, 0] ++ sign1 .p256 (sha256 b)
def quorate (c : Channel) : Channel :=
  { c with keys := { c.keys with quorum := some { id := zeros 8, m := 1, cards := [pub1 .p256] } }, gov := { c.gov with challenge := some (zeros 16, 100000) } }

theorem test_token_witness : tokenCheck 0 up.dev (quorate (up.chan 0)) token = none ∧ fieldLE token 2 1 = 1 ∧
    listCheck (quorate (up.chan 0)) revoked = none ∧ listMembers revoked = [7] := by decide +kernel

theorem test_record_witness : let s := posting [asked 0x0503 0 0 []] (serving (held 0 0 0xFF))
    ((s.chan 0).shard.rotateTick + 86400000 ≤ ({ s with dev := { s.dev with tick := 86400000 } } : State).dev.tick) ∧
    (let c := { s.chan 0 with shard := { (s.chan 0).shard with rotated := true } }
     c.shard.rotated = true ∧ s.dev.tick < c.shard.rotateTick + 86400000) ∧ (asked 0x0504 0 0 []).sub.opflag 0 = false ∧
    ((asked 0x0F50 0 5 []).sub.phalf 56 < 1024 ∧ (up.chan 0).shard.assigned = false) ∧ 1024 ≤ (asked 0x0F50 0 5000 []).sub.phalf 56 ∧
    treeWritesUnsent (s.chan 0) = false ∧ (up.chan 0).shard.slots.getD ((asked 0x0F21 0 3 []).sub.pbyte 56 % 16) none = none ∧
    (∀ m ∈ [0, 9], ∀ acc ∈ [true, false], let y : CommitSlot := ⟨m, 1, 0, 0, 0, 0, [], acc, [], 0⟩
     let c := { up.chan 0 with shard := { (up.chan 0).shard with slots := (up.chan 0).shard.slots.set 3 (some y) } }
     c.shard.slots.getD ((asked 0x0F21 0 3 []).sub.pbyte 56 % 16) none = some y) := by decide +kernel

/-- A recipe and a settlement program that are signed and pass their admission. -/
def signed (b : Bytes) : Bytes := b ++ sign1 .p384 (sha384 b)
def signer (c : Channel) : Channel := { c with keys := { c.keys with slots := [(24, { material := pub1 .p384 })] } }
def recipe : Bytes :=
  signed ([0x54, 0x52, 0x43, 0x50, 1, 0, 1, 0, 1, 0, 0, 0, 1, 0, 1, 0, 1, 0, 2, 1, 2, 0, 4, 0, 100, 0, 0, 0, 2, 0, 0, 0] ++ zeros 32 ++
    [1, 0, 0, 0, 1, 0, 0, 0, 0xC0, 0, 0, 0, 0xFF, 0, 0, 0])
def program : Bytes :=
  signed ([0x54, 0x53, 0x54, 0x4C, 1, 0, 1, 0, 1, 0, 0, 0, 0, 0, 0, 0, 8, 0, 0, 0, 2, 0, 0, 0, 0, 0, 3, 0, 100, 0, 0, 0, 1, 0, 0, 0, 0, 0, 0, 0, 0, 0,
      0, 0, 12, 0, 0, 0, 1, 0, 0, 0, 0, 0, 2, 12] ++ zeros 12 ++ leBytes 4 100 ++ zeros 56 ++
    [10, 0xC1, 0, 1, 1, 2, 0xC1, 0] ++ zeros 160 ++ zeros 132 ++ [0, 0, 0, 0, 3, 0, 2, 0, 0, 0, 0, 0, 0, 0, 0, 0] ++ [3, 0, 0, 0, 5, 0, 1, 0] ++ zeros 8)

theorem test_recipe_witness : recipeAdmit (signer (up.chan 0)).keys recipe = none ∧ recipeSpace {} 1 recipe.length = none ∧
    recipeAdmit (up.chan 0).keys recipe ≠ none ∧ loadBusy ((posting [asked 0x0F30 0 0 recipe] id).chan 0) (asked 0x0F30 0 0 recipe) [0x0F30, 0x0F32] = false := by
  decide +kernel
theorem test_program_witness : programAdmit (signer (up.chan 0)).keys program = none ∧ programSpace {} 1 program.length = none ∧
    loadBusy ((posting [asked 0x0F70 0 0 program] id).chan 0) (asked 0x0F70 0 0 program) [0x0F70, 0x0F72] = false := by decide +kernel
theorem test_remove_witness : (∃ i ∈ (loaded recipe (up.chan 0)).recipes.loaded, i.id = (asked 0x0F32 0 0 []).sub.recipe) ∧
    (∀ i ∈ (up.chan 0).recipes.loaded, i.id ≠ (asked 0x0F32 0 0 []).sub.recipe) := by decide +kernel

/-- An instance that serves, one that waits for blocks, one in ERROR. -/
def rngOf (g : Drbg) (c : Channel) : Channel := { c with rng := { c.rng with inst := Vector.replicate 8 g } }

def stopOf {E A : Type} : Except E A → Option E
  | .error e => some e
  | .ok _ => none

theorem test_stop_of {E A : Type} (x : Except E A) (v : E) (h : stopOf x = some v) : x = .error v := by
  cases x with
  | error e => cases h; rfl
  | ok w => cases h

theorem test_draw_witness :
    (∀ i ∈ [(1 : Fin 8), 2], (engineDraw i 16 (rngOf { state := 1 } (up.chan 0))).toOption.isSome = true) ∧
    engineDraw 2 16 (rngOf { state := 1, count := drbgLimit } (up.chan 0)) = .error .waits ∧
    engineDraw 2 16 (rngOf { state := 3 } (up.chan 0)) = .error .withheld ∧
    engineDraw 1 32 (rngOf { state := 1, count := drbgLimit } (up.chan 0)) = .error .waits :=
  ⟨by decide +kernel, test_stop_of _ _ (by decide +kernel), test_stop_of _ _ (by decide +kernel), test_stop_of _ _ (by decide +kernel)⟩

/-- The store takes the first image and its removal. -/
theorem test_image_store_witness :
    (admitImage recipeStore (fun _ => false) {} {} 1 1 5 (zeros 300)).isSome = true ∧
    (removeImage recipeStore (fun _ => false) {} {} 1 5).isSome = true := by decide +kernel

/-- A tree image moves only when no committed job still owes a write to the tree. -/
theorem test_tree_image_witness :
    treeWritesUnsent ((posting [{ asked 0x0F41 0 0 [] with state := .committing }] id).chan 0) = true ∧
    treeWritesUnsent ((posting [asked 0x0F51 0 0 []] id).chan 0) = false := by decide +kernel

/-! ### Settlement, signatures and pairs -/

/-- A wrapped account of meter 0, sequence 1, program 1, balance 1000, under a shard key of zeros. -/
def acct : Bytes := zeros 14 ++ [2, 0] ++ beBytes 208
  0x81df93d60d1e1e686b84174faa9905e991ea4924ac3f095252eed8e11a27110eb13082ae9cfda3c3e2a96a67c5f6dda338da7e4b14e8c4de0d320cf97ea2f90642f4a508b33489cee9c6a82a750be382112f6188ad79e68013405e2b23f655b7c452ddd76e43303e8b2afad16f045d073820cfd69951727303265e0881734a2d35d7f34371c73e3e1b9bd41cd31f171a3346a0582325f15a3124e865ddfb0994799187c2e383f6f9343e6fc40ae7039b3dacae6e10930428ccd3d098c9ff3a993e2abf28d92eb585c58c7cb8c0c82ef1

/-- A settlement job, and a channel with program 1 and a statement key. -/
def settling (op : Nat) (b : Bytes) : JEntry := { asked op 0 0 b with reads := [(16, wrap), (24, zeros 256), (32, b), (56, acct)] }
def shop (r : MRec) (c : Channel) : Channel :=
  { serving r c with
    programs := { loaded := [{ id := 1, version := 1, bytes := program, digest := [] }] }
    keys := { (serving r c).keys with slots := [(4, { material := beBytes 48 1 ++ pub1 .p384 })] } }
def opened : MRec := { held 0 0 0xFF with settleRef := 2 ^ 31 + 1 }
def unopened : MRec := { held 0 0 0xFF with settleRef := 0xFFFFFFFF }

theorem test_settle_witness : ∀ b ∈ [[], [100, 0, 0, 0, 0, 0, 0, 0]], ∀ op ∈ [0x0601, 0x0603, 0x0604], let e := settling op b
    let s := posting [e] (shop opened)
    Checked s 0 e (checked opened) ∧ MayRun s 0 e op ∧ settleBusy (s.chan 0) e = false ∧
      (∃ n, reserveIn (s.chan 0).shard ((s.chan 0).gov.soloNow s.dev.tick) opened = .ok n) := by
  intro b _ op _
  refine ⟨?_, by revert b op; decide +kernel, by revert b op; decide +kernel, test_ok _ (by revert b op; decide +kernel)⟩
  rw [Checked, test_posting]
  exact test_checked _ _ _ (by revert b op; decide +kernel) rfl rfl

theorem test_account_witness : let c := shop opened (up.chan 0)
    accountCheck c opened acct = .ok ⟨0, 2 ^ 31 + 1, 1, 0, 0, 1000, 0, 0, zeros 160⟩ := test_ok_of _ _ (by decide +kernel)

theorem test_settling_witness : let c := shop opened (up.chan 0)
    (nextSeq (2 ^ 31 + 1) = some 2 ∧ (statementKey c).isSome = true ∧ (jobProgram c 1 1).map (·.layout) = some 0 ∧
      (jobProgram c 1 1).map (·.maxAdjust) = some 100) ∧ refOpen opened.settleRef = true ∧ refOpen unopened.settleRef = false ∧
    nextSeq unopened.settleRef = some 1 ∧ (jobProgram c 1 1).map (fun p => (jobSamples c p (settling 0x0601 []) 0).toOption) = some (some []) := by
  decide +kernel

/-- SIG_VERIFY of a digest with its key beside it, under a record's key, and with a trust anchor. -/
def sigInput : Bytes := [4] ++ zeros 15 ++ pub1 .p256 ++ sign1 .p256 (zeros 32) ++ zeros 32

theorem test_sigverify_witness : sigVerifyParam (asked 0x0301 0 0x01000001 sigInput).sub = none ∧
    pubkeyPoint .p256 (sigInput.take 80) = some (pub1 .p256) ∧ sigVerdict .p256 (some (pub1 .p256)) (zeros 32) (sign1 .p256 (zeros 32)) = none ∧
    (∀ p ∈ [0x01000101, 0x01000201], sigVerifyParam (asked 0x0301 0 p (sign1 .p256 (zeros 32) ++ zeros 32)).sub = none) ∧
    (∃ f, sigVerifyParam (asked 0x0301 0 9 sigInput).sub = some f) ∧
    (let c : Channel := { up.chan 0 with keys := { (up.chan 0).keys with slots := [(16, { material := pub1 .p256 })] } }
     c.keys.slot 16 = some { material := pub1 .p256 } ∧ (pub1 .p256).length = 2 * curveLen .p256 ∧ c.keys.slot 17 = none) :=
  ⟨by decide +kernel, by decide +kernel, by decide +kernel, by decide +kernel, ⟨⟨0x0102, 56, 0⟩, by decide +kernel⟩, by decide +kernel⟩

theorem test_record_key_witness : let r : MRec := { held 1 0 0xFF with sigkeyLen := 33 }
    let e := asked 0x0301 0 0x01000101 (sign1 .p256 (zeros 32) ++ zeros 32)
    let s := posting [e] (serving r)
    Checked s 0 e (checked r) ∧ MayRun s 0 e 0x0301 ∧ e.sub.pbyte 57 = 1 ∧ r.suite = e.sub.pbyte 56 ∧ (s.chan 0).shard.gen < (checked r).gen + 4 := by
  refine ⟨?_, by decide +kernel⟩
  rw [Checked, test_posting]
  exact test_checked _ _ _ (by decide +kernel) rfl rfl

/-- RSA with a modulus whose top and bottom bits are set, the exponent 65537, and PKCS1 or PSS. -/
def rsaInput (n : Nat) : Bytes := zeros 12 ++ beBytes 4 65537 ++ [0x80] ++ zeros 254 ++ [1] ++ zeros 256 ++ zeros n

theorem test_rsa_witness :
    (∀ p ∈ [0x01010101, 0x200001010201], rsaParamOk (asked 0x0302 0 p (rsaInput 32)).sub false = true) ∧
    (let m := (asked 0x0302 0 0x01010101 (rsaInput 32)).sub
     16 + 2 * rsaLen m ≤ m.inLen ∧ m.inLen = 16 + 2 * rsaLen m + hashLen (hashOf (m.pbyte 58)) ∧
       rsaKeyRange (fieldBE (rsaInput 32) 16 256) (fieldBE (rsaInput 32) 12 4) 256 = true ∧ rsaKeyRange 2 3 256 = false) ∧
    (∀ p ∈ [0x01010101, 0x200001010201], rsaParamOk (asked 0x0310 0 p (zeros 32)).sub true = true ∧ rsaLen (asked 0x0310 0 p (zeros 32)).sub ≤ 2 ^ 20) ∧
    (let c : Channel := { up.chan 0 with keys := { (up.chan 0).keys with slots := [(8, { material := zeros 912 })] } }
     c.keys.slot 8 = some { material := zeros 912 } ∧ rsaSlotLen (zeros 912) = 256 ∧ c.keys.slot 9 = none) := by decide +kernel

theorem test_export_witness : (up.chan 0).keys.scalar .p384 5 = none ∧
    (let c : Channel := { up.chan 0 with keys := { (up.chan 0).keys with slots := [(5, { material := beBytes 48 1 ++ pub1 .p384 })] } }
     c.keys.scalar .p384 5 = some 1 ∧ c.keys.slots.find? (fun p => p.1 == 5) = some (5, { material := beBytes 48 1 ++ pub1 .p384 })) ∧
    selectorOk 5 = true ∧ selectorOk 6 = false ∧ (∀ p ∈ (up.chan 0).keys.slots, p.1 ≠ 5) := by decide +kernel

/-- A channel of a pair: its role, its session in step with its peer. -/
def paired (r : PairRole) (c : Channel) : Channel :=
  { c with
    keys := { c.keys with frk := some (zeros 32) }
    pair := { c.pair with role := r, peer := some (2, 1), syncLost := false, snapId := 3, lastNote := some (0, zeros 16) } }
/-- The part is a member of a fleet. -/
def fleet (s : State) : State := { s with dev := { s.dev with memberValid := true } }

theorem test_pair_witness :
    (fleetReady up.dev (up.chan 0) = false) ∧
    (let s := fleet (posting [asked 0x0705 0 0 []] (paired .active))
     let c := s.chan 0
     fleetReady s.dev c = true ∧ activePaired c = true ∧ pairQuiet c = true ∧ relinquishOk s.dev c = true ∧ c.pair.syncLost = false ∧
       c.pair.lastNote = some (0, zeros 16) ∧ MayRun s 0 (asked 0x0705 0 0 []) 0x0705) ∧
    (∀ k ∈ [0, 1, 4, 0xFF], let m := (asked 0x0703 0 (k + 3 * 2 ^ 32) []).sub
     m.param / 256 % 2 ^ 24 = 0 ∧ m.pbyte 56 = k ∧ m.param / 2 ^ 32 = 3) ∧
    (let c := paired .active { up.chan 0 with pair := { (up.chan 0).pair with buffer := [(.generation 1 1, 0)] } }
     relinquishOk up.dev c = false) := by decide +kernel

theorem test_promote_witness :
    (let s := fleet (posting [asked 0x0704 0 0 []] (paired .standby))
     let c := s.chan 0
     pairQuiet c = true ∧ fleetReady s.dev c = true ∧ c.pair.role = .standby ∧ freshActiveBeat s.dev c = false ∧
       c.host.win.holds c.shard.treeBase 262144 = true ∧ MayRun s 0 (asked 0x0704 0 0 []) 0x0704) ∧
    (let s := fleet (posting [asked 0x0704 0 0 []] (paired .active))
     (s.chan 0).pair.role ≠ .standby ∧ MayRun s 0 (asked 0x0704 0 0 []) 0x0704) := by decide +kernel

theorem test_bind_witness :
    (let e := asked 0x0F80 0 (1 + 7 * 2 ^ 16 + 1 * 2 ^ 32) []
     let s := fleet (posting [e] fun c => { paired .none (serving (held 0 0 0xFF) c) with pair := (up.chan 0).pair })
     bindCheck s.dev e (s.chan 0) = none ∧ e.sub.pbyte 56 = 1 ∧ e.sub.pbyte 57 = 0 ∧ servesShard (s.chan 0) = true ∧ (s.chan 0).pair.role = .none) ∧
    (let e := asked 0x0F80 0 (2 + 7 * 2 ^ 16 + 1 * 2 ^ 32) []
     let s := fleet (posting [e] fun c => { paired .none c with pair := (up.chan 0).pair })
     bindCheck s.dev e (s.chan 0) = none ∧ e.sub.pbyte 56 = 2 ∧ (s.chan 0).shard.assigned = false ∧ (s.chan 0).pair.role = .none) ∧
    (let e := asked 0x0F80 0 (2 + 256 + 7 * 2 ^ 16 + 1 * 2 ^ 32) []
     let s := fleet (posting [e] fun c => paired .none (serving (held 0 0 0xFF) c))
     bindCheck s.dev e (s.chan 0) = none ∧ e.sub.pbyte 57 = 1) ∧
    (let e := asked 0x0F80 0 (2 + 7 * 2 ^ 16 + 1 * 2 ^ 32) []
     let s := fleet (posting [e] fun c => paired .none (serving (held 0 0 0xFF) c))
     bindCheck s.dev e (s.chan 0) = none ∧ e.sub.pbyte 57 = 0 ∧ (s.chan 0).shard.assigned = true) := by decide +kernel

/-- A channel whose instances serve. -/
def drawing : Channel → Channel := rngOf { state := 1, key := zeros 32, v := zeros 16 }

theorem test_sign_draw_witness :
    (signFresh .p384 1 (zeros 48) (drawing (up.chan 0))).toOption.isSome = true ∧
    signFresh .p384 1 (zeros 48) (rngOf { state := 1, count := drbgLimit } (up.chan 0)) = .error .waits ∧
    signFresh .p384 1 (zeros 48) (rngOf { state := 3 } (up.chan 0)) = .error .withheld ∧
    (signDraws 32 (drawing (up.chan 0))).toOption.isSome = true ∧ signDraws 0 (rngOf { state := 1, count := drbgLimit } (up.chan 0)) = .error .waits ∧
    (engineDraw 0 4 (drawing (up.chan 0))).toOption.isSome = true :=
  ⟨by decide +kernel, test_stop_of _ _ (by decide +kernel), test_stop_of _ _ (by decide +kernel), by decide +kernel,
   test_stop_of _ _ (by decide +kernel), by decide +kernel⟩

/-- A statement is signed; while a BIST notice runs it waits. -/
theorem test_statement_witness : (signStatement 1 [] (drawing (up.chan 0))).toOption.isSome = true ∧
    signStatement 1 [] { up.chan 0 with notice := true } = .error .waits := ⟨by decide +kernel, test_stop_of _ _ (by decide +kernel)⟩

/-- A job has its turn at the public-key engine. -/
theorem test_turn_witness : ∀ op ∈ [0x0301, 0x0302, 0x0310, 0x0311], engineTurn ((posting [asked op 0 0 []] id).chan 0) (asked op 0 0 []) = true := by
  decide +kernel

/-- The act of a channel's commit, ready for its battery transaction. -/
theorem test_act_witness : ∀ a ∈ [ShardAct.snapStart 4, .snapChunk, .promote [], .relinquish, .ack 3, .unbind, .moveTree 0, .create 1 0 (zeros 32)],
    let x : Effect := { effect (up.chan 0) with act := some a }
    let en : JEntry := { asked 0x0F81 0 0 [] with state := .committing, ready := some x }
    let s := posting [en] (paired .active)
    s.dev.has 0 = true ∧ s.pw.link = true ∧ (s.chan 0).jr.entries.find? (fun o => o.state == .committing) = some en ∧ Holds (s.chan 0) en ∧
      x.leaf = none ∧ x.items = [] ∧ x.ded = none ∧ (x.gov.take s.dev.tick x.units).isSome = true := by decide +kernel

/-- A root backup that waits for the BIST in debt, and one that does not. -/
theorem test_debt_witness :
    (let c : Channel := { serving (held 0 0 0xFF) (up.chan 0) with notice := true, shard := { (up.chan 0).shard with assigned := true, epoch := 3 } }
     debtWaits .rootBackup up.dev c = false ∧ debtWaits .rootBackup { up.dev with tick := 40000000 } c = true) := by decide +kernel

/-- A frame unit whose step list, region pair, region and result block all lie in data SRAM. -/
def framing (c : Channel) : Channel :=
  let t : AccessTable := { c.table with entries := c.table.entries.set 0 ⟨0, 0x3FFFFFF, 0, 0x3FFFFFF, 0x10000 + 0xFFF, false⟩ }
  { c with
    table := t, fu := { c.fu with busy := true, count := 1, steps := 0x100000, regions := 0x100100, locs := 0x100200 }
    mem := memStore [] 0x100000 ([1, 0, 0, 0, 1, 0, 0, 0, 0xC0, 0, 0, 0, 0xFF, 0, 0, 0] ++ zeros 240 ++ leBytes 4 0x100300 ++ leBytes 4 2) }

theorem test_frame_unit_witness : let c := framing (up.chan 0)
    c.fu.busy = true ∧
    (match engineRead 0 up.dev 2 c.fu.steps (16 * c.fu.count) c with
     | (some sb, c1) =>
       let steps := (chunks 16 sb).map RStep.ofBytes
       let pair := if c1.fu.phase then 1 else if steps.any (fun s => s.kind == 0x0B) then 2 else 0
       match engineRead 0 up.dev 2 (c1.fu.regions + 8 * pair) 8 c1 with
       | (some db, c2) => match engineRead 0 up.dev 2 (fieldLE db 0 4) (fieldLE db 4 4) c2 with
         | (some region, c3) => (engineWrite 0 up.dev 2 c3.fu.locs (locationBlock steps region.length) c3).1
         | _ => false
       | _ => false
     | _ => false) = true := by decide +kernel

/-- The parts of a message: key, header, cipher text and tag. -/
structure Parts where
  key : Bytes
  header : Bytes
  body : Bytes
  tag : Bytes

def Parts.bytes (x : Parts) : Bytes := x.header ++ x.body ++ x.tag

/-- A message's checks pass, and it may be applied. -/
abbrev Delivered (x : Parts) (p : Bytes) (r : PairRole) : Prop :=
  let e := { asked 0x0710 0 0 x.bytes with checked := true }
  let s := fleet (posting [e] (paired r))
  MayRun s 0 e 0x0710 ∧ pairQuiet (s.chan 0) = true ∧ e.checked = true ∧ ∃ m, messageCheck 0 s.dev (s.chan 0) x.bytes = .ok (m, p)

theorem test_message (ch : Ch) (d : Device) (c : Channel) (x : Parts) (p : Bytes)
    (h : let m := PairMsg.ofBytes x.bytes
      fleetReady d c = true ∧ messageShape x.bytes m = true ∧ m.toMember = d.member ∧ m.toCh = ch.val ∧ m.shard = pairShard c ∧
      c.pair.revoked.contains m.fromMember = false ∧ c.pair.peer = some (m.fromMember, m.fromCh) ∧ m.dir = 1 - pairDir c ∧
      m.header = x.header ∧ m.body = x.body ∧ m.tag = x.tag ∧ m.pseq = 0 ∧ pairKey (c.keys.frk.getD []) x.header = x.key ∧
      kindRole m.kind c.pair.role = true)
    (g : gcmDecrypt x.key (pairIv 0) x.header x.body x.tag = some p) : ∃ m, messageCheck ch d c x.bytes = .ok (m, p) := by
  obtain ⟨h1, h2, h3, h4, h5, h6, h7, h8, h9, h10, h11, h12, h13, h14⟩ := h
  refine ⟨PairMsg.ofBytes x.bytes, ?_⟩
  rw [messageCheck, h9, h10, h11, h12, h13, g]
  rw [h6]
  simp [h1, h2, h3, h4, h5, h7, h8, h14]

/-- A NOTE for a standby. -/
def noteMessage : Parts :=
  ⟨[201, 135, 80, 176, 12, 194, 41, 69, 188, 124, 49, 160, 1, 81, 3, 103, 224, 163, 207, 98, 64, 199, 87, 232, 0, 127, 4, 217, 176,
      210, 226, 39],
    [1, 0, 1, 0, 0, 0, 0, 0, 2, 0, 1] ++ zeros 29 ++ [48, 0, 0, 0, 0, 0, 0, 0],
    [111, 222, 70, 54, 35, 86, 189, 165, 116, 7, 134, 95, 120, 207, 100, 114, 113, 99, 126, 69, 128, 121, 37, 19, 71, 192, 220, 134,
      53, 7, 142, 124, 96, 19, 162, 10, 54, 179, 226, 252, 2, 47, 255, 92, 148, 211, 143, 205],
    [99, 65, 222, 223, 191, 217, 8, 228, 93, 97, 231, 242, 231, 80, 172, 178]⟩
theorem test_note_message : Delivered noteMessage (leBytes 8 1 ++ leBytes 8 0 ++ zeros 32) .standby :=
  ⟨by decide +kernel, by decide +kernel, rfl, test_message _ _ _ _ _ (by decide +kernel) (by decide +kernel)⟩

/-- An ACK for an active. -/
def ackMessage : Parts :=
  ⟨[106, 113, 205, 149, 62, 134, 187, 20, 37, 236, 74, 210, 199, 50, 167, 155, 198, 198, 93, 9, 82, 231, 155, 131, 12, 50, 73, 55,
      142, 241, 173, 188],
    [1, 0, 2, 1, 0, 0, 0, 0, 2, 0, 1] ++ zeros 29 ++ [32, 0, 0, 0, 0, 0, 0, 0],
    [13, 22, 148, 157, 20, 212, 167, 84, 169, 173, 84, 48, 213, 4, 209, 59, 149, 139, 152, 188, 12, 10, 142, 208, 91, 9, 22, 190, 41,
      248, 164, 135],
    [9, 119, 32, 95, 73, 150, 112, 240, 134, 68, 1, 125, 97, 117, 231, 116]⟩
theorem test_ack_message : Delivered ackMessage (zeros 32) .active :=
  ⟨by decide +kernel, by decide +kernel, rfl, test_message _ _ _ _ _ (by decide +kernel) (by decide +kernel)⟩

/-- A BEAT for a standby. -/
def beatMessage : Parts :=
  ⟨[230, 241, 130, 242, 93, 192, 218, 14, 224, 41, 97, 229, 101, 73, 56, 216, 196, 157, 76, 241, 172, 197, 137, 189, 111, 152, 233,
      40, 96, 68, 224, 184],
    [1, 0, 3, 0, 0, 0, 0, 0, 2, 0, 1] ++ zeros 29 ++ [32, 0, 0, 0, 0, 0, 0, 0],
    [136, 63, 96, 44, 10, 91, 179, 150, 41, 20, 8, 35, 54, 107, 73, 179, 135, 151, 214, 183, 198, 217, 168, 237, 109, 157, 247, 35,
      234, 185, 158, 222],
    [13, 53, 183, 222, 168, 100, 46, 180, 157, 79, 120, 214, 125, 28, 224, 77]⟩
theorem test_beat_message : Delivered beatMessage (leBytes 8 5 ++ zeros 16 ++ [1] ++ zeros 7) .standby :=
  ⟨by decide +kernel, by decide +kernel, rfl, test_message _ _ _ _ _ (by decide +kernel) (by decide +kernel)⟩

/-- A RELINQUISH for a standby. -/
def relinquishMessage : Parts :=
  ⟨[7, 34, 72, 77, 132, 37, 52, 124, 145, 159, 13, 99, 199, 113, 124, 171, 83, 176, 59, 186, 182, 173, 73, 98, 188, 48, 193, 139,
      131, 21, 200, 13],
    [1, 0, 6, 0, 0, 0, 0, 0, 2, 0, 1] ++ zeros 29 ++ [40, 0, 0, 0, 0, 0, 0, 0],
    [73, 107, 88, 82, 141, 189, 159, 131, 119, 10, 253, 146, 117, 64, 47, 108, 183, 230, 135, 197, 192, 114, 141, 11, 61, 135, 48,
      111, 43, 241, 243, 207, 202, 146, 1, 163, 54, 174, 217, 246],
    [9, 39, 198, 129, 24, 209, 124, 172, 191, 183, 178, 74, 77, 204, 140, 245]⟩
theorem test_relinquish_message : Delivered relinquishMessage (zeros 24 ++ leBytes 2 9 ++ leBytes 2 60 ++ zeros 12) .standby :=
  ⟨by decide +kernel, by decide +kernel, rfl, test_message _ _ _ _ _ (by decide +kernel) (by decide +kernel)⟩

/-- Chunk 0 for a standby that holds nothing. -/
def chunkMessage : Parts :=
  ⟨[83, 232, 127, 50, 51, 9, 15, 94, 212, 56, 254, 102, 94, 211, 231, 30, 23, 240, 160, 50, 215, 24, 72, 36, 229, 253, 102, 212, 153,
      7, 83, 39],
    [1, 0, 4, 0, 0, 0, 0, 0, 2, 0, 1] ++ zeros 29 ++ [144, 0, 0, 0, 0, 0, 0, 0],
    [25, 69, 87, 218, 230, 196, 161, 3, 160, 117, 250, 160, 224, 252, 52, 204, 196, 82, 106, 119, 168, 48, 65, 245, 171, 188, 153, 41,
      39, 236, 78, 3, 230, 33, 181, 240, 56, 200, 163, 248, 151, 172, 219, 246, 160, 60, 37, 20, 75, 198, 2, 69, 164, 37, 218, 29, 46,
      85, 142, 11, 46, 35, 99, 150, 27, 249, 4, 208, 52, 146, 173, 134, 161, 17, 154, 214, 115, 111, 185, 46, 225, 153, 80, 2, 23, 56,
      252, 49, 212, 141, 140, 120, 197, 198, 181, 228, 243, 22, 13, 112, 143, 93, 12, 134, 129, 177, 232, 214, 49, 237, 123, 126, 69,
      249, 144, 83, 49, 147, 128, 168, 55, 32, 109, 219, 24, 188, 28, 136, 67, 167, 248, 139, 247, 113, 91, 134, 68, 234, 201, 14, 253,
      238, 80, 5],
    [181, 254, 109, 103, 195, 176, 14, 67, 9, 62, 125, 72, 98, 214, 75, 9]⟩
theorem test_chunk_message : Delivered chunkMessage (zeros 144) .standbyEmpty :=
  ⟨by decide +kernel, by decide +kernel, rfl, test_message _ _ _ _ _ (by decide +kernel) (by decide +kernel)⟩

/-- A COMMIT for a standby. -/
def commitMessage : Parts :=
  ⟨[155, 10, 157, 31, 38, 181, 20, 174, 195, 85, 117, 49, 207, 28, 38, 188, 211, 14, 153, 26, 204, 209, 26, 97, 36, 116, 89, 2, 123,
      207, 18, 201],
    [1, 0, 5, 0, 0, 0, 0, 0, 2, 0, 1] ++ zeros 29 ++ [32, 0, 0, 0, 0, 0, 0, 0],
    [100, 107, 145, 37, 246, 116, 161, 171, 60, 151, 119, 32, 79, 96, 3, 254, 52, 9, 246, 114, 37, 188, 99, 194, 228, 215, 66, 115,
      109, 103, 71, 179],
    [236, 48, 37, 60, 249, 146, 135, 174, 72, 58, 50, 112, 95, 171, 83, 71]⟩
theorem test_commit_message : Delivered commitMessage (zeros 32) .standby :=
  ⟨by decide +kernel, by decide +kernel, rfl, test_message _ _ _ _ _ (by decide +kernel) (by decide +kernel)⟩

theorem test_message_refused : (messageCheck 0 (fleet up).dev (paired .standby (up.chan 0)) [1, 0]).toOption.isNone = true := by decide +kernel

theorem test_shadow_witness :
    (let x : Shadow := { snapId := 0, chunks := [1, 2, 3, 4] }
     missingChunk x = none ∧ fieldLE (zeros 32) 0 4 = x.snapId ∧ fieldLE (zeros 32) 8 8 = x.epoch) ∧
    (let x : Shadow := { snapId := 0, chunks := [1] }
     2 ∉ x.chunks) ∧
    (slice (leBytes 8 1 ++ leBytes 8 0 ++ zeros 32) 34 2 = zeros 2) := by decide +kernel

/-- The timers of a channel: what each rests on. -/
theorem test_timer_witness :
    (let g : Governor := { up.chan 0 |>.gov with budget := 1, log := [up.dev.tick] }
     g.ninety ≤ g.used up.dev.tick ∧ g.above90 = false) ∧
    (let g : Governor := { (up.chan 0).gov with challenge := some ([], 0), token := some (5, 0), solo := some (some 0) }
     g.challenge = some ([], 0) ∧ g.token = some (5, 0) ∧ g.solo = some (some 0)) ∧
    (let c : Channel := { serving (held 0 0 0xFF) (up.chan 0) with shard := { (up.chan 0).shard with assigned := true, epoch := 3 } }
     c.shard.assigned = true ∧ c.shard.epoch ≠ c.backups.lastEpoch ∧ c.backups.lastTick + 60000 ≤ up.dev.tick ∧ servesShard c = true ∧
       c.backups.rootTick + 10000 ≤ up.dev.tick ∧ c.backups.checkpoint = none) ∧
    (let c := paired .active { up.chan 0 with pair := { (up.chan 0).pair with buffer := [(.leaf 0 1 [] [], 0)], ackLag := 1 } }
     activePaired c = true ∧ unackedItems c = true ∧ c.pair.overdue = false ∧ c.pair.ackTick + 50 ≤ up.dev.tick ∧ ackLagHolds up.dev c = true) ∧
    (let e : JEntry := { entry 0x0101 with ready := some (effect (up.chan 0)) }
     let c := { (posting [e] (paired .active)).chan 0 with pair := { (paired .active (up.chan 0)).pair with ackLag := 1 } }
     c.pair.ackLag ≠ 0 ∧ ackLagHolds up.dev c = false ∧
       c.jr.entries.find? (fun e => advancesIn e.sub.opcode && e.ready.isSome && e.state == .claimed) = some e) ∧
    (∀ n ∈ [0, 3], let u : FrameUnit := { count := n }
     u.busy = false ∧ u.count = n) ∧ ({ busy := true } : FrameUnit).busy = true := by decide +kernel

/-! ### Access tables, flash and engines -/

/-- A channel whose access table allows everything. -/
def wide (c : Channel) : Channel :=
  { c with table := { c.table with entries := c.table.entries.set 0 ⟨0, 0x3FFFFFF, 0, 0x3FFFFFF, 0x10000 + 0xFFF, false⟩ } }

theorem test_table_witness : Present up 0 ∧ Present up 16 ∧
    (let a := (unit up 0).table
     (a.entries[5]?).isSome = true ∧ a.lockAll = false ∧ (unit up 0).state ≠ .asleep ∧ ¬ a.scrubLine + 1 = scrubLines a.mgmt ∧ mgmtRuns up = true) ∧
    (∀ x ∈ [(3, 0x10FFF, true), (9, 0x10FFF, false), (3, 0x3000, false)], let e : AtEntry := ⟨0, 0, x.1, 7, 0, false⟩
     let n := (BitVec.ofNat 32 x.2.1).toNat
     (e.stagedFirst ≤ e.stagedLast ∧ bits n 13 12 ≠ 3 ∧ bits n 15 14 ≠ 3 ∧ n < 2 ^ 17) ↔ x.2.2 = true) ∧
    (let a := { (unit up 0).table with scrubLine := scrubLines false - 1 }
     a.scrubLine + 1 = scrubLines a.mgmt) ∧
    (let s := on (fun c => { c with state := .asleep }) up
     (unit s 0).state = .asleep) ∧
    mgmtRuns { up with dev := { up.dev with mgmtUp := false } } = false := by decide +kernel

theorem test_flash_witness :
    (let b : NvBank := { en := true, addr := 0x80000 }
     b.en = true ∧ b.busy = none ∧ b.susp = none ∧ (∀ c ∈ [1, 3, 4], nvAddressOk false c b.addr b.len = true ∧ nvRefusal b c = none) ∧
       nvAddressOk false 2 0x80001 0 = false ∧ nvRefusal b 2 = some 6 ∧ b.pageErased (b.addr / 512 * 512) = true ∧ b.scrubEn = true ∧ sectorOf b.addr < b.sectors.length ∧
       nvAddressOk false 5 b.addr 1 = true ∧ b.pageErased b.scrubPage = true) ∧
    (let b : NvBank := { addr := 0x80000, words := [(0x80000, zeros 512)] }
     b.programmed b.addr = true ∧ (b.sector (sectorOf b.addr)).closed = false ∧ (b.sector (sectorOf b.addr)).format ≠ 4 ∧ b.pageErased 0x80000 = false ∧
       (0x80010 / 512 * 512 < bankBytes false)) ∧
    (∀ c ∈ [1, 3], ∀ a ∈ [true, false], let k : NvCmd := ⟨c, a, false, 0x80000, 0, [], false⟩
     let b : NvBank := { en := true, busy := some k }
     b.busy = some k ∧ k.cmd = c ∧ k.autosusp = a) ∧
    (∀ x ∈ [true, false], let k : NvCmd := ⟨3, true, false, 0x80000, 0, [], x⟩
     let b : NvBank := { susp := some k }
     b.susp = some k ∧ b.busy = none ∧ k.selfSusp = x) := by decide +kernel

/-- A PKE batch of one P-256 verification in data SRAM, run and not run. -/
def batch (op : Byte) : Channel :=
  let h : Bytes := [op, 0, 1, 0] ++ leBytes 4 0x101000 ++ leBytes 4 0 ++ leBytes 4 0x102000 ++ zeros 16
  wide { up.chan 0 with mem := memStore [] 0x100000 h, pke := { (up.chan 0).pke with en := true, queue := [(0, 0x100000)] } }
def verifying : Channel :=
  let c := batch 2
  { c with
    mem := memStore c.mem 0x101000 (zeros 32 ++ sign1 .p256 (zeros 32) ++ pub1 .p256 ++ zeros 16)
    pke := { c.pke with queue := [(1, 0)], running := some ⟨0, 2, 1, 0x101000, 0, 0x102000, []⟩ } }

theorem test_read (ch : Ch) (d : Device) (m a n : Nat) (c : Channel) (h : dmaBad c.table .read a n = none ∧ badWordIn c.table a n = none) :
    engineRead ch d m a n c = (some (c.bytesAt a n), c) := by
  simp [engineRead, h.1, h.2]

theorem test_extents (l : List (Nat × Nat × Bool)) (c : Channel)
    (h : (l.all fun x => inData x.1 x.2.1 && (dmaBad c.table (if x.2.2 then .write else .read) x.1 x.2.1).isNone) = true) : extentsRefused l c = (false, c) := by
  induction l with
  | nil => rfl
  | cons x xs ih =>
    simp only [List.all_cons, Bool.and_eq_true, Option.isNone_iff_eq_none] at h
    simp [extentsRefused, h.1.1, h.1.2, ih (by simpa using h.2)]

theorem test_pke_witness :
    (∀ op ∈ [2, 0x7F], let c := batch (byte op)
     c.pke.en = true ∧ c.pke.held < 4 ∧ c.pke.queue = [(0, 0x100000)] ∧ c.pke.running = none ∧ c.pke.clearing = false ∧ inData 0x100000 32 = true ∧
       inData 0 32 = false ∧ ∃ b, engineRead 0 up.dev 4 0x100000 32 { c with pke := { c.pke with queue := [] } } = (some b, { c with pke := { c.pke with queue := [] } })) ∧
    (up.chan 0).pke.en = false ∧ (let p : Pke := { clearing := true }
     p.clearing = true ∧ p.running = none ∧ p.queue = []) := by
  refine ⟨fun op h => ⟨by revert op; decide +kernel, by revert op; decide +kernel, rfl, rfl, rfl, by decide +kernel, by decide +kernel, _,
    test_read _ _ _ _ _ _ (by revert op; decide +kernel)⟩, by decide +kernel⟩

theorem test_batch_witness :
    (let c := batch 2
     let q := { c with pke := { c.pke with queue := [] } }
     let h := PkeHeader.ofBytes (q.bytesAt 0x100000 32)
     let o : PkeOp := ⟨.verify, 176, 0, 0, .p256, 0⟩
     pkeOp h.op = some o ∧ h.bad o = false ∧ extentsRefused (h.extents o) q = (false, q) ∧ loadKey 0 up.dev 0 h o q = (some [], q)) ∧
    pkeOp (PkeHeader.ofBytes ((batch 0x7F).bytesAt 0x100000 32)).op = none :=
  ⟨⟨by decide +kernel, by decide +kernel, test_extents _ _ (by decide +kernel), rfl⟩, by decide +kernel⟩

/-- The engine's run: complete, and with a fault; a run that draws waits for an instance that is not ready. -/
theorem test_run_witness : let o : PkeOp := ⟨.verify, 176, 0, 0, .p256, 0⟩
    let r : PkeRun := ⟨0, 2, 1, 0x101000, 0, 0x102000, []⟩
    verifying.pke.running = some r ∧ pkeOp r.op = some o ∧ drawPrime o verifying = .ok verifying ∧
      (runOps 0 up.dev r o none r.count 0 verifying).1 = .complete ∧ (runOps 0 up.dev r o (some 0) r.count 0 verifying).1 = .fault :=
  ⟨rfl, by decide +kernel, rfl, by decide +kernel, by decide +kernel⟩

/-- A key generation that waits for random bytes of an instance that is due for a reseed. -/
def generating : Channel :=
  let c := batch 5
  { c with pke := { c.pke with running := some ⟨0, 5, 1, 0x101000, 0x103000, 0x102000, []⟩ }
           rng := { c.rng with source := .running, inst := Vector.replicate 8 { state := 2, count := drbgLimit } } }

theorem test_run_waits_witness : ∃ r o, generating.pke.running = some r ∧ pkeOp r.op = some o ∧ drawPrime o generating = .ok generating ∧
    (runOps 0 up.dev r o none r.count 0 generating).1 = .waits := ⟨_, _, rfl, rfl, rfl, by decide +kernel⟩

/-- The hash engine: contexts 0 and 1, SHA-256 on the tree lane and not. -/
theorem test_hash_rows_witness :
    (bits (5 : Word).toNat 1 0 ≠ 0) ∧ (let h : HashEngine := { ctxs := (up.chan 0).hash.ctxs.set 0 { alg := 1, opened := true } }
     h.sel = 0 ∧ (h.ctx 0).alg = 1) ∧ ¬ ((up.chan 0).hash.sel = 0 ∧ ((up.chan 0).hash.ctx 0).alg = 1) ∧
    (∀ x ∈ [(false, false), (true, true), (true, false)], let o : HashOp := ⟨1, x.2, 0x100000, 64⟩
     let h : HashEngine := { main := [o], ctxs := (up.chan 0).hash.ctxs.set 1 { alg := 2, opened := x.1 } }
     (if false then h.lane else h.main) = o :: [] ∧ (h.ctx o.ctx).opened = x.1 ∧ o.final = x.2 ∧ hashSource o.src o.len = true ∧
       dmaBad (wide (up.chan 0)).table .read o.src o.len = none ∧ badWordIn (wide (up.chan 0)).table o.src o.len = none) := by decide +kernel

/-- A cipher engine whose context 2 is in a state, with a mode and a key length in its settings. -/
def ciphering (st : CxState) (cfg : Nat) : Cipher := { en := true, cxs := (Vector.replicate 8 ({} : Cx)).set 2 { st := st, cfg := cfg, src := 0x100000, aux := 0x100000 } }

theorem test_cipher_witness :
    (let e := ciphering .free 0
     (List.finRange 8).find? (fun k => ((e.cxs.set 0 { st := .held }).set 1 { st := .held } |>.get k).st == .free) = some 2 ∧ e.en = true ∧ e.halted = false) ∧
    (let e : Cipher := { cxs := Vector.replicate 8 { st := .held } }
     ∀ k : Fin 8, (e.cxs.get k).st ≠ .free) ∧
    (∀ st ∈ [CxState.held, .keyed, .opened], ((ciphering st 0).cxs.get 2).heldNow = true ∧ ((ciphering st 0).cxs.get 2).fifo = []) ∧
    ((ciphering .clearing 0).cxs.get 2).st = .clearing ∧ (ciphering .clearing 0).halted = false ∧
    (let x := (ciphering .keyed 0x10).cxs.get 2
     bits 0x20 5 4 ≠ x.klen ∧ x.klen ≠ 3 ∧ inData x.src (klenBytes x.klen) = true ∧ dmaBad (wide (up.chan 0)).table .read x.src (klenBytes x.klen) = none ∧
       badWordIn (wide (up.chan 0)).table x.src (klenBytes x.klen) = none ∧ ∀ k : Fin 8, k ≠ 2 → ((ciphering .held 0).cxs.get k).st ≠ .keyed ∧ ((ciphering .held 0).cxs.get k).st ≠ .opened) ∧
    (let e : Cipher := { ciphering .held 0 with cxs := (ciphering .held 0).cxs.set 5 { st := .keyed, key := zeros 16 } }
     (5 : Fin 8) ≠ 2 ∧ (e.cxs.get 5).st = .keyed ∧ (e.cxs.get 5).key = (wide (up.chan 0)).bytesAt 0x100000 16) ∧
    (let x : Cx := { st := .held, fifo := List.replicate 8 ⟨1, false, 0, 0, 0, 0⟩, started := true, ctr := 9, hw := 9 }
     8 ≤ x.fifo.length ∧ x.started = true ∧ 5 < x.ctr ∧ x.ctr ≤ 2 ^ 32 ∧ 5 < x.hw) := by decide +kernel

theorem test_message_rows_witness :
    (∃ cfg, let x := (ciphering .keyed cfg).cxs.get 2
     x.st = .keyed ∧ x.mode = 3 ∧ x.dec = false ∧ x.ivsrc ≠ 0 ∧ startRule x = none ∧ counterRule x = none) ∧
    (∃ o, startRule ((ciphering .keyed 7).cxs.get 2) = some o) ∧
    (∀ m ∈ [2, 3, 4], let x := (ciphering .opened m).cxs.get 2
     x.st = .opened ∧ x.mode = m ∧ x.msg.phase ≤ 1 ∧ x.msg.aad.length % 16 = 0 ∧ x.msg.aad.length + x.len ≤ 0xFFFFFFFF ∧ x.total % 16 = 0 ∧
       inData x.src x.len = true ∧ dmaBad (wide (up.chan 0)).table .read x.src x.len = none ∧ badWordIn (wide (up.chan 0)).table x.src x.len = none) ∧
    (∃ cfg, let x := (ciphering .opened cfg).cxs.get 2
     x.st = .opened ∧ x.mode = 3 ∧ x.dec = true ∧ inData x.aux x.tagLen = true ∧ dmaBad (wide (up.chan 0)).table .read x.aux x.tagLen = none ∧
       badWordIn (wide (up.chan 0)).table x.aux x.tagLen = none) :=
  ⟨⟨0x103, by decide +kernel⟩, ⟨7, by decide +kernel⟩, by decide +kernel, ⟨0xB, by decide +kernel⟩⟩

/-- The random generators. -/
theorem test_random_witness :
    ((up.chan 0).rng.delivers = false ∧ (up.chan 0).rng.source = .off) ∧
    (let r : Rng := { source := .running, inst := (up.chan 0).rng.inst.set 3 { wants := 2 } }
     r.delivers = true ∧ (List.finRange 8).find? (fun k => decide (0 < (r.inst.get k).wants)) = some 3 ∧ r.run < 3 ∧ r.calTick = none) ∧
    (let c : Channel := { up.chan 0 with state := .booting, bootStep := 3 }
     c.state = .booting ∧ c.bootStep = 3) ∧
    ((up.chan 0).state ≠ .booting ∧ ({ source := .proofing } : Rng).source = .proofing) ∧
    (∀ n ∈ [0, 4], let g : Drbg := { current := some ⟨2, false, 0, 0, true, true⟩, queue := List.replicate n ⟨2, false, 0, 0, true, true⟩ }
     g.current.isSome = true ∧ (g.queue.length < 4 ↔ n = 0)) ∧
    (let g : Drbg := { state := 3, current := some ⟨1, false, 0x100000, 16, true, true⟩, blocks := [[], []] }
     2 ≤ g.blocks.length ∧ g.queue = []) ∧
    (let q : RngReq := ⟨2, false, 0x100000, 16, true, true⟩
     0 < q.len ∧ q.len ≤ 65536 ∧ inData q.dst q.len = true ∧ rngBad (wide (up.chan 0)).table q = none ∧ (0 : Nat) < drbgLimit) ∧
    (2 ^ 20 ≤ ({ state := 1, count := 2 ^ 20 } : Drbg).count) ∧
    (up.dev.lifecycle ≠ 1 ∧ ({ up.dev with lifecycle := 1 } : Device).lifecycle = 1 ∧ (3 : Word).getLsbD 0 = true) ∧
    (let r : Rng := { tpEn := true }
     r.tpEn = true ∧ r.samples = [] ∧ r.aptPos = 0 ∧ r.rctRun = 0) := by decide +kernel

theorem test_table_debt_witness :
    (let s := on (fun c => { c with notice := true }) { up with dev := { up.dev with tick := 40000000 } }
     debtWaits .sramScrub up.dev (unit up 0) = false ∧ (unit up 0).table.leakTick + 1000 * max 1 (unit up 0).table.bucketLeak ≤ 10 ^ 12 ∧
       (unit up 0).nv.leakTick + 1000 * max 1 (unit up 0).nv.leak ≤ 10 ^ 12 ∧
       debtWaits .sramScrub s.dev { unit s 0 with table := { (unit s 0).table with scrubTick := some 0 } } = true) ∧
    (let a : AccessTable := { (unit up 0).table with leakTick := up.dev.tick }
     up.dev.tick < a.leakTick + 1000 * max 1 a.bucketLeak) := by decide +kernel

theorem test_flash_held_witness : State.reset.pw.link = false ∧ up.pw.link = true ∧ debtWaits .flashScrub up.dev (unit up 0) = false ∧
    (let c : Channel := { unit up 0 with nv := { (unit up 0).nv with dropped := true } }
     debtWaits .refresh up.dev c = false) ∧
    (let c : Channel := { unit up 0 with notice := true, nv := { (unit up 0).nv with dropped := true } }
     debtWaits .refresh { up.dev with tick := 40000000 } c = true) ∧
    (let b : NvBank := { busy := some ⟨1, false, false, 0x80000, 0, [], false⟩ }
     ∃ k, b.busy = some k ∧ k.cmd ≠ 5 ∧ k.cmd ≠ 3 ∧ k.autosusp = false) :=
  ⟨by decide +kernel, by decide +kernel, by decide +kernel, by decide +kernel, by decide +kernel, _, rfl, by decide +kernel⟩

/-- A page of each area, and the first entry of a refresh FIFO that names it. -/
theorem test_refresh_witness :
    (∀ a ∈ [0, 0xBE00], a < 0xC000) ∧ (0xC000 ≤ 0xC000 ∧ sectorOf 0xC000 < 8) ∧
    (∀ a ∈ [sectorBase 8, sectorBase 23, sectorBase 34, sectorBase 37], 0xC000 ≤ a ∧
      ((8 ≤ sectorOf a ∧ sectorOf a < 24) ∨ (34 ≤ sectorOf a ∧ sectorOf a < 38))) ∧
    (∀ a ∈ [sectorBase 60, sectorBase 67, sectorBase 70], (60 ≤ sectorOf a ∧ sectorOf a < 68) ∨ sectorOf a = 70) ∧
    (∀ a ∈ [sectorBase 24, sectorBase 29], 0xC000 ≤ a ∧ 24 ≤ sectorOf a ∧ sectorOf a < 30) ∧
    (∀ a ∈ [sectorBase 30, sectorBase 33], 0xC000 ≤ a ∧ 30 ≤ sectorOf a ∧ sectorOf a < 34) ∧
    (let c : Channel := { unit up 0 with refreshing := some (8, []) }
     c.refreshing = some (8, []) ∧ c.nv.busy = none) := by decide +kernel

/-- A run whose first draw an instance withholds, or makes wait. -/
theorem test_prime_witness : let o : PkeOp := ⟨.rsaPublic, 0, 128, 0, .p256, 0⟩
    drawPrime o (rngOf { state := 3 } generating) = .error .withheld ∧
    drawPrime o (rngOf { state := 1, count := drbgLimit } generating) = .error .waits :=
  ⟨test_stop_of _ _ (by decide +kernel), test_stop_of _ _ (by decide +kernel)⟩

theorem test_pke_ends_witness :
    verifying.pke.running.isSome = true ∧ verifying.pke.queue ≠ [] ∧
    (let p : Pke := { clearing := true, ending := [⟨1, 1, 0⟩], queue := [(2, 0)] }
     p.clearing = true ∧ p.ending ≠ []) := by decide +kernel

/-- A channel whose cipher engine runs, idle, with context 2 in a state, and a table that allows everything. -/
def ciphered (st : CxState) (cfg : Nat) : Channel := wide { up.chan 0 with ce := ciphering st cfg }

theorem test_cipher_idle_witness : ∀ st ∈ [CxState.held, .keyed, .opened],
    let c := ciphered st 0x10
    (c.ce.en = true ∧ c.ce.halted = false ∧ ∀ k : Fin 8, (c.ce.cxs.get k).fifo = []) ∧ (c.ce.cxs.get 2).heldNow = true ∧
      (∀ q ∈ c.jr.entries, q.state = .claimed → q.engaged.ctx ≠ some 2) ∧ (c.ce.cxs.get 2).fifo.length < 8 := by decide +kernel

/-- A job that firmware has entered in the context's engagement record. -/
theorem test_cipher_named_witness : let q : JEntry := { asked 0x0201 0 0 [] with engaged := { ctx := some 2 } }
    let c := (posting [q] fun _ => { ciphered .held 0 with jr := { (up.chan 0).jr with entries := [q] } }).chan 0
    c.jr.entries.find? (fun q => q.state == .claimed && q.engaged.ctx == some 2) = some q ∧ (c.ce.cxs.get 2).st ≠ .keyed := by decide +kernel

theorem test_cipher_reads_witness : let c := ciphered .keyed 0x10
    let x := c.ce.cxs.get 2
    dmaBad c.table .read x.src (klenBytes x.klen) = none ∧ badWordIn c.table x.src (klenBytes x.klen) = none ∧ inData x.src (klenBytes x.klen) = true ∧
      0x300000 ≤ 0x300040 ∧ 0x300040 + klenBytes x.klen ≤ 0x3FFFC0 ∧ dmaBad c.table .write 0x102000 16 = none ∧ partWordBad c.table 0x102000 16 = none ∧
      inData 0x102000 16 = true ∧ 0x100000 + 16 ≤ 0x102000 := by decide +kernel

/-- Contexts with counters: a START that is refused by the mode, and one whose counter is at its limit. -/
theorem test_start_witness :
    (∃ o, startRule ((ciphering .keyed 7).cxs.get 2) = some o) ∧
    (let x : Cx := { st := .keyed, cfg := 0x103, started := true, limit := 5, ctr := 6 }
     startRule x = none ∧ (counterRule x).isSome = true) := ⟨⟨7, by decide +kernel⟩, by decide +kernel⟩

theorem test_release_clear_witness :
    (let e : Cipher := { cxs := ((Vector.replicate 8 ({} : Cx)).set 2 { st := .clearing }).set 5 { st := .clearing }, waiting := true }
     (e.cxs.get 2).st = .clearing ∧ e.halted = false ∧ (∃ k : Fin 8, k ≠ 2 ∧ (e.cxs.get k).st = .clearing) ∧ e.waiting = true) ∧
    (({} : Cx).heldNow = false ∧ ({} : Cx).st ≠ .clearing) := by decide +kernel

/-- The random generators once more: no instance wants a block; a proofing that has failed before; too few blocks. -/
theorem test_random_more_witness :
    (let r : Rng := { source := .running }
     r.delivers = true ∧ (∀ k : Fin 8, (r.inst.get k).wants = 0) ∧ (∀ t, r.calTick = some t → t + 600000 ≤ up.dev.tick)) ∧
    (let r : Rng := { source := .proofing, again := 2 }
     r.source = .proofing ∧ 3 ≤ r.again + 1 ∧ (r.inst.get 0).state = 0) ∧
    (let g : Drbg := { state := 1, current := some ⟨3, false, 0, 0, true, true⟩, blocks := [[]] }
     (g.state = 1 ∨ g.state = 2) ∧ g.blocks.length < 2) ∧
    (let g : Drbg := { state := 2, blocks := [[], []] }
     g.state = 2 ∧ 2 ≤ g.blocks.length ∧ g.current = none) ∧
    (let c : Channel := { up.chan 0 with notice := true, rng := { (up.chan 0).rng with source := .running, calTick := some 0 } }
     debtWaits .calibration up.dev c = false ∧ debtWaits .calibration { up.dev with tick := 40000000 } c = true) ∧
    ((∃ t, ({ calTick := some 5 } : Rng).calTick = some t ∧ (5 : Nat) < t + 600000) ∧ ({ rawRd := true } : Rng).tpEn = false ∧
      ({ source := .calibrating } : Rng).source = .calibrating) := by
  refine ⟨⟨by decide +kernel, by decide +kernel, fun t h => by cases h⟩, by decide +kernel, by decide +kernel, by decide +kernel, by decide +kernel,
    ⟨5, rfl, by decide +kernel⟩, by decide +kernel⟩

/-! ### Boot, the step, reset, isolation -/

/-- A channel that boots. -/
def booting (step : Nat) (f : Channel → Channel) : State :=
  on (fun c => f { c with state := .booting, bootStep := step, jr := { c.jr with lastReset := 0 } }) up

theorem test_boot_witness :
    (let s := booting 0 fun c => { c with confirm := true }
     let s := { s with dev := { s.dev with mgmtUp := false } }
     s.dev.has 0 = true ∧ (s.chan 0).state = .booting ∧ (s.chan 0).bootStep < 3 ∧ (s.chan 0).needsConfirm = true ∧ mgmtServes s = false) ∧
    (∀ x ∈ [(true, true), (false, false)], let s := booting 0 fun c => { c with fw := if x.1 then c.fw else { c.fw with a := none } }
     let c := s.chan 0
     s.dev.has 0 = true ∧ c.state = .booting ∧ c.bootStep < 3 ∧ c.needsConfirm = false ∧ fastRestart {} c = false ∧
       (bootSlot false s.mg.chSvn (!c.jr.entries.isEmpty) c.fw c.fw.order).1.isSome = x.2) ∧
    (let s := { booting 0 id with dev := { up.dev with tick := 40000000 } }
     (s.chan 0).sf.bistTick + 28800000 < s.dev.tick ∧ fastRestart {} (s.chan 0) = false) ∧
    (let s := booting 0 fun c => { c with jr := { c.jr with lastReset := 4 } }
     (s.chan 0).needsConfirm = false ∧ fastRestart {} (s.chan 0) = true) ∧
    (∀ r ∈ [0, 4], let s := booting 4 fun c => { c with jr := { c.jr with lastReset := r } }
     let c := s.chan 0
     s.dev.has 0 = true ∧ c.state = .booting ∧ c.bootStep = 4 ∧ c.needsConfirm = false ∧ (c.jr.lastReset = r) ∧ c.shard.assigned = false ∧
       s.dev.lifecycle = 7 ∧ (bootEnv 0 s).tampered = false ∧ ∀ p ∈ c.keys.slots, p.2.faulty = false) := by decide +kernel

/-- An entry in COMMITTING at the boot. -/
theorem test_committing_witness : let e : JEntry := { asked 0x0F41 0 0 [] with state := .committing, ready := some (effect (up.chan 0)) }
    let s := booting 4 fun c => { c with jr := { c.jr with entries := [e] } }
    let c := s.chan 0
    c.patches = [] ∧ c.table.badWords = [] ∧ c.sf.valid = false ∧ e ∈ c.jr.entries ∧ e.state = .committing ∧
      (∀ o ∈ c.jr.entries, o.state = .committing → o = e) := by decide +kernel

/-- A channel whose root-load has its tree image in a locked window; its root in battery memory is `r`. -/
def loading (lock : Bool) (r : Bytes) : State :=
  booting 5 fun c => { c with
    shard := { c.shard with assigned := true, root := r }
    host := { c.host with win := { c.host.win with lock := lock, limit := { c.host.win.limit with value := 0xFFFFF } } } }

theorem test_source (img : Option Bytes) (c : Channel) (v : Bool) (h : c.nv.words = [])
    (h2 : c.host.win.holds c.shard.treeBase 262144 = v) : treeSource img c = if v then img.map treeOfImage else none := by
  have n : comparedBackup c = none := by simp [comparedBackup, NvBank.backups, newestBackup, h]
  simp [treeSource, n, h2]

theorem test_root_load_witness (img r : Bytes) : ∀ lock : Bool,
    let s := loading lock r
    let c := s.chan 0
    s.dev.has 0 = true ∧ c.state = .booting ∧ c.bootStep = 5 ∧ c.shard.assigned = true ∧ c.held = false ∧ c.pair.role ≠ .standbyEmpty ∧
      treeSource (some img) (applyFlips [] c) = (if lock then some (treeOfImage img) else none) ∧ c.shard.root = r ∧ treePatches c = [] ∧
      s.dev.lifecycle = 7 ∧ (bootEnv 0 s).tampered = false ∧ c.keys.slots = [] ∧ c.jr.entries = [] :=
  fun lock => ⟨rfl, rfl, rfl, rfl, rfl, nofun, test_source _ _ lock rfl (by
    show Window.holds { lock := lock, limit := { value := 0xFFFFF } } 0 262144 = lock
    cases lock <;> decide +kernel), rfl, rfl, rfl, (by
    show bit (loading lock r).tp.tampered (0 : Ch).val = false
    rw [show (loading lock r).tp = up.tp from rfl]
    decide +kernel), rfl, rfl⟩

/-- Both outcomes of the root's comparison. -/
theorem test_root_witness (img : Bytes) : ∃ r q : Bytes, treeRoot (treeOfImage img) = r ∧ treeRoot (treeOfImage img) ≠ q :=
  ⟨_, treeRoot (treeOfImage img) ++ [0], rfl, by simp⟩

theorem test_step_witness :
    (∃ c, let s := { State.reset with pending := [c, .cntClr 0] }
     ∃ rest, s.pending = c :: rest) ∧ State.reset.pending = [] ∧
    (∀ x ∈ [(true, false, 1), (false, true, 1), (false, false, 0)],
      let s := { State.reset with pw := { State.reset.pw with main := x.1 }, tp := { State.reset.tp with battery := x.2.1 } }
      s.pw.main = x.1 ∧ s.tp.battery = x.2.1) := ⟨⟨.nop 0, [.cntClr 0], rfl⟩, rfl, by decide +kernel⟩

theorem test_dark_witness : DisabledDark State.reset ∧
    (let s := { State.reset with dev := { State.reset.dev with enabled := 4 } }
     DisabledDark s ∧ s.dev.has 3 = true ∧ s.dev.has 4 = false) := by decide +kernel

theorem test_isolation_witness :
    reaches (.nop 0) = some 0 ∧ reaches (.jobCommit 3 1) = some 3 ∧ reaches (.refreshPop 5) = some 5 ∧ reaches (.nop 16) = none ∧
    (let s1 := up
     let s2 := { up with mg := { up.mg with chSvn := 9 } }
     s1.chan 0 = s2.chan 0 ∧ s1.dev = s2.dev ∧ s1.tp = s2.tp ∧ s1.pw = s2.pw ∧ s1.mg.chSvn ≠ s2.mg.chSvn ∧
     ∃ t1 t2, Ends (.nop 0) s1 t1 ∧ Ends (.nop 0) s2 t2) :=
  ⟨rfl, rfl, rfl, rfl, rfl, rfl, rfl, rfl, by decide +kernel, _, _, rfl, rfl⟩

/-! ### Commands that are not well formed -/

theorem test_wf_refuses : ∀ i ∈ [
    Instr.jobCommit 0 4096, .revocationLoad 0 5000, .promote 0 1 (some []), .promote 0 4096 none, .dmaReadDone 0 1 64 none, .dmaReadDone 0 4096 0 none,
    .jobClaim 0 (some []) none none none, .jobClaim 0 none none none (some [1]), .sqDoorbellInline 0 0 [], .sqDoorbellInlinePartial 0 0 60 8,
    .registerWrite (.func 0) 2 [0, 0, 0, 0], .registerWrite (.func 0) 0 [0, 0], .registerWrite (.func 0) 0 [],
    .registerWrite (.core 0) 0 [0, 0, 0, 0, 0, 0, 0, 0], .registerWrite (.core 0) 0x100000 [0, 0, 0, 0],
    .mailboxTakeUp (some (List.replicate 4097 0)), .channelBoot 0 { image := some [] }, .channelBoot 0 { corrected := [(0x1BFFFF, 0)] }, .channelBoot 0 { corrected := [(0x1C0000, 72)] },
    .channelBoot 0 { uncorrectable := [0x300000] }, .channelBoot 0 { flips := [(0, 0)] }, .channelBoot 0 { rows := [(0, 0, 0, 72)] },
    .channelBoot 0 { slots := [16] },
    .rootLoadRetry 0 (some []) [] 0, .rootLoadRetry 0 none [(0x300000, 0)] 0, .managementBoot [[]] [], .managementBoot [] [[1]],
    .bmov 0 0 (some 65536), .vmac 0 0 (some 65536), .divs 0 0 (some 65536), .hblkFeed 0 0 0 (some 65536), .hblkFinal 0 0 0 (some 65536),
    .tamperArm [.source 32 0] 0, .tamperTrip [.source 32 0] 0, .batteryBurst [.source 40 0], .sensorSample [], .transitSample 2048 false, .classTokenRefill 16,
    .smbusPacketReceive false 0 true (List.replicate 69 0), .flashWindowRead 0 0x200000 0 none, .flashWindowRead 16 0x400000 0 none, .inventory [1, 2], .ack (List.replicate 129 0),
    .readLog [] true, .writeNote [] true none], i.wf = false := by decide +kernel

theorem test_wf_accepts : ∀ i ∈ [
    Instr.jobCommit 0 4095, .dmaReadDone 0 4095 63 none, .jobClaim 0 (some (zeros 64)) none none none, .sqDoorbellInline 0 0 (zeros 64),
    .sqDoorbellInlinePartial 0 0 60 4, .registerWrite (.func 0) 4 [0, 0, 0, 0], .registerWrite (.core 0) 0xFFFFC [0, 0, 0, 0], .mailboxTakeUp (some []),
    .channelBoot 0 { corrected := [(0x1C0000, 71)], flips := [(0x2FFFFF, 1)], slots := [15] }, .flashWindowRead 16 0x3FFFFF 0 none, .managementBoot [zeros 32] [], .bmov 0 0 (some 65535), .tamperArm [.source 31 0] 0, .batteryBurst [.wires 139 0 true false], .sensorSample (List.replicate 36 0),
    .transitSample 2047 false, .classTokenRefill 15, .smbusPacketReceive false 0 true (zeros 68), .flashWindowRead 0 0x1FFFFF 0 none, .ack (zeros 128),
    .nop 0], i.wf = true := by decide +kernel

/-! ### Single steps with results the spec gives -/

/-- Depth, the top of channel 0's stack and PSW's OV after a command. -/
def topAfter (i : Instr) (s : State) : Option (Nat × Word × Bool) :=
  match exec i s with
  | .next t => let k := (t.chan 0).core.landEvery; some (k.depth, (k.top 1).headD 0, k.psw.getLsbD 3)
  | _ => none

/-- R256: a sum outside 32 bits sets OV; it saturates with SAT set and wraps with SAT clear. -/
theorem test_add_ov : let s (p : Word) := cpu p fun k => { k with regs := (k.regs.set 6 0x7FFFFFFF).set 7 1 }
    topAfter (.add 0) (s 0x704) = some (7, 0x7FFFFFFF, true) ∧ topAfter (.add 0) (s 0x700) = some (7, 0x80000000, true) := by decide +kernel

/-- R265: PUSH16 extends its sign, PUSHU16 does not. -/
theorem test_push_signs : topAfter (.push16 0 0xFFFE) (cpu 0x700 id) = some (9, 0xFFFFFFFE, false) ∧
    topAfter (.pushu16 0 0xFFFE) (cpu 0x700 id) = some (9, 0xFFFE, false) := by decide +kernel

/-- R4: nothing reaches a channel that the fuses do not enable. -/
theorem test_disabled : (match exec (.cntClr 5) { cpu 0x700 id with dev := { State.reset.dev with enabled := 4 } } with
    | .next t => (t.chan 5).state == .reset
    | _ => false) = true := by decide +kernel

end Sys2Proof.Test
end

section
/-! SUPPORT. What lasts: the queue's rest, the fuses of the channels and the firmware floors (R4, R408, R411). Each operation and
each command of the model leaves them, one lemma a function in the order of the model's files; the commit of an update session alone
raises a floor. -/

namespace Sys2Proof.Machine

/-- What no command but UPDATE_COMMIT changes of the state: the commands that wait, the fuses of the channels (R4) and the
firmware floors MG_SVN and CH_SVN (R408). -/
structure Lasting where
  pending : List Instr
  enabled : Nat
  mgSvn : Nat
  chSvn : Nat

/-- What lasts of a state. -/
def State.lasting (s : State) : Lasting := ⟨s.pending, s.dev.enabled, s.mg.mgSvn, s.mg.chSvn⟩

/-- `b` is `a`, but that a floor may have risen. -/
structure Lasting.Grows (a b : Lasting) : Prop where
  pending : b.pending = a.pending
  enabled : b.enabled = a.enabled
  mgSvn : a.mgSvn ≤ b.mgSvn
  chSvn : a.chSvn ≤ b.chSvn

theorem Lasting.Grows.of_eq {a b : Lasting} (h : b = a) : a.Grows b := h ▸ ⟨rfl, rfl, Nat.le_refl _, Nat.le_refl _⟩

/-! ### How `lasting` meets records, branches and folds

An update written as a record is unfolded to its fields, and the fields of one state are folded up again. -/

@[simp] theorem lasting_mk (p : List Instr) (c : Vector Channel 16) (f : Fn0) (d : Device) (a : AonQueue) (u : Channel) (m : Mgmt)
    (l : Recorder) (t : Tamper) (n : Tag) (k : Cards) (w : Power) :
    (State.mk p c f d a u m l t n k w).lasting = ⟨p, d.enabled, m.mgSvn, m.chSvn⟩ := rfl

section
variable (s : State)

@[simp] theorem lasting_fold : Lasting.mk s.pending s.dev.enabled s.mg.mgSvn s.mg.chSvn = s.lasting := rfl

@[simp] theorem lasting_mgSvn : s.lasting.mgSvn = s.mg.mgSvn := rfl

@[simp] theorem lasting_chSvn : s.lasting.chSvn = s.mg.chSvn := rfl

@[simp] theorem lasting_ite (c : Prop) [Decidable c] (t : State) :
    (if c then s else t).lasting = if c then s.lasting else t.lasting := apply_ite State.lasting c s t

@[simp] theorem mgSvn_ite (c : Prop) [Decidable c] (m n : Mgmt) : (if c then m else n).mgSvn = if c then m.mgSvn else n.mgSvn :=
  apply_ite Mgmt.mgSvn c m n

@[simp] theorem chSvn_ite (c : Prop) [Decidable c] (m n : Mgmt) : (if c then m else n).chSvn = if c then m.chSvn else n.chSvn :=
  apply_ite Mgmt.chSvn c m n

@[simp] theorem foldl_lasting {α : Type} (f : State → α → State) (l : List α) (h : ∀ s a, (f s a).lasting = s.lasting) :
    (l.foldl f s).lasting = s.lasting := foldl_keeps State.lasting f h l s

/-- The same for a fold that carries a result beside the state. -/
theorem foldl_snd_lasting {α β : Type} (f : β × State → α → β × State) (h : ∀ r a, (f r a).2.lasting = r.2.lasting) (l : List α)
    (r : β × State) : (l.foldl f r).2.lasting = r.2.lasting := by
  induction l generalizing r with
  | nil => rfl
  | cons a l ih => rw [List.foldl_cons, ih, h]

@[simp] theorem onTag_mg (f : Tag → Tag) : (onTag f s).mg = s.mg := rfl

@[simp] theorem onSd_mg (f : SdHost → SdHost) : (onSd f s).mg = s.mg := rfl

@[simp] theorem onSc_mg (f : ScSlot → ScSlot) : (onSc f s).mg = s.mg := rfl

/-! ### Ops -/

@[simp] theorem setChan_lasting (ch : Ch) (c : Channel) : (setChan s ch c).lasting = s.lasting := rfl

@[simp] theorem onChan_lasting (ch : Ch) (f : Ch → Device → Channel → Channel) : (onChan ch f s).lasting = s.lasting := by
  simp [onChan]

@[simp] theorem raiseFn0_lasting (v : Nat) : (raiseFn0 v s).lasting = s.lasting := by
  unfold raiseFn0; split <;> simp

@[simp] theorem aonCrumb_lasting (x : Crumb) : (aonCrumb x s).lasting = s.lasting := by simp [aonCrumb]

@[simp] theorem raiseMg_lasting (i : Nat) : (raiseMg i s).lasting = s.lasting := by simp [raiseMg]

@[simp] theorem collect_lasting (ch : Ch) : (collect ch s).lasting = s.lasting := by simp [collect]

@[simp] theorem onChanS_lasting (ch : Ch) (f : Ch → Device → Channel → Channel) : (onChanS ch f s).lasting = s.lasting := by simp [onChanS]

/-! ### AccessRows -/

@[simp] theorem collectMg_lasting : (collectMg s).lasting = s.lasting := by simp [collectMg]

@[simp] theorem onUnit_lasting (u : Core) (f : Device → Channel → Channel) : (onUnit u f s).lasting = s.lasting := by
  unfold onUnit; split <;> simp

/-! ### HostPort -/

@[simp] theorem lockWindow_lasting (fn : Fin 17) : (lockWindow fn s).lasting = s.lasting := by simp [lockWindow]

/-! ### Flash -/

@[simp] theorem onKeep_lasting (bank : Core) (f : Device → Channel → Channel) : (onKeep bank f s).lasting = s.lasting := by simp [onKeep]

@[simp] theorem historyGives_lasting (t : State) : (historyGives s t).lasting = t.lasting := by simp [historyGives]

/-! ### Resets -/

@[simp] theorem onAll_lasting (f : Ch → Device → Channel → Channel) : (onAll f s).lasting = s.lasting := by simp [onAll]

@[simp] theorem onEvery_lasting (f : Ch → Device → Channel → Channel) : (onEvery f s).lasting = s.lasting := by simp [onEvery]

/-! ### MgmtOps -/

@[simp] theorem mgCrumb_lasting (src code p0 p1 p2 p3 : Nat) : (mgCrumb src code p0 p1 p2 p3 s).lasting = s.lasting := by simp [mgCrumb]

/-- A change of management's record alone: the floors are those of the new record. -/
@[simp] theorem onMg_lasting (f : Mgmt → Mgmt) :
    (onMg f s).lasting = ⟨s.pending, s.dev.enabled, (f s.mg).mgSvn, (f s.mg).chSvn⟩ := rfl

@[simp] theorem mgReady_lasting (i : Fin 8) : (mgReady i s).lasting = s.lasting := by simp [mgReady]

@[simp] theorem mgDraw_lasting (i : Fin 8) (n : Nat) : (mgDraw i n s).2.lasting = s.lasting := by simp [mgDraw]

@[simp] theorem onFn0_lasting (f : Fn0 → Fn0) : (onFn0 f s).lasting = s.lasting := by simp [onFn0]

@[simp] theorem tamperSource_lasting (v : Nat) : (tamperSource v s).lasting = s.lasting := by simp [tamperSource]

@[simp] theorem endMessage_lasting (status : Nat) (response : Option Bytes) : (endMessage status response s).lasting = s.lasting := by
  simp [endMessage]

@[simp] theorem answer_lasting (payload : Bytes) : (answer payload s).lasting = s.lasting := by
  unfold answer; split <;> simp

@[simp] theorem refuse_lasting (status : Nat) : (refuse status s).lasting = s.lasting := by
  unfold refuse; split <;> simp

/-- A mailbox command leaves what lasts when its meaning does; so for the other shared rows below. -/
@[simp] theorem onCommand_lasting (code : Nat) {f : Bytes → State → State} (h : ∀ p s, (f p s).lasting = s.lasting) :
    (onCommand code f s).lasting = s.lasting := by
  unfold onCommand; split <;> simp [h]

@[simp] theorem useAuth_lasting (kind : Nat) (b : Bytes) : (useAuth kind b s).lasting = s.lasting := by simp [useAuth]

@[simp] theorem mailboxGo_lasting : (mailboxGo s).lasting = s.lasting := by simp [mailboxGo]

@[simp] theorem mailboxTakeUp_lasting (request : Option Bytes) : (mailboxTakeUp request s).lasting = s.lasting := by
  cases request <;> simp [mailboxTakeUp]

@[simp] theorem mailboxTimeout_lasting : (mailboxTimeout s).lasting = s.lasting := by simp [mailboxTimeout]

/-! ### TamperOps -/

@[simp] theorem loseSession_lasting : (loseSession s).lasting = s.lasting := by simp [loseSession]

@[simp] theorem endCeremony_lasting (cause : Nat) : (endCeremony cause s).lasting = s.lasting := by
  unfold endCeremony; split <;> simp

@[simp] theorem managementReset_lasting (k : ResetKind) (activation : Bool) : (managementReset k activation s).lasting = s.lasting := by
  unfold managementReset
  extract_lets ended told side thaw cleared u
  calc cleared.lasting = told.lasting := rfl
    _ = ended.lasting := by simp [told]
    _ = s.lasting := by simp [ended]

@[simp] theorem respondMgmt_lasting (flash : Bool) : (respondMgmt flash s).lasting = s.lasting := by simp [respondMgmt]

@[simp] theorem dieReset_lasting : (dieReset s).lasting = s.lasting := by simp [dieReset]

@[simp] theorem sessionTo_lasting (st : Nat) : (sessionTo st s).lasting = s.lasting := by simp [sessionTo]

@[simp] theorem sessionFailed_lasting : (sessionFailed s).lasting = s.lasting := by simp [sessionFailed]

@[simp] theorem respond_lasting (mask : Nat) : (respond mask s).lasting = s.lasting := by
  cases hm : (endCeremony 4 s).pw.main <;> cases hd : bit mask 16 <;> simp [respond, hm, hd]

@[simp] theorem tamperCrumb_lasting (code p0 p1 p2 p3 : Nat) : (tamperCrumb code p0 p1 p2 p3 s).lasting = s.lasting := by simp [tamperCrumb]

@[simp] theorem tripSample_lasting (met : List (Nat × Nat)) : (tripSample met s).lasting = s.lasting := by
  simp [tripSample]

@[simp] theorem mainSamples_lasting (l : List TamperSense) (n : Nat) (watched : Nat × Nat → Bool) :
    (mainSamples l n watched s).lasting = s.lasting := by
  simp [mainSamples]

@[simp] theorem countSamples_lasting (n : Nat) : (countSamples n s).lasting = s.lasting := by simp [countSamples]

/-! ### Power -/

@[simp] theorem loseBattery_lasting : (loseBattery s).lasting = s.lasting := by simp [loseBattery]

@[simp] theorem cellGone_lasting : (cellGone s).lasting = s.lasting := by simp [cellGone]

@[simp] theorem countsAtPower_lasting : (countsAtPower s).lasting = s.lasting := by simp [countsAtPower]

@[simp] theorem keysAtPower_lasting : (keysAtPower s).lasting = s.lasting := by simp [keysAtPower]

@[simp] theorem deviceSafeState_lasting (cause : Nat) : (deviceSafeState cause s).lasting = s.lasting := by
  simp [deviceSafeState]

@[simp] theorem powerApply_lasting (start : StartUp) : (powerApply start s).lasting = s.lasting := by simp [powerApply]

@[simp] theorem blowCut_lasting : (blowCut s).lasting = s.lasting := by
  unfold blowCut; split <;> simp

@[simp] theorem supplyFall_lasting : (supplyFall s).lasting = s.lasting := by simp [supplyFall]

@[simp] theorem supplyRecover_lasting (rail : Nat) : (supplyRecover rail s).lasting = s.lasting := by simp [supplyRecover]

@[simp] theorem powerLoss_lasting : (powerLoss s).lasting = s.lasting := by
  cases hc : s.tp.cell <;> simp [powerLoss, hc]

@[simp] theorem linkTrain_lasting : (linkTrain s).lasting = s.lasting := by simp [linkTrain]

@[simp] theorem linkFailed_lasting : (linkFailed s).lasting = s.lasting := by simp [linkFailed]

@[simp] theorem linkFrame_lasting (toKeep : Bool) (frame : LinkFrame) : (linkFrame toKeep frame s).lasting = s.lasting := by
  simp [linkFrame]

@[simp] theorem tamperArm_lasting (met : List TamperSense) (micros : Nat) : (tamperArm met micros s).lasting = s.lasting := by
  simp [tamperArm]

@[simp] theorem sessionReset_lasting (ch : Ch) : (sessionReset ch s).lasting = s.lasting := by simp [sessionReset]

@[simp] theorem channelRelease_lasting (ch : Ch) : (channelRelease ch s).lasting = s.lasting := by simp [channelRelease]

@[simp] theorem checkCompat_lasting (ch : Ch) : (checkCompat ch s).lasting = s.lasting := by
  unfold checkCompat; split <;> simp

@[simp] theorem sessionArrived_lasting : (sessionArrived s).lasting = s.lasting := by simp [sessionArrived]

@[simp] theorem afterBoot_lasting (ch : Ch) : (afterBoot ch s).lasting = s.lasting := by simp [afterBoot]

@[simp] theorem confirmBoot_lasting (ch : Ch) : (confirmBoot ch s).lasting = s.lasting := by simp [confirmBoot]

@[simp] theorem channelBoot_lasting (ch : Ch) (seen : BootSeen) : (channelBoot ch seen s).lasting = s.lasting := by simp [channelBoot]

@[simp] theorem rootRetry_lasting (ch : Ch) (image : Option Bytes) (flips : List (Nat × Byte)) (micros : Nat) :
    (rootRetry ch image flips micros s).lasting = s.lasting := by
  simp [rootRetry]

@[simp] theorem waitMgmtRetry_lasting (ch : Ch) : (waitMgmtRetry ch s).lasting = s.lasting := by simp [waitMgmtRetry]

@[simp] theorem warmReset_lasting : (warmReset s).lasting = s.lasting := by simp [warmReset]

@[simp] theorem functionCrumb_lasting (fn : Nat) : (functionCrumb fn s).lasting = s.lasting := by simp [functionCrumb]

@[simp] theorem flrChannel_lasting (ch : Ch) : (flrChannel ch s).lasting = s.lasting := by simp [flrChannel]

@[simp] theorem flrMgmt_lasting : (flrMgmt s).lasting = s.lasting := by simp [flrMgmt]

@[simp] theorem perstAssert_lasting : (perstAssert s).lasting = s.lasting := by simp [perstAssert]

@[simp] theorem perstDeassert_lasting : (perstDeassert s).lasting = s.lasting := by simp [perstDeassert]

@[simp] theorem configRequest_lasting (fn : Fin 17) : (configRequest fn s).lasting = s.lasting := by simp [configRequest]

@[simp] theorem setD3hot_lasting (fn : Fin 17) (on : Bool) : (setD3hot fn on s).lasting = s.lasting := by simp [setD3hot]

@[simp] theorem sliceFault_lasting (fn : Fin 17) (fault : SliceError) : (sliceFault fn fault s).lasting = s.lasting := by simp [sliceFault]

@[simp] theorem refclkLoss_lasting : (refclkLoss s).lasting = s.lasting := by simp [refclkLoss]

@[simp] theorem refclkReturn_lasting : (refclkReturn s).lasting = s.lasting := by simp [refclkReturn]

@[simp] theorem crystalLoss_lasting : (crystalLoss s).lasting = s.lasting := by simp [crystalLoss]

@[simp] theorem cellInsert_lasting : (cellInsert s).lasting = s.lasting := by simp [cellInsert]

@[simp] theorem hearthDown_lasting : (hearthDown s).lasting = s.lasting := by simp [hearthDown]

@[simp] theorem hearthRecover_lasting : (hearthRecover s).lasting = s.lasting := by simp [hearthRecover]

/-! ### Recorder -/

@[simp] theorem onLog_lasting (pinned : Bool) (f : LogState → LogState) : (onLog pinned f s).lasting = s.lasting := by simp [onLog]

@[simp] theorem flushLog_lasting (pinned : Bool) : (flushLog pinned s).lasting = s.lasting := by simp [flushLog]

@[simp] theorem raiseNew_lasting : (raiseNew s).lasting = s.lasting := by simp [raiseNew]

@[simp] theorem fileInto_lasting (pinned now : Bool) (b : Bytes) : (fileInto pinned now b s).lasting = s.lasting := by simp [fileInto]

@[simp] theorem toLog_lasting (pinned pin : Bool) (b : Bytes) : (toLog pinned pin b s).lasting = s.lasting := by simp [toLog]

@[simp] theorem onClass_lasting (cls : Nat) (f : ClassBucket → ClassBucket) : (onClass cls f s).lasting = s.lasting := by simp [onClass]

@[simp] theorem acceptCrumb_lasting (x : Crumb) : (acceptCrumb x s).lasting = s.lasting := by
  simp only [acceptCrumb]; split <;> simp

@[simp] theorem takeCrumb_lasting : (takeCrumb s).lasting = s.lasting := by
  cases h : s.log.inbox <;> simp [takeCrumb, h]

@[simp] theorem segmentTimeout_lasting : (segmentTimeout s).lasting = s.lasting := by simp [segmentTimeout]

@[simp] theorem clearPinned_lasting (qset : Nat) : (clearPinned qset s).lasting = s.lasting := by simp [clearPinned]

@[simp] theorem drainLog_lasting (pinned : Bool) (ms : Nat) : (drainLog pinned ms s).lasting = s.lasting := by
  simp only [drainLog]; split <;> simp

@[simp] theorem freezeLog_lasting : (freezeLog s).lasting = s.lasting := by simp [freezeLog]

@[simp] theorem unfreezeLog_lasting : (unfreezeLog s).lasting = s.lasting := by simp [unfreezeLog]

@[simp] theorem evCtrlWrite_lasting (v : Word) : (evCtrlWrite v s).lasting = s.lasting := by simp [evCtrlWrite]

@[simp] theorem evStatWrite_lasting (v : Word) : (evStatWrite v s).lasting = s.lasting := by simp [evStatWrite]

@[simp] theorem freezeExpiry_lasting : (freezeExpiry s).lasting = s.lasting := by simp [freezeExpiry]

@[simp] theorem evDataRead_lasting (word : Nat) : (evDataRead word s).lasting = s.lasting := by simp [evDataRead]

@[simp] theorem classGet_lasting (p : Bytes) : (classGet p s).lasting = s.lasting := by
  unfold classGet; split <;> simp

@[simp] theorem classSet_lasting (p : Bytes) : (classSet p s).lasting = s.lasting := by simp [classSet]

@[simp] theorem logRead_lasting (p : Bytes) : (logRead p s).lasting = s.lasting := by simp [logRead]

@[simp] theorem pinnedClear_lasting (p : Bytes) : (pinnedClear p s).lasting = s.lasting := by simp [pinnedClear]

@[simp] theorem recorderBoot_lasting (tornRolling tornPinned : List Bytes) :
    (recorderBoot tornRolling tornPinned s).lasting = s.lasting := by
  simp [recorderBoot]

@[simp] theorem deliverPort_lasting (ch : Ch) : (deliverPort ch s).lasting = s.lasting := by simp [deliverPort]

@[simp] theorem deliverAon_lasting : (deliverAon s).lasting = s.lasting := by simp [deliverAon]

/-! ### TagOps -/

@[simp] theorem onTag_lasting (f : Tag → Tag) : (onTag f s).lasting = s.lasting := by simp [onTag]

@[simp] theorem onFrame_lasting (code : Nat) (b : Bytes) {g : Bytes → State → State} (h : ∀ b s, (g b s).lasting = s.lasting) :
    (onFrame code b g s).lasting = s.lasting := by
  unfold onFrame; split
  · rfl
  · split <;> simp [h]

@[simp] theorem onHandle_lasting (code : Nat) (states : List TagState) (b : Bytes) {g : Bytes → Option (Bytes × Bytes) → State → State}
    (h : ∀ b a s, (g b a s).lasting = s.lasting) : (onHandle code states b g s).lasting = s.lasting :=
  onFrame_lasting s code b (by simp [h])

@[simp] theorem tagEvent_lasting (crumb : Option (Nat × Nat × Nat × Nat)) (source : Option Nat) :
    (tagEvent crumb source s).lasting = s.lasting := by
  cases crumb <;> cases source <;> simp [tagEvent]

@[simp] theorem writeIdentity_lasting : (writeIdentity s).lasting = s.lasting := by simp [writeIdentity]

@[simp] theorem offlineSummary_lasting : (offlineSummary s).lasting = s.lasting := by simp [offlineSummary]

/-! ### Sensors -/

@[simp] theorem settleAlert_lasting : (settleAlert s).lasting = s.lasting := by simp [settleAlert]

@[simp] theorem sensorWarned_lasting (n : Nat) (x : Sensor) : (sensorWarned n x s).lasting = s.lasting := by simp [sensorWarned]

@[simp] theorem sensorSample_lasting (values : List Int) : (sensorSample values s).lasting = s.lasting := by simp [sensorSample]

@[simp] theorem publishTelemetry_lasting : (publishTelemetry s).lasting = s.lasting := by
  unfold publishTelemetry
  split
  · rfl
  · extract_lets seq record published
    have h : published.lasting = s.lasting := rfl
    split <;> simp [h]

@[simp] theorem appendHistory_lasting : (appendHistory s).lasting = s.lasting := by simp [appendHistory]

@[simp] theorem sensorConfig_lasting (p : Bytes) : (sensorConfig p s).lasting = s.lasting := by simp [sensorConfig]

@[simp] theorem sensorHistory_lasting (p : Bytes) : (sensorHistory p s).lasting = s.lasting := by simp [sensorHistory]

/-! ### Update -/

@[simp] theorem onTargets_lasting (f : FwSlots → FwSlots) : (onTargets f s).lasting = s.lasting := by simp [onTargets]

@[simp] theorem onPorts_lasting (component mask : Nat) (f : FwSlots → NvBank → NvBank) :
    (onPorts component mask f s).lasting = s.lasting := by
  simp [onPorts]

@[simp] theorem portWaits_lasting (component mask : Nat) : (portWaits component mask s).lasting = s.lasting := by simp [portWaits]

@[simp] theorem portEnds_lasting (component mask : Nat) (f : FwSlots → NvBank → NvBank) :
    (portEnds component mask f s).lasting = s.lasting := by
  simp [portEnds]

@[simp] theorem requestPorts_lasting (mask : Nat) : (requestPorts mask s).lasting = s.lasting := by simp [requestPorts]

@[simp] theorem openSession_lasting (pldm : Bool) (component mask len : Nat) :
    (openSession pldm component mask len s).2.lasting = s.lasting := by
  simp only [openSession]
  repeat' split
  all_goals simp

@[simp] theorem writePiece_lasting (b : Bytes) : (writePiece b s).lasting = s.lasting := by simp [writePiece]

@[simp] theorem verifySession_lasting : (verifySession s).2.lasting = s.lasting := by
  simp only [verifySession]; split <;> simp

@[simp] theorem markTrial_lasting : (markTrial s).lasting = s.lasting := by simp [markTrial]

@[simp] theorem takeUpOwn_lasting : (takeUpOwn s).lasting = s.lasting := by simp [takeUpOwn]

@[simp] theorem abortSession_lasting : (abortSession s).lasting = s.lasting := by simp [abortSession]

/-- The one change: a commit raises the floor of the component it commits to the SVN of its image, where that is higher (R411). -/
theorem commitSession_grows : s.lasting.Grows (commitSession s).lasting := by
  unfold commitSession
  extract_lets n u marked raised
  have hm : marked.lasting = s.lasting := onTargets_lasting s _
  have hr : (onMg (fun m => { m with update := {} }) (sessionTo 0 raised)).lasting = raised.lasting := by simp
  rw [hr, ← hm]
  by_cases h : u.component = 1
  · exact ⟨rfl, rfl, by simp [raised, h, Nat.le_max_left], by simp [raised, h]⟩
  · exact ⟨rfl, rfl, by simp [raised, h], by simp [raised, h, Nat.le_max_left]⟩

@[simp] theorem onMailboxSession_lasting (states : List Nat) {f : State → State} (h : (f s).lasting = s.lasting) :
    (onMailboxSession states f s).lasting = s.lasting := by
  simp [onMailboxSession, h]

@[simp] theorem answerStatus_lasting (r : Nat × State) : (answerStatus r).lasting = r.2.lasting := by simp [answerStatus]

@[simp] theorem updateBegin_lasting (p : Bytes) : (updateBegin p s).lasting = s.lasting := by simp [updateBegin]

@[simp] theorem updateData_lasting (p : Bytes) : (updateData p s).lasting = s.lasting := by simp [updateData]

@[simp] theorem updateVerify_lasting (p : Bytes) : (updateVerify p s).lasting = s.lasting := by simp [updateVerify]

@[simp] theorem updateActivate_lasting (p : Bytes) : (updateActivate p s).lasting = s.lasting := by simp [updateActivate]

theorem updateCommit_grows (p : Bytes) : s.lasting.Grows (updateCommit p s).lasting := by
  simp only [updateCommit, onMailboxSession]
  split
  · exact .of_eq (by simp)
  split
  · exact .of_eq (by simp)
  · rw [answer_lasting]
    exact commitSession_grows s

theorem onCommand_updateCommit_grows : s.lasting.Grows (onCommand 0x0034 updateCommit s).lasting := by
  unfold onCommand
  split
  · split
    · exact updateCommit_grows s _
    · exact .of_eq rfl
  · exact .of_eq rfl

@[simp] theorem updateRevert_lasting (p : Bytes) : (updateRevert p s).lasting = s.lasting := by simp [updateRevert]

@[simp] theorem updateAbort_lasting (p : Bytes) : (updateAbort p s).lasting = s.lasting := by simp [updateAbort]

@[simp] theorem updateStatus_lasting (p : Bytes) : (updateStatus p s).lasting = s.lasting := by simp [updateStatus]

@[simp] theorem trialTimeout_lasting (t : Core) : (trialTimeout t s).lasting = s.lasting := by
  unfold trialTimeout; split <;> simp

@[simp] theorem grantPort_lasting (ch : Ch) : (grantPort ch s).lasting = s.lasting := by simp [grantPort]

/-! ### Management -/

@[simp] theorem filesSlots_lasting (bad : List (Bool × Nat)) : (filesSlots bad s).lasting = s.lasting := by simp [filesSlots]

@[simp] theorem mgmtStart_lasting (slot : Bool) (i : FwImage) (torn0 torn1 : List Bytes) :
    (mgmtStart slot i torn0 torn1 s).lasting = s.lasting := by
  unfold mgmtStart
  extract_lets normal _ carded running _ loaded ready recorded checked u
  have h : checked.lasting = s.lasting := calc
    checked.lasting = recorded.lasting := by simp [checked]
    _ = loaded.lasting := by simp [recorded, ready]
    _ = s.lasting := rfl
  split <;> simp [h]

@[simp] theorem stayInRom_lasting : (stayInRom s).lasting = s.lasting := by simp [stayInRom]

@[simp] theorem mgmtBoot_lasting (torn0 torn1 : List Bytes) : (mgmtBoot torn0 torn1 s).lasting = s.lasting := by
  simp only [mgmtBoot]
  repeat' split
  all_goals simp

@[simp] theorem getInfo_lasting (p : Bytes) : (getInfo p s).lasting = s.lasting := by simp [getInfo]

@[simp] theorem sidebandConfig_lasting (p : Bytes) : (sidebandConfig p s).lasting = s.lasting := by simp [sidebandConfig]

@[simp] theorem lifecycleAdvance_lasting (p : Bytes) : (lifecycleAdvance p s).lasting = s.lasting := by simp [lifecycleAdvance]

@[simp] theorem blowDone_lasting : (blowDone s).lasting = s.lasting := by
  simp only [blowDone]
  repeat' split
  all_goals simp

/-! ### Sideband -/

@[simp] theorem onSide_lasting (f : Sideband → Sideband) : (onSide f s).lasting = s.lasting := by simp [onSide]

@[simp] theorem sendSide_lasting (m : SideMsg) : (sendSide m s).lasting = s.lasting := by simp [sendSide]

@[simp] theorem messageReceived_lasting (m : SideMsg) : (messageReceived m s).lasting = s.lasting := by
  unfold messageReceived; split <;> simp

@[simp] theorem packetReceived_lasting (vdm : Bool) (addr : Nat) (pecOk : Bool) (p : Bytes) :
    (packetReceived vdm addr pecOk p s).lasting = s.lasting := by
  simp only [packetReceived]
  repeat' split
  all_goals simp

@[simp] theorem onRequest_lasting (c : SideCmd) {f : SideMsg → Bytes → State → State} (h : ∀ m p s, (f m p s).lasting = s.lasting) :
    (onRequest c f s).lasting = s.lasting := by
  unfold onRequest; split <;> simp [h]

@[simp] theorem answerSide_lasting (c : SideCmd) (f : Bytes → State → Nat × Bytes) : (answerSide c f s).lasting = s.lasting := by
  simp [answerSide]

@[simp] theorem setEid_lasting (m : SideMsg) (p : Bytes) : (setEid m p s).lasting = s.lasting := by simp [setEid]

@[simp] theorem setTid_lasting (m : SideMsg) (p : Bytes) : (setTid m p s).lasting = s.lasting := by simp [setTid]

@[simp] theorem sensorReading_lasting (m : SideMsg) (p : Bytes) : (sensorReading m p s).lasting = s.lasting := by
  simp only [sensorReading]; split <;> simp

@[simp] theorem smbusRetry_lasting : (smbusRetry s).lasting = s.lasting := by
  simp only [smbusRetry]; split <;> simp

@[simp] theorem smbusTimeout_lasting : (smbusTimeout s).lasting = s.lasting := by simp [smbusTimeout]

/-! ### Pldm -/

@[simp] theorem pldmTo_lasting (n : Nat) : (pldmTo n s).lasting = s.lasting := by simp [pldmTo]

@[simp] theorem askAgent_lasting (cmd : Nat) (body : Bytes) : (askAgent cmd body s).lasting = s.lasting := by simp [askAgent]

@[simp] theorem requestUpdate_lasting (m : SideMsg) (p : Bytes) : (requestUpdate m p s).lasting = s.lasting := by simp [requestUpdate]

@[simp] theorem inUpdate_lasting (states : List Nat) (m : SideMsg) {f : State → State} (h : (f s).lasting = s.lasting) :
    (inUpdate states m f s).lasting = s.lasting := by
  simp [inUpdate, h]

@[simp] theorem passTable_lasting (m : SideMsg) (p : Bytes) : (passTable m p s).lasting = s.lasting := by simp [passTable]

@[simp] theorem updateComponent_lasting (m : SideMsg) (p : Bytes) : (updateComponent m p s).lasting = s.lasting := by simp [updateComponent]

@[simp] theorem downloadDone_lasting : (downloadDone s).lasting = s.lasting := by simp [downloadDone]

@[simp] theorem requestData_lasting (response : Option Bytes) : (requestData response s).lasting = s.lasting := by
  unfold requestData; split <;> simp

@[simp] theorem activateFirmware_lasting (m : SideMsg) (p : Bytes) : (activateFirmware m p s).lasting = s.lasting := by
  simp [activateFirmware]

@[simp] theorem dropComponent_lasting : (dropComponent s).lasting = s.lasting := by simp [dropComponent]

@[simp] theorem cancelComponent_lasting (m : SideMsg) (p : Bytes) : (cancelComponent m p s).lasting = s.lasting := by simp [cancelComponent]

@[simp] theorem cancelUpdate_lasting (m : SideMsg) (p : Bytes) : (cancelUpdate m p s).lasting = s.lasting := by simp [cancelUpdate]

/-! ### Monitor -/

@[simp] theorem tamperTrip_lasting (met : List TamperSense) (samples : Nat) : (tamperTrip met samples s).lasting = s.lasting := by
  simp [tamperTrip]

@[simp] theorem batteryBurst_lasting (met : List TamperSense) : (batteryBurst met s).lasting = s.lasting := by simp [batteryBurst]

@[simp] theorem episodeEnd_lasting (src : Nat) : (episodeEnd src s).lasting = s.lasting := by simp [episodeEnd]

@[simp] theorem selfCheck_lasting (failing : Bool) : (selfCheck failing s).lasting = s.lasting := by simp [selfCheck]

@[simp] theorem removalArm_lasting : (removalArm s).lasting = s.lasting := by simp [removalArm]

@[simp] theorem removedOnMain_lasting : (removedOnMain s).lasting = s.lasting := by simp [removedOnMain]

@[simp] theorem cellRemoved_lasting : (cellRemoved s).lasting = s.lasting := by simp [cellRemoved]

@[simp] theorem tamperStatus_lasting (p : Bytes) : (tamperStatus p s).lasting = s.lasting := by simp [tamperStatus]

@[simp] theorem tamperChallenge_lasting (p : Bytes) : (tamperChallenge p s).lasting = s.lasting := by simp [tamperChallenge]

@[simp] theorem clearedMgmt_lasting : (clearedMgmt s).lasting = s.lasting := by simp [clearedMgmt]

@[simp] theorem tamperClear_lasting (p : Bytes) : (tamperClear p s).lasting = s.lasting := by simp [tamperClear]

@[simp] theorem policyChanged_lasting (policy : Nat) : (policyChanged policy s).lasting = s.lasting := by simp [policyChanged]

@[simp] theorem tamperWiden_lasting (p : Bytes) : (tamperWiden p s).lasting = s.lasting := by simp [tamperWiden]

@[simp] theorem tamperNarrow_lasting (p : Bytes) : (tamperNarrow p s).lasting = s.lasting := by simp [tamperNarrow]

@[simp] theorem copyKeys_lasting : (copyKeys s).lasting = s.lasting := by simp [copyKeys]

@[simp] theorem tamperMode_lasting (p : Bytes) : (tamperMode p s).lasting = s.lasting := by simp [tamperMode]

@[simp] theorem battInterval_lasting (p : Bytes) : (battInterval p s).lasting = s.lasting := by simp [battInterval]

/-! ### SafetyRows -/

@[simp] theorem trialEnds_lasting (ch : Ch) : (trialEnds ch s).lasting = s.lasting := by simp [trialEnds]

@[simp] theorem safetyTimeout_lasting (ch : Ch) : (safetyTimeout ch s).lasting = s.lasting := by simp [safetyTimeout]

@[simp] theorem safetyExchange_lasting (result : Nat) : (safetyExchange result s).lasting = s.lasting := by simp [safetyExchange]

@[simp] theorem startNotice_lasting (ch : Ch) : (startNotice ch s).lasting = s.lasting := by simp [startNotice]

@[simp] theorem noticeSlot_lasting (ch : Ch) : (noticeSlot ch s).lasting = s.lasting := by simp [noticeSlot]

@[simp] theorem safetyStatus_lasting (p : Bytes) : (safetyStatus p s).lasting = s.lasting := by simp [safetyStatus]

@[simp] theorem releaseChannel_lasting (ch : Ch) : (releaseChannel ch s).lasting = s.lasting := by simp [releaseChannel]

@[simp] theorem safetyRelease_lasting (p : Bytes) : (safetyRelease p s).lasting = s.lasting := by simp [safetyRelease]

@[simp] theorem bistSchedule_lasting (p : Bytes) : (bistSchedule p s).lasting = s.lasting := by simp [bistSchedule]

@[simp] theorem withChannel_lasting {f : Ch → State → State} (p : Bytes) (h : ∀ ch s, (f ch s).lasting = s.lasting) :
    (withChannel f p s).lasting = s.lasting := by
  simp only [withChannel]; split
  · split <;> simp [h]
  · simp

@[simp] theorem bistDefer_lasting (p : Bytes) : (bistDefer p s).lasting = s.lasting := by simp [bistDefer]

@[simp] theorem bistNow_lasting (p : Bytes) : (bistNow p s).lasting = s.lasting := by simp [bistNow]

@[simp] theorem mbistResults_lasting (p : Bytes) : (mbistResults p s).lasting = s.lasting := by simp [mbistResults]

/-! ### Tag -/

@[simp] theorem fieldOn_lasting : (fieldOn s).lasting = s.lasting := by simp [fieldOn]

@[simp] theorem fieldLoss_lasting : (fieldLoss s).lasting = s.lasting := by simp [fieldLoss]

@[simp] theorem inventory_lasting (b : Bytes) : (inventory b s).lasting = s.lasting := by simp [inventory]

@[simp] theorem nextSlot_lasting : (nextSlot s).lasting = s.lasting := by simp [nextSlot]

@[simp] theorem tagAck_lasting (b : Bytes) : (tagAck b s).lasting = s.lasting := by simp [tagAck]

@[simp] theorem authStart_lasting (b : Bytes) (a : Option (Bytes × Bytes)) : (authStart b a s).lasting = s.lasting := by
  simp only [authStart]
  repeat' split
  all_goals simp

@[simp] theorem authFinish_lasting (b : Bytes) (a : Option (Bytes × Bytes)) : (authFinish b a s).lasting = s.lasting := by
  unfold authFinish; split <;> simp

@[simp] theorem dtSelect_lasting (p : Bytes) (a : Option (Bytes × Bytes)) : (dtSelect p a s).lasting = s.lasting := by simp [dtSelect]

@[simp] theorem dtAccess_lasting (b : Bytes) (p : Option (Bytes × Bytes)) : (dtAccess b p s).lasting = s.lasting := by simp [dtAccess]

@[simp] theorem dtRead_lasting (b : Bytes) (p : Option (Bytes × Bytes)) : (dtRead b p s).lasting = s.lasting := by simp [dtRead]

@[simp] theorem onSecure_lasting (inner td : Nat) {g : Bytes → State → Bytes × State} (b : Bytes)
    (h : ∀ p s, (g p s).2.lasting = s.lasting) : (onSecure inner td g b s).lasting = s.lasting :=
  onHandle_lasting s 0x20 [.active] b fun b a s => by
    simp only []; split <;> simp [h]

@[simp] theorem readLog_lasting (strong : Bool) (p : Bytes) : (readLog strong p s).2.lasting = s.lasting := by
  simp only [readLog]
  repeat' split
  all_goals rfl

@[simp] theorem readTransit_lasting (p : Bytes) : (readTransit p s).2.lasting = s.lasting := by
  unfold readTransit; split <;> simp

@[simp] theorem readTamper_lasting (p : Bytes) : (readTamper p s).2.lasting = s.lasting := by
  simp only [readTamper]; split <;> simp

@[simp] theorem readNote_lasting (p : Bytes) : (readNote p s).2.lasting = s.lasting := by
  simp only [readNote]; split <;> simp

@[simp] theorem writeNote_lasting (strong : Bool) (failed : Option Bytes) (p : Bytes) :
    (writeNote strong failed p s).2.lasting = s.lasting := by
  simp only [writeNote]
  repeat' split
  all_goals simp

@[simp] theorem endSession_lasting (p : Bytes) : (endSession p s).2.lasting = s.lasting := by simp [endSession]

@[simp] theorem transitSample_lasting (temp : Nat) (cellLow : Bool) : (transitSample temp cellLow s).lasting = s.lasting := by
  simp [transitSample]

@[simp] theorem nfStatus_lasting (p : Bytes) : (nfStatus p s).lasting = s.lasting := by simp [nfStatus]

@[simp] theorem notesRead_lasting (p : Bytes) : (notesRead p s).lasting = s.lasting := by simp [notesRead]

@[simp] theorem transitRead_lasting (p : Bytes) : (transitRead p s).lasting = s.lasting := by simp [transitRead]

@[simp] theorem setPassword_lasting (p : Bytes) : (setPassword p s).lasting = s.lasting := by simp [setPassword]

/-! ### Ceremony -/

@[simp] theorem installTagKeys_lasting (fsk : Bytes) : (installTagKeys fsk s).lasting = s.lasting := by simp [installTagKeys]

@[simp] theorem installMgmt_lasting (items : List (Nat × Bytes)) : (installMgmt items s).lasting = s.lasting :=
  foldl_keeps State.lasting _ (fun s x => by split <;> simp) items s

@[simp] theorem installPackage_lasting (seq : Nat) (digest : Bytes) (items : List (Nat × Bytes)) :
    (installPackage seq digest items s).2.lasting = s.lasting := by
  unfold installPackage
  extract_lets noted
  rw [foldl_snd_lasting]
  · simp [noted]
  · intro r ch
    split
    · rfl
    · cases installOn seq digest items (r.2.chan ch) <;> simp

@[simp] theorem drawScalar_lasting (cv : Curve) : (drawScalar cv s).2.lasting = s.lasting := by simp [drawScalar]

@[simp] theorem fleetItems_lasting (desc : Bytes) : (fleetItems desc s).2.lasting = s.lasting := by simp [fleetItems]

/-! ### Cards -/

@[simp] theorem onSd_lasting (f : SdHost → SdHost) : (onSd f s).lasting = s.lasting := by simp [onSd]

@[simp] theorem onSc_lasting (f : ScSlot → ScSlot) : (onSc f s).lasting = s.lasting := by simp [onSc]

@[simp] theorem cardSource_lasting (v : Nat) : (cardSource v s).lasting = s.lasting := by simp [cardSource]

@[simp] theorem endWaiting_lasting (codes : List Nat) (status : Nat) : (endWaiting codes status s).lasting = s.lasting := by
  unfold endWaiting; split <;> simp

@[simp] theorem sdDetect_lasting (card : Option SdSeen) : (sdDetect card s).lasting = s.lasting := by
  unfold sdDetect; split <;> simp

@[simp] theorem sdDone_lasting (crcErrors : Nat) (ok : Bool) : (sdDone crcErrors ok s).lasting = s.lasting := by
  simp only [sdDone]
  repeat' split
  all_goals simp

@[simp] theorem scInsert_lasting : (scInsert s).lasting = s.lasting := by simp [scInsert]

@[simp] theorem scRemove_lasting : (scRemove s).lasting = s.lasting := by
  cases h : s.cards.sc.ins <;> simp [scRemove, h]

@[simp] theorem atrFailed_lasting : (atrFailed s).lasting = s.lasting := by simp [atrFailed]

@[simp] theorem atrTimeout_lasting : (atrTimeout s).lasting = s.lasting := by simp [atrTimeout]

@[simp] theorem scReady_lasting : (scReady s).lasting = s.lasting := by simp [scReady]

@[simp] theorem atrReceived_lasting (b : Bytes) : (atrReceived b s).lasting = s.lasting := by simp [atrReceived]

@[simp] theorem ppsReceived_lasting (b : Bytes) : (ppsReceived b s).lasting = s.lasting := by simp [ppsReceived]

@[simp] theorem cardError_lasting : (cardError s).lasting = s.lasting := by simp [cardError]

@[simp] theorem retransmit_lasting : (retransmit s).lasting = s.lasting := by simp [retransmit]

@[simp] theorem blockReceived_lasting (b : Bytes) : (blockReceived b s).lasting = s.lasting := by simp [blockReceived]

@[simp] theorem scReceived_lasting (b : Bytes) : (scReceived b s).lasting = s.lasting := by
  unfold scReceived; split <;> simp

@[simp] theorem cardStatus_lasting (info p : Bytes) : (cardStatus info p s).lasting = s.lasting := by simp [cardStatus]

@[simp] theorem ceremonyBegin_lasting (p : Bytes) : (ceremonyBegin p s).lasting = s.lasting := by
  simp only [ceremonyBegin]
  repeat' split
  all_goals simp

@[simp] theorem stepDone_lasting (x : Ceremony) (i : Nat) (enrols : Bool) (a : CardAnswer) :
    (stepDone x i enrols a s).lasting = s.lasting := by
  simp [stepDone]

@[simp] theorem onCard_lasting (ins : Nat) (a : Option CardAnswer) {f : CardAnswer → State → State}
    (h : ∀ a s, (f a s).lasting = s.lasting) : (onCard ins a f s).lasting = s.lasting := by
  cases a <;> simp [onCard, h]

@[simp] theorem cardStep_lasting (a : Option CardAnswer) (p : Bytes) : (cardStep a p s).lasting = s.lasting := by
  unfold cardStep
  split
  · simp
  split
  · simp
  split
  · simp
  · exact onCard_lasting s _ a fun a s => by split <;> simp

@[simp] theorem ceremonyDone_lasting (x : Ceremony) (seq : Nat) (id : Bytes) (r : List (Option Nat) × State) :
    (ceremonyDone x seq id r).lasting = r.2.lasting := by
  by_cases k : x.kind ≤ 2 <;> simp [ceremonyDone, k]

@[simp] theorem publishPackage_lasting (x : Ceremony) (fpk id : Bytes) (seq : Nat) (items : List (Nat × Bytes)) :
    (publishPackage x fpk id seq items s).lasting = s.lasting := by
  simp [publishPackage]

@[simp] theorem ceremonyFinish_lasting (p : Bytes) : (ceremonyFinish p s).lasting = s.lasting := by
  simp only [ceremonyFinish]
  repeat' split
  all_goals simp

@[simp] theorem ceremonyAbort_lasting (p : Bytes) : (ceremonyAbort p s).lasting = s.lasting := by simp [ceremonyAbort]

@[simp] theorem ceremonyTimeout_lasting : (ceremonyTimeout s).lasting = s.lasting := by
  unfold ceremonyTimeout; split <;> simp

@[simp] theorem cardSign_lasting (a : Option CardAnswer) (p : Bytes) : (cardSign a p s).lasting = s.lasting := by simp [cardSign]

@[simp] theorem sdStatus_lasting (p : Bytes) : (sdStatus p s).lasting = s.lasting := by simp [sdStatus]

@[simp] theorem backupWrite_lasting (p : Bytes) : (backupWrite p s).lasting = s.lasting := by
  cases h : s.mg.fbk <;> simp [backupWrite, h]

@[simp] theorem authChallenge_lasting (p : Bytes) : (authChallenge p s).lasting = s.lasting := by simp [authChallenge]

@[simp] theorem sdEject_lasting (p : Bytes) : (sdEject p s).lasting = s.lasting := by simp [sdEject]

/-! ### CoreBus -/

@[simp] theorem nfStore_lasting (o : Nat) (v : Word) : (nfStore o v s).lasting = s.lasting := by
  unfold nfStore; split <;> simp

@[simp] theorem sdStore_lasting (o : Nat) (v : Word) : (sdStore o v s).lasting = s.lasting := by
  unfold sdStore; split <;> simp

@[simp] theorem scStore_lasting (o : Nat) (v : Word) : (scStore o v s).lasting = s.lasting := by
  unfold scStore
  extract_lets n
  split
  · simp
  · split <;> simp

@[simp] theorem mgmtBlock_lasting (p : Nat × Option Word) : (mgmtBlock s p).lasting = s.lasting := by
  unfold mgmtBlock; split <;> simp

@[simp] theorem flushWrites_lasting : (flushWrites s).lasting = s.lasting := by simp [flushWrites]

@[simp] theorem onCore_lasting (u : Core) (f : Ext → Ch → Device → Channel → Channel) : (onCore u f s).lasting = s.lasting := by
  unfold onCore; split <;> simp

@[simp] theorem issueOn_lasting (u : Core) (i : KOp) (stop : Option Nat) (wait : Nat) : (issueOn u i stop wait s).lasting = s.lasting := by
  simp [issueOn]

/-! ### RegisterRows -/

/-- A change of function 0's slice alone. -/
theorem setFn0_lasting (f : Fn0) : ({ s with fn0 := f } : State).lasting = s.lasting := rfl

@[simp] theorem fn0Msix_lasting (off : Nat) (v : Word) : (fn0Msix off v s).lasting = s.lasting := by simp [fn0Msix]

@[simp] theorem fn0Write_lasting (off : Nat) (v : Word) : (fn0Write off v s).lasting = s.lasting := by
  unfold fn0Write
  extract_lets idle
  split
  · exact setFn0_lasting s _
  split
  · simp
  split
  case h_1 | h_8 | h_9 | h_10 | h_11 | h_13 => simp
  case h_12 => split <;> rfl
  all_goals
    split
    · exact setFn0_lasting s _
    · rfl

@[simp] theorem funcWord_lasting (fn : Fin 17) (start : Nat) (b : Bytes) (off : Nat) (v : Word) :
    (funcWord fn start b off v s).lasting = s.lasting := by
  simp [funcWord]

@[simp] theorem funcWrite_lasting (fn : Fin 17) (off : Nat) (b : Bytes) : (funcWrite fn off b s).lasting = s.lasting := by
  have words (n : Nat) : (funcWords fn off b n s).lasting = s.lasting := by
    induction n with
    | zero => rfl
    | succ n ih => simp [funcWords, ih]
  simp [funcWrite, words]

@[simp] theorem viewUpdate_lasting (u : Core) : (viewUpdate u s).lasting = s.lasting := by simp [viewUpdate]

/-! ### Commands and steps -/

/-- Every command but UPDATE_COMMIT answers a next state and leaves what lasts: each row's meaning is one of the functions above. -/
theorem exec_lasting (i : Instr) (h : i ≠ .updateCommit) : ∃ t, exec i s = .next t ∧ t.lasting = s.lasting := by
  cases i
  case updateCommit => exact absurd rfl h
  case writeAcknowledged fn =>
    simp only [exec, execWriteAcknowledged]
    split
    · exact ⟨_, rfl, rfl⟩
    split
    · exact ⟨_, rfl, by simp⟩
    · exact ⟨_, rfl, by simp⟩
  case registerWrite space off data => cases space <;> exact ⟨_, rfl, by simp⟩
  all_goals exact ⟨_, rfl, by simp⟩

/-- Every command answers a next state, and what lasts only grows. -/
theorem exec_grows (i : Instr) : ∃ t, exec i s = .next t ∧ s.lasting.Grows t.lasting := by
  by_cases h : i = .updateCommit
  · subst h
    exact ⟨_, rfl, onCommand_updateCommit_grows s⟩
  · obtain ⟨t, ht, e⟩ := exec_lasting s i h
    exact ⟨t, ht, .of_eq e⟩

@[simp] theorem msPasses_lasting : (msPasses s).lasting = s.lasting := by simp [msPasses]

end

/-- Settles O57: on an empty queue only the tick goes on, and the command at the front of the queue runs on the state with the
queue's rest, of which what lasts only grows. -/
theorem oneWay : Obligations.OneWay := by
  unfold Obligations.OneWay
  intro s
  cases hp : s.pending with
  | nil =>
    have h := Lasting.Grows.of_eq (msPasses_lasting s)
    exact ⟨msPasses s, by simp [step, hp], h.pending.trans hp, h.enabled, h.mgSvn, h.chSvn⟩
  | cons c rest =>
    obtain ⟨t, ht, h⟩ := exec_grows { s with pending := rest } c
    exact ⟨t, by simp [step, hp, ht], h.pending, h.enabled, h.mgSvn, h.chSvn⟩

end Sys2Proof.Machine
end

section
/-! SUPPORT. The registers, window and ring pairs of a channel function: what each write puts in the channel's record, and what
the words of BAR0 read. -/
namespace Sys2Proof.Machine
open Sys2Proof.Says

/-! ### Bits -/

/-- A bit field looks at its own bits and those above alone. -/
theorem bits_congr {a b : Nat} (hi lo : Nat) (h : ∀ i, lo ≤ i → a.testBit i = b.testBit i) : bits a hi lo = bits b hi lo := by
  refine Nat.eq_of_testBit_eq fun i => ?_
  simp [bits, Nat.testBit_mod_two_pow, Nat.testBit_shiftRight, h (lo + i) (Nat.le_add_right lo i)]

/-- The word 1 has bit 0 alone. -/
theorem one_getLsbD {i : Nat} (h : 1 ≤ i) : (1 : Word).getLsbD i = false := by
  simpa using Nat.ne_of_gt h

/-- Bit 0 of a word set: the bits above it stay. -/
theorem testBit_or_one (v : Word) (i : Nat) (h : 1 ≤ i) : (v ||| 1).toNat.testBit i = v.toNat.testBit i := by
  rw [BitVec.testBit_toNat, BitVec.testBit_toNat, BitVec.getLsbD_or, one_getLsbD h, Bool.or_false]

/-- Bit 0 of a word cleared: the bits above it stay. -/
theorem testBit_and_not_one (v : Word) (i : Nat) (h : 1 ≤ i) : (v &&& ~~~ (1 : Word)).toNat.testBit i = v.toNat.testBit i := by
  rw [BitVec.testBit_toNat, BitVec.testBit_toNat, BitVec.getLsbD_and, BitVec.getLsbD_not, one_getLsbD h]
  by_cases hi : i < 32
  · simp [hi]
  · simp [BitVec.getLsbD_of_ge v i (by omega)]

@[simp] theorem bit_or_one_zero (v : Word) : bit (v ||| 1).toNat 0 = true := by simp [bit]

@[simp] theorem bit_and_not_one_zero (v : Word) : bit (v &&& ~~~ (1 : Word)).toNat 0 = false := by
  show (v &&& ~~~ (1 : Word)).getLsbD 0 = false
  simp

/-! ### RING_CTRL -/

/-- The fields a write of RING_CTRL takes: all of them, but a reserved VEC while EN is 1 is refused (R38). -/
def RingPair.takeFields (v : Word) (p : RingPair) : RingPair :=
  let vec := bits v.toNat 12 8
  let refused := p.en && (4 ≤ vec && vec ≤ 19)
  { p with
    irqEn := bit v.toNat 1, vec := if refused then p.vec else vec, cfgErr := refused
    coCount := bits v.toNat 23 16, coTime := bits v.toNat 31 24 }

/-- A write of RING_CTRL takes its fields, then enables or disables as bit 0 asks. -/
theorem writeCtrl_eq (w : Window) (v : Word) (p : RingPair) : p.writeCtrl w v =
    let n := p.takeFields v
    if bit v.toNat 0 then
      if p.en then n
      else if n.enableOk w then
        { n with en := true, cfgErr := false, sqHead := 0, sqTail := 0, cqTail := 0, cqHead := 0, phase := true,
                 inline := [], fullRaised := false }
      else { n with cfgErr := true }
    else { n with en := false } := rfl

/-- The fields lie above bit 0. -/
theorem takeFields_congr {v w : Word} (h : ∀ i, 1 ≤ i → v.toNat.testBit i = w.toNat.testBit i) (p : RingPair) :
    p.takeFields v = p.takeFields w := by
  have field (hi lo : Nat) (l : 1 ≤ lo) : bits v.toNat hi lo = bits w.toNat hi lo := bits_congr hi lo fun i k => h i (Nat.le_trans l k)
  simp only [RingPair.takeFields, field 12 8 (by decide), field 23 16 (by decide), field 31 24 (by decide),
    show bit v.toNat 1 = bit w.toNat 1 from h 1 (Nat.le_refl _)]

theorem writeCtrl_enable (w : Window) (v : Word) (p : RingPair) : p.writeCtrl w (v ||| 1) =
    if p.en then p.takeFields v
    else if (p.takeFields v).enableOk w then
      { p.takeFields v with en := true, cfgErr := false, sqHead := 0, sqTail := 0, cqTail := 0, cqHead := 0, phase := true,
                            inline := [], fullRaised := false }
    else { p.takeFields v with cfgErr := true } := by
  rw [writeCtrl_eq, takeFields_congr (testBit_or_one v), bit_or_one_zero]
  rfl

theorem writeCtrl_disable (w : Window) (v : Word) (p : RingPair) :
    p.writeCtrl w (v &&& ~~~ (1 : Word)) = { p.takeFields v with en := false } := by
  rw [writeCtrl_eq, takeFields_congr (testBit_and_not_one v), bit_and_not_one_zero]
  rfl

/-- A write that leaves EN as it stands takes the fields and nothing else. -/
theorem writeCtrl_keep (w : Window) (v : Word) (p : RingPair) :
    p.writeCtrl w (if p.en then v ||| 1 else v &&& ~~~ (1 : Word)) = p.takeFields v := by
  cases h : p.en
  · simp only [Bool.false_eq_true, if_false, writeCtrl_disable]
    simp [RingPair.takeFields, h]
  · simp only [if_true, writeCtrl_enable, h]

/-- When an enable is granted (R38). -/
theorem enableOk_takeFields (w : Window) (v : Word) (p : RingPair) (h : p.en = false) : (p.takeFields v).enableOk w = true ↔
    6 ≤ p.sqLog2 ∧ p.sqLog2 ≤ 16 ∧ 6 ≤ p.cqLog2 ∧ p.cqLog2 ≤ 16 ∧ p.sqBase.value.toNat % 4096 = 0 ∧ p.cqBase.value.toNat % 4096 = 0 ∧
      w.holds p.sqBase.value.toNat (64 * p.sqSize) = true ∧ w.holds p.cqBase.value.toNat (32 * p.cqSize) = true ∧
      (bits v.toNat 12 8 < 4 ∨ 19 < bits v.toNat 12 8) := by
  simp [RingPair.enableOk, RingPair.takeFields, RingPair.sqSize, RingPair.cqSize, h, and_assoc]

/-- What an enable leaves in a disabled pair, granted or not (R38). -/
theorem writeCtrl_enable_fields (w : Window) (v : Word) (p : RingPair) (h : p.en = false) :
    let n := p.writeCtrl w (v ||| 1)
    n.vec = bits v.toNat 12 8 ∧ n.sqBase = p.sqBase ∧ n.seqLast = p.seqLast ∧ n.cfgErr = !n.en ∧
      n.en = (p.takeFields v).enableOk w ∧ (n.en = true → n.sqHead = 0 ∧ n.sqTail = 0 ∧ n.cqTail = 0 ∧ n.phase = true) := by
  rw [writeCtrl_enable]
  cases hk : (p.takeFields v).enableOk w <;> simp [h, RingPair.takeFields]

/-- A pair with no reserved VEC to refuse takes every field. -/
theorem takeFields_taken {v : Word} {p : RingPair} (h : p.en = false ∨ bits v.toNat 12 8 < 4 ∨ 19 < bits v.toNat 12 8) :
    p.takeFields v = { p with
      irqEn := bit v.toNat 1, vec := bits v.toNat 12 8, cfgErr := false, coCount := bits v.toNat 23 16
      coTime := bits v.toNat 31 24 } := by
  have hr : (p.en && (4 ≤ bits v.toNat 12 8 && bits v.toNat 12 8 ≤ 19)) = false := by
    rcases h with h | h | h
    · rw [h, Bool.false_and]
    · rw [decide_eq_false (by omega), Bool.false_and, Bool.and_false]
    · rw [decide_eq_false (p := bits v.toNat 12 8 ≤ 19) (by omega), Bool.and_false, Bool.and_false]
  simp only [RingPair.takeFields, hr, Bool.false_eq_true, if_false]

/-- An enabled pair refuses a reserved VEC and takes the rest. -/
theorem takeFields_reserved {v : Word} {p : RingPair} (h : p.en = true) (lo : 4 ≤ bits v.toNat 12 8) (hi : bits v.toNat 12 8 ≤ 19) :
    p.takeFields v = { p with
      irqEn := bit v.toNat 1, cfgErr := true, coCount := bits v.toNat 23 16, coTime := bits v.toNat 31 24 } := by
  simp only [RingPair.takeFields, h, lo, hi, decide_true, Bool.and_self, if_true]

/-! ### One pair, one window -/

@[simp] theorem onPairC_pair (q : Fin 4) (f : RingPair → RingPair) (c : Channel) :
    (onPairC q f c).host.pairs.get q = f (c.host.pairs.get q) := by
  show (c.host.pairs.set q.val (f (c.host.pairs.get q)) q.isLt)[q.val] = _
  simp

theorem onPairC_congr (q : Fin 4) {f g : RingPair → RingPair} {c : Channel} (h : f (c.host.pairs.get q) = g (c.host.pairs.get q)) :
    onPairC q f c = onPairC q g c := by
  simp [onPairC, onPair, h]

theorem request_locked (l : List Window) {w : Window} (h : w.lock = true) : w.request l = w := by simp [Window.request, h]

/-- A lock is granted to a window in order that meets no other locked one (R36). -/
theorem request_lock_iff (l : List Window) {w : Window} (h : w.lock = false) : (w.request l).lock = true ↔
    w.base.value.toNat ≤ w.limit.value.toNat ∧ ∀ o ∈ l, o.lock = true → o.overlaps w = false := by
  simp [Window.request, h]

@[simp] theorem request_base (l : List Window) (w : Window) : (w.request l).base = w.base := by
  unfold Window.request; split <;> rfl

@[simp] theorem request_limit (l : List Window) (w : Window) : (w.request l).limit = w.limit := by
  unfold Window.request; split <;> rfl

/-- A locked window takes no word. -/
theorem bar0Write_window_locked {c : Channel} (h : c.host.win.lock = true) (v : Word) : bar0Write 0x00C0 v c = c := by
  have hw : c.host.win.write 0 v = c.host.win := if_pos h
  show { c with host := { c.host with win := c.host.win.write 0 v } } = c
  rw [hw]

/-! ### Writes of a function's registers -/

theorem fieldLE_word {b : Bytes} (h : b.length = 4) : fieldLE b 0 4 = leNat b := by
  simp [fieldLE, slice, h, List.take_of_length_le (Nat.le_of_eq h)]

section
variable {s : State} {ch : Ch}

/-- A command of an enabled channel puts its new record. -/
theorem ends_put (en : s.dev.has ch = true) {i : Instr} {f : Ch → Device → Channel → Channel} {g : Channel → Channel}
    (hi : exec i s = .next (onChan ch f s)) (hf : f ch s.dev (s.chan ch) = g (s.chan ch)) : Ends i s (put s ch g) := by
  rw [Ends, hi, onChan_enabled _ _ _ en, hf, put]

@[simp] theorem put_chan (g : Channel → Channel) : (put s ch g).chan ch = g (s.chan ch) := setChan_same s ch _

theorem not_enabled_lt (en : s.dev.has ch = true) : ¬ s.dev.enabled < ch.val + 1 := by
  simp only [Device.has, decide_eq_true_eq] at en
  omega

/-- A host write that is narrow, misaligned, not of whole words or to a function that is not there changes nothing (R31, R4). -/
theorem funcWrite_discarded (fn : Fin 17) (off : Nat) (b : Bytes) (h : off % 4 ≠ 0 ∨ b.length % 4 ≠ 0 ∨ s.dev.enabled < fn.val) :
    funcWrite fn off b s = s := if_pos h

/-- A word written at a register of a channel function that is neither a lock request nor an inline doorbell. -/
theorem registerWrite_word (en : s.dev.has ch = true) (hc : ch.val + 1 < 17) (off : Nat) {b : Bytes} (hb : b.length = 4)
    (ho : off % 4 = 0) (hl : off ≠ 0x00D0) (hd : off < 0x0200) {g : Channel → Channel}
    (hg : bar0Write off (BitVec.ofNat 32 (leNat b)) (s.chan ch) = g (s.chan ch)) :
    Ends (.registerWrite (.func ⟨ch.val + 1, hc⟩) off b) s (put s ch g) := by
  refine ends_put en (f := fun _ _ c => bar0Write off (BitVec.ofNat 32 (leNat b)) c) ?_ hg
  have hw : funcWrite ⟨ch.val + 1, hc⟩ off b s = funcWord ⟨ch.val + 1, hc⟩ off b off (BitVec.ofNat 32 (leNat b)) s := by
    simp [funcWrite, funcWords, hb, ho, not_enabled_lt en, fieldLE_word hb]
  have hf : funcWord ⟨ch.val + 1, hc⟩ off b off (BitVec.ofNat 32 (leNat b)) s =
      onChan ch (fun _ _ c => bar0Write off (BitVec.ofNat 32 (leNat b)) c) s := by
    simp only [funcWord, dif_neg (Nat.succ_ne_zero ch.val), if_neg hl, if_neg (show ¬ (0x0200 ≤ off ∧ off < 0x0300) by omega)]
    rfl
  exact congrArg _ (hw.trans hf)

/-- The window lock of a channel function. -/
theorem windowLock_channel (en : s.dev.has ch = true) (hc : ch.val + 1 < 17) : Ends (.windowLock ⟨ch.val + 1, hc⟩) s
    (put s ch fun c => { c with host := { c.host with win := c.host.win.request (otherWindows s ⟨ch.val + 1, hc⟩) } }) :=
  ends_put en (f := fun _ _ c => { c with host := { c.host with win := c.host.win.request (otherWindows s ⟨ch.val + 1, hc⟩) } }) rfl rfl

/-! ### Ring pairs -/

theorem put_pair (q : Fin 4) (f : Channel → RingPair → RingPair) : ((put s ch fun c => onPairC q (f c) c).chan ch).host.pairs.get q =
    f (s.chan ch) ((s.chan ch).host.pairs.get q) := by
  rw [put_chan, onPairC_pair]

theorem ringEnable_put (en : s.dev.has ch = true) (q : Fin 4) (v : Word) : Ends (.ringEnable ch q v) s
    (put s ch fun c => onPairC q (fun p => p.writeCtrl c.host.win (v ||| 1)) c) := ends_put en rfl rfl

theorem ringDisable_put (en : s.dev.has ch = true) (q : Fin 4) (v : Word) : Ends (.ringDisable ch q v) s
    (put s ch fun c => onPairC q (fun p => { p.takeFields v with en := false }) c) :=
  ends_put en rfl (by simp only [writeCtrl_disable])

theorem ringVecWrite_put (en : s.dev.has ch = true) (q : Fin 4) (v : Word) : Ends (.ringVecWrite ch q v) s
    (put s ch (onPairC q (RingPair.takeFields v))) :=
  ends_put en rfl (by simp only [writeCtrl_keep])

end

/-! ### A core's own register writes -/

/-- An access that is no aligned word is refused and captured (R26, R327). -/
theorem coreRegWrite_refused (a : Nat) (b : Bytes) (h : b.length ≠ 4 ∨ a % 4 ≠ 0) (ch : Ch) (d : Device) (c : Channel) :
    coreRegWrite a b ch d c = { c with table := atRefuse c.table 0 true true .write (min 64 b.length) a } := by
  rcases h with h | h <;> simp [coreRegWrite, h]

/-- A word that the unit's map and table let through is stored. -/
theorem coreRegWrite_stored (a : Nat) (b : Bytes) (ch : Ch) (d : Device) (c : Channel) (hb : b.length = 4) (ha : a % 4 = 0)
    (hp : isPeriph a = true) (hm : mapped c.table.mgmt a = true)
    (ht : isAtBlock c.table.mgmt a = true ∨ atAllows c.table 0 .write a = true) :
    coreRegWrite a b ch d c = periphWrite ch d a (BitVec.ofNat 32 (leNat b)) c := by
  simp [coreRegWrite, hb, ha, hp, hm, ht]

/-- A core's own register write does to its unit what `coreRegWrite` does there. -/
theorem coreRegister_ends {s : State} (u : Core) (a : Nat) (b : Bytes) (f : Ext → Ch → Device → Channel → Channel)
    (hc : ∀ (h : u.val < 16) (x : Ext),
      coreRegWrite a b ⟨u.val, h⟩ s.dev (s.chan ⟨u.val, h⟩) = f x ⟨u.val, h⟩ s.dev (s.chan ⟨u.val, h⟩))
    (hm : ∀ (_ : ¬ u.val < 16) (x : Ext), coreRegWrite a b 0 s.dev s.mgu = f x 0 s.dev s.mgu) :
    Ends (.registerWrite (.core u) a b) s (onCore u f s) := by
  have e : exec (.registerWrite (.core u) a b) s = .next (onCore u (fun _ ch d c => coreRegWrite a b ch d c) s) := rfl
  rw [Ends, e, onCore_congr u _ f s (fun h => hc h _) fun h => hm h _]

/-! ### What the host reads -/

/-- An aligned word read from BAR0 of a function that is there. -/
theorem bar0Read_word {s : State} (fn : Fin 17) (off : Nat) (up : s.pw.pcieUp = true) (on : ¬ s.dev.enabled < fn.val)
    (h : off % 4 = 0) : bar0Read fn off 4 s = some (leBytes 4 (bar0Word fn off s)) := by
  have word (i : Nat) (hi : i ∈ List.range 4) :
      byteAt (leBytes 4 (bar0Word fn ((off + i) / 4 * 4) s)) ((off + i) % 4) = byteAt (leBytes 4 (bar0Word fn off s)) i := by
    rw [List.mem_range] at hi
    rw [show (off + i) / 4 * 4 = off by omega, show (off + i) % 4 = i by omega]
  rw [bar0Read, if_neg (by simp [on, up]), List.map_congr_left word]
  rfl

theorem chIdWord_eq (ch : Ch) : chIdWord ch = ch.val + 0x08800100 := by
  unfold chIdWord
  omega

theorem channelWord_id (ch : Ch) (s : State) : channelWord ch 0 s = chIdWord ch := rfl

/-- FEAT words stand from 0x10 on. -/
theorem channelWord_feat (ch : Ch) (k : Nat) (hk : k < 8) (s : State) : channelWord ch (0x10 + 4 * k) s = (featWord false k).toNat := by
  have a : 0x10 ≤ 0x10 + 4 * k ∧ 0x10 + 4 * k < 0x30 := by omega
  have b : (0x10 + 4 * k - 0x10) / 4 = k := by omega
  simp only [channelWord, if_pos a, b]

/-- Doorbells and CQ heads read 0 (R31). -/
theorem channelWord_doorbell (ch : Ch) (off : Nat) (h : 0x100 ≤ off) (l : off < 0x300) (s : State) : channelWord ch off s = 0 := by
  unfold channelWord
  extract_lets c hs
  rw [if_neg (by omega), if_neg (by omega), if_neg (by omega), if_neg (by omega), if_neg (by omega)]
  split <;> omega

theorem configSpace_none_iff (fn : Fin 17) (s : State) : configSpace fn s = none ↔ s.dev.enabled < fn.val := by
  simp [configSpace]

/-! ### The obligation -/

/-- Settles O29: each write puts the channel record that the rules of its register give, and each read is one word of the map. -/
theorem hostRegisters : Obligations.HostRegisters := by
  unfold Obligations.HostRegisters
  intro s ch en h fn
  have hc : ch.val + 1 < 17 := fn.isLt
  refine ⟨fun v => ends_put en rfl rfl, fun hl => ⟨_, windowLock_channel en hc, ?lock⟩, fun hl => ?relock,
    fun hl => ⟨_, rfl, rfl, request_lock_iff _ hl⟩, fun fn off b hd => congrArg _ (funcWrite_discarded fn off b hd),
    fun b hb => ⟨?irqEn, ?irqStat, ?fault, fun hl => ?window, ?readOnly⟩, fun u a b hd => ?coreRefused,
    fun u a b hb ha hp hm ht => ?coreStored, fun up => ⟨?ident, ?feat, ?doorbells⟩,
    fun fn => configSpace_none_iff fn s, fun q v => ⟨fun off => ?enable, ?disable, fun hv => ?vecTaken, fun on lo hi => ?vecReserved⟩⟩
  case lock =>
    rw [put_chan]
    exact ⟨request_base _ _, request_limit _ _, request_lock_iff _ hl⟩
  case relock =>
    refine ends_put en (f := fun _ _ c => { c with host := { c.host with win := c.host.win.request (otherWindows s fn) } }) rfl ?_
    show { s.chan ch with host := { (s.chan ch).host with win := h.win.request (otherWindows s fn) } } = s.chan ch
    rw [request_locked _ hl]
  case irqEn => exact registerWrite_word en hc 0x60 hb rfl (by decide) (by decide) rfl
  case irqStat => exact registerWrite_word en hc 0x64 hb rfl (by decide) (by decide) rfl
  case fault => exact registerWrite_word en hc 0x80 hb rfl (by decide) (by decide) rfl
  case window => exact registerWrite_word en hc 0xC0 hb rfl (by decide) (by decide) (bar0Write_window_locked hl _)
  case readOnly => exact registerWrite_word en hc 0x20 hb rfl (by decide) (by decide) rfl
  case coreRefused =>
    exact coreRegister_ends u a b (fun _ _ _ c => { c with table := atRefuse c.table 0 true true .write (min 64 b.length) a })
      (fun _ _ => coreRegWrite_refused a b hd _ _ _) fun _ _ => coreRegWrite_refused a b hd _ _ _
  case coreStored =>
    refine coreRegister_ends u a b (fun _ ch d c => periphWrite ch d a (BitVec.ofNat 32 (leNat b)) c) (fun hu x => ?_) fun hu x => ?_
    · simp only [unit, dif_pos hu] at hm ht
      exact coreRegWrite_stored a b _ _ _ hb ha hp hm ht
    · simp only [unit, dif_neg hu] at hm ht
      exact coreRegWrite_stored a b _ _ _ hb ha hp hm ht
  case ident =>
    have hw : bar0Word fn 0 s = ch.val + 0x08800100 := (channelWord_id ch s).trans (chIdWord_eq ch)
    rw [bar0Read_word fn 0 up (not_enabled_lt en) rfl, hw]
  case feat => exact fun k hk => channelWord_feat ch k hk s
  case doorbells => exact fun off ho hl => channelWord_doorbell ch off ho hl s
  case enable =>
    obtain ⟨hvec, hbase, hseq, herr, hen, hptr⟩ := writeCtrl_enable_fields h.win v (h.pairs.get q) off
    refine ⟨_, _, ringEnable_put en q v, put_pair q _, hvec, hbase, hseq, herr, ?_, hptr⟩
    rw [← enableOk_takeFields h.win v _ off]
    exact Bool.eq_iff_iff.mp hen
  case disable =>
    have hp := put_pair (s := s) (ch := ch) q fun _ p => { p.takeFields v with en := false }
    exact ⟨_, ringDisable_put en q v, congrArg RingPair.en hp, (congrArg RingPair.sqHead hp).trans rfl, by rw [put_chan]; rfl⟩
  case vecTaken =>
    exact ends_put en rfl (by simp only [writeCtrl_keep]; exact onPairC_congr q (takeFields_taken hv))
  case vecReserved =>
    exact ⟨_, _, ringVecWrite_put en q v, (put_pair q _).trans (takeFields_reserved on lo hi), rfl, rfl, on, rfl, rfl⟩

end Sys2Proof.Machine
end

section
/-! SUPPORT. What a command confined to one channel can reach and what it can see: a relation between states and their next, held
by every way in which such a command works on its channel. -/
namespace Sys2Proof.Machine
open Sys2Proof.Says

/-- All that a command confined to channel `ch` leaves: the other channels, and the part but function 0, the always-on queue and the
causes of management's interrupts (R14). -/
structure Spares (ch : Ch) (s t : State) : Prop where
  chans : ∀ a : Ch, a ≠ ch → t.chan a = s.chan a
  dev : t.dev = s.dev
  tp : t.tp = s.tp
  mgu : t.mgu = { s.mgu with causes := t.mgu.causes }
  mg : t.mg = s.mg
  nf : t.nf = s.nf
  cards : t.cards = s.cards
  pw : t.pw = s.pw
  log : t.log = s.log

/-- Two states show channel `ch` the same: its own record, the clocks and identity, the tamper monitor and the power state. -/
structure Alike (ch : Ch) (s t : State) : Prop where
  chan : s.chan ch = t.chan ch
  dev : s.dev = t.dev
  tp : s.tp = t.tp
  pw : s.pw = t.pw

/-- A change of state confined to channel `ch`: it spares the rest, and its channel afterwards depends on what the channel sees. -/
structure Confined (ch : Ch) (m : State → State) : Prop where
  spares : ∀ s, Spares ch s (m s)
  sees : ∀ {s t}, Alike ch s t → (m s).chan ch = (m t).chan ch

section
variable {ch : Ch}

theorem confined_id : Confined ch id :=
  ⟨fun _ => ⟨fun _ _ => rfl, rfl, rfl, rfl, rfl, rfl, rfl, rfl, rfl⟩, fun h => h.chan⟩

/-- Which of two confined changes is made may depend on the power state. -/
theorem Confined.ite_link {m n : State → State} (hm : Confined ch m) (hn : Confined ch n) :
    Confined ch fun s => if s.pw.link then m s else n s where
  spares s := by
    cases hl : s.pw.link
    · simpa [hl] using hn.spares s
    · simpa [hl] using hm.spares s
  sees {s t} h := by
    cases hl : s.pw.link <;> have ht := h.pw ▸ hl
    · simpa [hl, ht] using hn.sees h
    · simpa [hl, ht] using hm.sees h

/-- A confined change is known by what it does to each state. -/
theorem Confined.congr {m n : State → State} (hm : Confined ch m) (h : ∀ s, n s = m s) : Confined ch n := by
  rwa [funext h]

/-! ### The ways of working on a channel -/

theorem onChan_spares (f : Ch → Device → Channel → Channel) (s : State) : Spares ch s (onChan ch f s) := by
  constructor <;> simp +contextual [onChan_other]

/-- A change of the channel's record, by what the channel sees, is confined. -/
theorem confined_onChan {f : State → Ch → Device → Channel → Channel}
    (hf : ∀ {s t}, Alike ch s t → f s ch s.dev (s.chan ch) = f t ch s.dev (s.chan ch)) : Confined ch fun s => onChan ch (f s) s where
  spares s := onChan_spares _ s
  sees {s t} h := by
    cases he : s.dev.has ch
    · rw [onChan_disabled _ _ _ he, onChan_disabled _ _ _ (h.dev ▸ he), h.chan]
    · rw [onChan_same _ _ _ he, onChan_same _ _ _ (h.dev ▸ he), hf h, h.dev, h.chan]

theorem raiseCause_causes (i : Nat) (c : Channel) : raiseCause i c = { c with causes := (raiseCause i c).causes } := rfl

theorem collect_spares (s : State) : Spares ch s (collect ch s) := by
  constructor
  case chans => exact fun a h => collect_other _ _ _ h
  case mgu =>
    rw [collect_mgu]
    split
    · rfl
    · exact raiseCause_causes 9 s.mgu
  all_goals simp

theorem Spares.trans {s t r : State} (h : Spares ch s t) (k : Spares ch t r) : Spares ch s r where
  chans a ha := (k.chans a ha).trans (h.chans a ha)
  dev := k.dev.trans h.dev
  tp := k.tp.trans h.tp
  mgu := by rw [k.mgu, h.mgu]
  mg := k.mg.trans h.mg
  nf := k.nf.trans h.nf
  cards := k.cards.trans h.cards
  pw := k.pw.trans h.pw
  log := k.log.trans h.log

/-- So is one whose channel then reports to function 0 and the always-on queue. -/
theorem confined_onChanS {f : State → Ch → Device → Channel → Channel}
    (hf : ∀ {s t}, Alike ch s t → f s ch s.dev (s.chan ch) = f t ch s.dev (s.chan ch)) : Confined ch fun s => onChanS ch (f s) s where
  spares s := (onChan_spares _ s).trans (collect_spares _)
  sees h := by simp only [onChanS, collect_same, (confined_onChan hf).sees h]

/-- What a channel's core sees of the part is what its channel sees (R291, R453). -/
theorem coreExt_alike {s t : State} {u : Core} (hu : u.val < 16) (h : Alike ⟨u.val, hu⟩ s t) : coreExt u s = coreExt u t := by
  simp only [coreExt, dif_pos hu, chanTamperView, chanIrq, tamperViewOf, h.chan, h.tp]

/-- The channel a unit's number names: none of management's. -/
abbrev channelOf (u : Core) : Option Ch := if h : u.val < 16 then some ⟨u.val, h⟩ else none

theorem lt_of_channelOf {u : Core} (h : channelOf u = some ch) : ∃ hu : u.val < 16, ch = ⟨u.val, hu⟩ := by
  unfold channelOf at h
  split at h
  · next hu => exact ⟨hu, (Option.some.inj h).symm⟩
  · cases h

/-- A command of a channel's core is confined to that channel. -/
theorem confined_onCore {u : Core} (h : channelOf u = some ch) (f : Ext → Ch → Device → Channel → Channel) : Confined ch (onCore u f) := by
  obtain ⟨hu, rfl⟩ := lt_of_channelOf h
  exact (confined_onChanS (f := fun s => f (coreExt u s)) fun k => by rw [coreExt_alike hu k]).congr fun s => onCore_channel u hu f s

/-- So is an instruction of a channel's core. -/
theorem confined_issueOn {u : Core} (h : channelOf u = some ch) (i : KOp) (stop : Option Nat) (wait : Nat) : Confined ch (issueOn u i stop wait) :=
  (confined_onCore h fun x ch d c => issue x ch d i stop wait c).congr fun _ => rfl

/-- So is a command of the memory, the access table or the flash bank of a channel's unit. -/
theorem confined_onUnit {u : Core} (h : channelOf u = some ch) (f : Device → Channel → Channel) : Confined ch (onUnit u f) := by
  obtain ⟨hu, rfl⟩ := lt_of_channelOf h
  exact (confined_onChanS (f := fun _ _ => f) fun _ => rfl).congr fun s => by simp only [onUnit, dif_pos hu]

/-- So is a command that reaches the bank through the link (R8). -/
theorem confined_onKeep {u : Core} (h : channelOf u = some ch) (f : Device → Channel → Channel) : Confined ch (onKeep u f) :=
  (confined_onUnit h f).ite_link confined_id

/-- A refresh of a channel's bank takes nothing from the sensor history, which management's alone stages through (R400). -/
theorem historyGives_spares {s t : State} (h : Spares ch s t) : historyGives s t = t := by
  have hr : t.mgu.refreshing = s.mgu.refreshing := by rw [h.mgu]
  refine if_pos ?_
  rw [hr]
  cases s.mgu.refreshing <;> simp

/-! ### The commands -/

/-- Every command that reaches one channel alone makes a change confined to it. -/
theorem exec_confined {i : Instr} (h : reaches i = some ch) : ∃ m, Confined ch m ∧ ∀ s, exec i s = .next (m s) := by
  cases i
  case refreshPop u =>
    have k := confined_onKeep h (inTurn .refresh fun _ c => refreshStep c)
    exact ⟨_, k, fun s => congrArg Host.Outcome.next (historyGives_spares (k.spares s))⟩
  -- Every other row of a core, of a table or of a bank: its operand names the unit.
  case resultLand | faultEntry | interruptEntry | timerMatch | doubleFault | lockstepMiscompare => exact ⟨_, confined_onCore h _, fun _ => rfl⟩
  case atPermWrite | atEntryLock | lockAll | cntClr | scrubLine | bucketLeak | bucketThresholdWrite | nvCommandDone | eraseAutosuspend
      | eraseAutoresume | flashScrubSense => exact ⟨_, confined_onUnit h _, fun _ => rfl⟩
  case program | programSeg | erase | format | check | suspend | resume | flashWindowRead => exact ⟨_, confined_onKeep h _, fun _ => rfl⟩
  case nop | drop | dup | swap | rot | nip | pick | depth | drop2 | dup2 | push8 | push16 | push32 | pushu8 | pushu16 | pushh | add
      | sub | neg | abs | min | max | addi8 | addi16 | eq | ne | lt | le | ltu | leu | sel | addw | and | or | xor | not | shl | shr
      | sarr | shlv | shrv | sarv | clz | subw | mul | mulq | add2 | sub2 | mul2 | pack | unpk | clra | lda | mac | msu | rda | rdas
      | adda | ldw | ldwi | ldh | ldb | stw | stwi | sth | stb | br | brs | bz | bnz | call | ret | jmp | bmov | vmac | loops | hblkInit
      | hblkFeed | hblkFinal | divs | feat | gate | rete | mfsr | mtsr | segr | segw | setrnd | setsat | clrov | brk | wait =>
    exact ⟨_, confined_issueOn h _ _ _, fun _ => rfl⟩
  -- Every other row but OVER, whose name is a keyword of Mathlib's, names its channel, or none.
  any_goals cases h
  case batteryTransactionDone => exact ⟨_, (confined_onChan fun _ => rfl).ite_link confined_id, fun _ => rfl⟩
  case channelWake => exact ⟨_, confined_onChanS fun k => by rw [k.pw], fun _ => rfl⟩
  case proofing | frameUnitPhaseDone | rsaSign | pkeBatchStart | pkeBatchEnd | pkAbort | hashOpDone | keyload | start | aad | data | final
      | settleRun | healthAlarm | drbgRequestDone | drbgInstanceError | calibrationDone | rgTpDataWrite | safetyReport | sfReport
      | watchdogExpiry | bistCycleDone | pllLockTimeout =>
    exact ⟨_, confined_onChanS fun _ => rfl, fun _ => rfl⟩
  any_goals exact ⟨_, confined_onChan fun _ => rfl, fun _ => rfl⟩
  -- OVER, an instruction of a core like those above.
  exact ⟨_, confined_issueOn h _ _ _, fun _ => rfl⟩

end

/-- Settles O60: the command's change is confined to its channel. -/
theorem channelIsolation : Obligations.ChannelIsolation := by
  unfold Obligations.ChannelIsolation
  intro i ch h
  obtain ⟨m, k, hm⟩ := exec_confined h
  have ends {s t : State} (e : Ends i s t) : t = m s := by
    have e' : Host.Outcome.next (m s) = Host.Outcome.next t := (hm s).symm.trans e
    exact (Host.Outcome.next.inj e').symm
  refine ⟨fun s t e => ?_, fun s1 s2 t1 t2 hc hd ht hp e1 e2 => ?_⟩
  · obtain rfl := ends e
    obtain ⟨chans, dev, tp, mgu, mg, nf, cards, pw, log⟩ := k.spares s
    exact ⟨chans, dev, tp, mgu, mg, nf, cards, pw, log⟩
  · rw [ends e1, ends e2]
    exact k.sees ⟨hc, hd, ht, hp⟩

end Sys2Proof.Machine
end

section
/-! SUPPORT. What a change of CH_STATE and a reset leave of a channel's record, what a mailbox command's end shows in MB_STAT, and what
a change of the update session's state leaves. -/
namespace Sys2Proof.Machine
open Sys2Proof.Says

/-! ### CH_STATE -/

/-- A change of CH_STATE reaches the state and, by source 8, the slice. -/
theorem setChState_eq (st : ChState) (c : Channel) : setChState st c = { c with state := st, host := (setChState st c).host } := by
  unfold setChState
  split
  next h => subst h; rfl
  next => rfl

@[simp] theorem setChState_state (st : ChState) (c : Channel) : (setChState st c).state = st := by rw [setChState_eq]

@[simp] theorem setChState_fw (st : ChState) (c : Channel) : (setChState st c).fw = c.fw := by rw [setChState_eq]

@[simp] theorem setChState_jr (st : ChState) (c : Channel) : (setChState st c).jr = c.jr := by rw [setChState_eq]

@[simp] theorem setChState_shard (st : ChState) (c : Channel) : (setChState st c).shard = c.shard := by rw [setChState_eq]

@[simp] theorem setChState_bootStep (st : ChState) (c : Channel) : (setChState st c).bootStep = c.bootStep := by rw [setChState_eq]

@[simp] theorem setChState_bootTick (st : ChState) (c : Channel) : (setChState st c).bootTick = c.bootTick := by rw [setChState_eq]

@[simp] theorem setChState_confirm (st : ChState) (c : Channel) : (setChState st c).confirm = c.confirm := by rw [setChState_eq]

@[simp] theorem setChState_confirmSlot (st : ChState) (c : Channel) : (setChState st c).confirmSlot = c.confirmSlot := by rw [setChState_eq]

/-! ### A reset of a channel -/

@[simp] theorem channelReset_state (k : ResetKind) (ch : Ch) (d : Device) (c : Channel) : (channelReset k ch d c).state = .reset := by
  simp only [channelReset]
  split
  · rfl
  · exact setChState_state _ _

@[simp] theorem channelReset_fw (k : ResetKind) (ch : Ch) (d : Device) (c : Channel) : (channelReset k ch d c).fw = c.fw := by
  simp only [channelReset]
  split
  · rfl
  · exact setChState_fw _ _

@[simp] theorem channelReset_jr (k : ResetKind) (ch : Ch) (d : Device) (c : Channel) : (channelReset k ch d c).jr = c.jr.reset k := by
  simp only [channelReset]
  split
  · rfl
  · exact setChState_jr _ _

/-- The reset is remembered for COMMIT_LIST (R79). -/
@[simp] theorem journalReset_lastReset (k : ResetKind) (j : Journal) : (j.reset k).lastReset = k.code := by
  unfold Journal.reset
  split <;> rfl

@[simp] theorem afterReset_serial (flr : Bool) (e : JEntry) : (e.afterReset flr).serial = e.serial := by
  simp only [JEntry.afterReset]
  split <;> rfl

/-- A reset that keeps the journal keeps its entries by their serial numbers (R69). -/
theorem journalReset_serials {k : ResetKind} (h : k.keepsJournal = true) (j : Journal) :
    (j.reset k).entries.map (·.serial) = j.entries.map (·.serial) := by
  simp [Journal.reset, h]

/-! ### The mailbox -/

@[simp] theorem raiseFn0_current (v : Nat) (s : State) : (raiseFn0 v s).fn0.current = s.fn0.current := by
  unfold raiseFn0
  split
  · rfl
  · split <;> rfl

@[simp] theorem raiseFn0_status (v : Nat) (s : State) : (raiseFn0 v s).fn0.status = s.fn0.status := by
  unfold raiseFn0
  split
  · rfl
  · split <;> rfl

@[simp] theorem endMessage_status (status : Nat) (response : Option Bytes) (s : State) : (endMessage status response s).fn0.status = status := by
  simp [endMessage]

section
variable {s : State}

theorem answer_status (p : Bytes) (h : s.fn0.current.isSome = true) : (answer p s).fn0.status = 0 := by
  obtain ⟨x, hx⟩ := Option.isSome_iff_exists.mp h
  simp [answer, hx]

theorem refuse_status (n : Nat) (h : s.fn0.current.isSome = true) : (refuse n s).fn0.status = n := by
  obtain ⟨x, hx⟩ := Option.isSome_iff_exists.mp h
  simp [refuse, hx]

@[simp] theorem answer_chan (p : Bytes) (s : State) (ch : Ch) : (answer p s).chan ch = s.chan ch := by simp [State.chan]

@[simp] theorem refuse_chan (n : Nat) (s : State) (ch : Ch) : (refuse n s).chan ch = s.chan ch := by simp [State.chan]

/-- A status is shown as it is: SUCCESS by an answer, any other by a refusal. -/
theorem answerStatus_status {r : Nat × State} (h : r.2.fn0.current.isSome = true) : (answerStatus r).fn0.status = r.1 := by
  unfold answerStatus
  split
  next h0 => rw [answer_status _ h, h0]
  next => exact refuse_status _ h

@[simp] theorem answerStatus_chan (r : Nat × State) (ch : Ch) : (answerStatus r).chan ch = r.2.chan ch := by
  unfold answerStatus; split <;> simp

@[simp] theorem answerStatus_mg (r : Nat × State) : (answerStatus r).mg = r.2.mg := by
  unfold answerStatus; split <;> simp

theorem current_of_given {code : Nat} {p : Bytes} (g : Given s code p) : s.fn0.current.isSome = true := by
  obtain ⟨_, _, _, _, h⟩ := g
  simp [h]

/-- A command that management has taken up runs its meaning on its payload. -/
theorem ends_given {i : Instr} {code : Nat} {p : Bytes} {f : Bytes → State → State} (g : Given s code p)
    (hi : exec i s = .next (onCommand code f s)) : Ends i s (f p s) := by
  obtain ⟨hr, flags, seq, tag, h⟩ := g
  rw [Ends, hi]
  simp [onCommand, h, hr]

end

/-! ### The session's record -/

@[simp] theorem sessionTo_mg (st : Nat) (s : State) : (sessionTo st s).mg = { s.mg with update := { s.mg.update with state := st } } := by
  unfold sessionTo; split <;> simp

@[simp] theorem sessionTo_chan (st : Nat) (s : State) (ch : Ch) : (sessionTo st s).chan ch = s.chan ch := by
  unfold sessionTo; split <;> simp

@[simp] theorem sessionTo_current (st : Nat) (s : State) : (sessionTo st s).fn0.current = s.fn0.current := by
  unfold sessionTo; split <;> simp

@[simp] theorem sessionTo_dev (st : Nat) (s : State) : (sessionTo st s).dev = s.dev := by
  unfold sessionTo; split <;> simp

@[simp] theorem sessionFailed_update (s : State) : (sessionFailed s).mg.update = { s.mg.update with state := 5 } := by
  simp only [sessionFailed, sessionTo_mg, onMg_mg, onEvery_mg]
  split <;> rfl

@[simp] theorem sessionFailed_current (s : State) : (sessionFailed s).fn0.current = s.fn0.current := by simp [sessionFailed]

@[simp] theorem sessionFailed_dev (s : State) : (sessionFailed s).dev = s.dev := by simp [sessionFailed]

/-- A failed session reaches no more of a channel than its slots' marks. -/
theorem sessionFailed_chan (s : State) (ch : Ch) :
    (sessionFailed s).chan ch = { s.chan ch with fw := ((sessionFailed s).chan ch).fw } := by
  simp only [sessionFailed, sessionTo_chan, onMg_chan, onEvery_chan]
  split
  · split <;> rfl
  · rfl

end Sys2Proof.Machine
end

section
/-! SUPPORT. What each step of an update session leaves: the session's record, the mailbox, the slots and the banks of its target
channels. -/
namespace Sys2Proof.Machine
open Sys2Proof.Says

section
variable {s : State}

/-! ### The path -/

/-- A mailbox command of a session that the mailbox opened, in one of the command's states. -/
theorem onMailboxSession_eq {states : List Nat} {f : State → State} (hp : s.mg.update.pldm = false)
    (hs : s.mg.update.state ∈ states) : onMailboxSession states f s = f s := by
  simp [onMailboxSession, hp, hs]

/-! ### The targets -/

@[simp] theorem noTrial_active (w : FwSlots) : w.noTrial.active = w.active := by unfold FwSlots.noTrial; split <;> rfl

theorem noTrial_other (w : FwSlots) : w.noTrial.other ≠ .trial := by
  unfold FwSlots.noTrial
  split
  · simp
  · assumption

theorem noTrial_of_trial {w : FwSlots} (h : w.other = .trial) : w.noTrial.other = .empty := by simp [FwSlots.noTrial, h]

@[simp] theorem setImage_image (b : Bool) (i : Option FwImage) (w : FwSlots) : (w.setImage b i).image b = i := by
  cases b <;> rfl

@[simp] theorem setImage_image_not (b : Bool) (i : Option FwImage) (w : FwSlots) : (w.setImage (!b) i).image b = w.image b := by
  cases b <;> rfl

@[simp] theorem setImage_active (b : Bool) (i : Option FwImage) (w : FwSlots) : (w.setImage b i).active = w.active := by
  cases b <;> rfl

/-- The session is one of channels: management's own slots and bank are left. -/
theorem onTargets_channels (f : FwSlots → FwSlots) (hc : s.mg.update.component = 0x10) :
    onTargets f s = onEvery (fun ch _ c => if targets s.mg.update ch then { c with fw := f c.fw } else c) s := by
  simp [onTargets, hc]

section
variable {ch : Ch} (en : s.dev.has ch = true)
include en

/-- A step over the targets reaches each enabled target. -/
theorem onTargets_target (f : FwSlots → FwSlots) (hc : s.mg.update.component = 0x10) (hb : bit s.mg.update.mask ch.val = true) :
    (onTargets f s).chan ch = { s.chan ch with fw := f (s.chan ch).fw } := by
  simp [onTargets_channels f hc, en, targets, hc, hb]

/-- A port operation that ends has changed the bank of each enabled target, and NV_STAT.PORT falls. -/
theorem portEnds_target {mask : Nat} (f : FwSlots → NvBank → NvBank) (hb : bit mask ch.val = true) :
    (portEnds 0x10 mask f s).chan ch = { s.chan ch with nv := { f (s.chan ch).fw (s.chan ch).nv with port := false } } := by
  simp [portEnds, onPorts, en, hb]

/-- A failed session's targets have no TRIAL slot. -/
theorem sessionFailed_target (hc : s.mg.update.component = 0x10) (hb : bit s.mg.update.mask ch.val = true) :
    (sessionFailed s).chan ch = { s.chan ch with fw := (s.chan ch).fw.noTrial } := by
  simp [sessionFailed, en, hc, hb]

end

@[simp] theorem onTargets_mg_channels (f : FwSlots → FwSlots) (hc : s.mg.update.component = 0x10) : (onTargets f s).mg = s.mg := by
  simp [onTargets_channels f hc]

@[simp] theorem onTargets_current (f : FwSlots → FwSlots) (s : State) : (onTargets f s).fn0.current = s.fn0.current := by
  simp only [onTargets]; split <;> simp

@[simp] theorem portEnds_mg (component mask : Nat) (f : FwSlots → NvBank → NvBank) (s : State) : (portEnds component mask f s).mg = s.mg := by
  simp only [portEnds, onPorts]; split <;> simp

@[simp] theorem portEnds_dev (component mask : Nat) (f : FwSlots → NvBank → NvBank) (s : State) : (portEnds component mask f s).dev = s.dev := by
  simp only [portEnds, onPorts]; split <;> simp

@[simp] theorem portEnds_fn0 (component mask : Nat) (f : FwSlots → NvBank → NvBank) (s : State) : (portEnds component mask f s).fn0 = s.fn0 := by
  simp only [portEnds, onPorts]; split <;> simp

/-! ### The commands -/

/-- UPDATE_BEGIN's session of channels: its record. -/
def begunSession (mask len : Nat) (u : UpdateSession) : UpdateSession :=
  { component := 0x10, mask := mask, length := len, maxTransfer := u.maxTransfer, agent := u.agent, pldmState := u.pldmState,
    pldmPrev := u.pldmPrev }

/-- The state as that session opens: the banks erased over the ports, then the slots. -/
def begunState (mask len : Nat) (s : State) : State :=
  sessionTo 1 (onTargets FwSlots.eraseOther (onMg (fun m => { m with update := begunSession mask len s.mg.update })
    (portEnds 0x10 mask (fun w b => b.eraseSlot false (!w.active)) s)))

section
variable {mask len : Nat} (hs : s.mg.update.state = 0 ∨ s.mg.update.state = 5) (hp : s.mg.update.pldm = false) (hr : s.mg.romOnly = false)
  (hm : mask ≠ 0) (lo : 352 ≤ len) (hi : len ≤ 524288)
include hs hp hr hm lo hi

/-- With every target's port open a session of channels opens; with one closed management asks for the ports (R410). -/
theorem openSession_channels : openSession false 0x10 mask len s =
    if portsOpen 0x10 mask s then (0, begunState mask len s) else (0x0B04, requestPorts mask s) := by
  have h0 : ¬ (s.mg.update.state ≠ 0 ∧ s.mg.update.state ≠ 5) := by omega
  cases ho : portsOpen 0x10 mask s <;>
    simp [openSession, h0, hp, hr, hm, imageMax, Nat.not_lt.mpr lo, Nat.not_lt.mpr hi, ho, begunState, begunSession]

end

theorem begunState_update (mask len : Nat) (s : State) :
    (begunState mask len s).mg.update = { begunSession mask len s.mg.update with state := 1 } := by
  simp [begunState, begunSession]

theorem begunState_current (mask len : Nat) (s : State) : (begunState mask len s).fn0.current = s.fn0.current := by
  simp [begunState]

/-- Each target has lost the image of its inactive slot and kept the ACTIVE one. -/
theorem begunState_target {ch : Ch} {mask : Nat} (len : Nat) (en : s.dev.has ch = true) (hb : bit mask ch.val = true) :
    (begunState mask len s).chan ch = { s.chan ch with
      fw := (s.chan ch).fw.eraseOther, nv := { (s.chan ch).nv.eraseSlot false (!(s.chan ch).fw.active) with port := false } } := by
  rw [begunState, sessionTo_chan, onTargets_target (by simpa using en) _ rfl hb, onMg_chan, portEnds_target en _ hb]

/-- UPDATE_BEGIN of channels, by what their ports show: refused while one is closed, waiting while a bank is occupied (R366, R410). -/
theorem updateBegin_channels {p : Bytes} (hs : s.mg.update.state = 0 ∨ s.mg.update.state = 5) (hp : s.mg.update.pldm = false)
    (hr : s.mg.romOnly = false) (hc : fieldLE p 0 2 = 0x10) (hm : fieldLE p 2 2 ≠ 0) (lo : 352 ≤ fieldLE p 4 4) (hi : fieldLE p 4 4 ≤ 524288) :
    updateBegin p s = if portsOpen 0x10 (fieldLE p 2 2) s then
      if portsWait 0x10 (fieldLE p 2 2) s then portWaits 0x10 (fieldLE p 2 2) s else answer [] (begunState (fieldLE p 2 2) (fieldLE p 4 4) s)
    else refuse 0x0B04 (requestPorts (fieldLE p 2 2) s) := by
  unfold updateBegin
  rw [hc, openSession_channels hs hp hr hm lo hi]
  cases portsOpen 0x10 (fieldLE p 2 2) s
  · simp [answerStatus]
  · cases portsWait 0x10 (fieldLE p 2 2) s <;> simp [answerStatus]

theorem writePiece_update (b : Bytes) (s : State) :
    (writePiece b s).mg.update = { s.mg.update with data := s.mg.update.data ++ b } := by
  simp [writePiece]

/-- What UPDATE_VERIFY finds, by what the first failing image answers. -/
theorem verifySession_fails {n : Nat} (hc : s.mg.update.component = 0x10)
    (h : ((slotImages s.mg.update s).findSome? fun i => verifyImage 0x10 i s) = some n) :
    verifySession s = (n, sessionFailed s) := by
  simp only [verifySession, hc, h]

/-- Every slot verified: the session is VERIFIED and the targets' slots are PENDING. -/
theorem verifySession_passes (hc : s.mg.update.component = 0x10)
    (h : ((slotImages s.mg.update s).findSome? fun i => verifyImage 0x10 i s) = none) :
    (verifySession s).1 = 0 ∧ (verifySession s).2.mg.update = { s.mg.update with state := 2 } ∧
    (verifySession s).2.fn0.current = s.fn0.current ∧
    ∀ ch : Ch, s.dev.has ch = true → bit s.mg.update.mask ch.val = true → (verifySession s).2.chan ch =
      { s.chan ch with fw := (s.chan ch).fw.setPending (slotImage s.mg.update (s.chan ch).fw (s.chan ch).nv) } := by
  simp only [verifySession, hc, h]
  refine ⟨trivial, ?_, by simp, fun ch en hb => ?_⟩
  · simp [hc]
  · simp [en, targets, hc, hb]

/-- UPDATE_VERIFY of a written session whose ports are open. -/
theorem updateVerify_eq (p : Bytes) (hp : s.mg.update.pldm = false) (hs : s.mg.update.state = 1)
    (hl : s.mg.update.data.length = s.mg.update.length) (ho : portsOpen s.mg.update.component s.mg.update.mask s = true) :
    updateVerify p s = if portsWait s.mg.update.component s.mg.update.mask s then portWaits s.mg.update.component s.mg.update.mask s
      else answerStatus (verifySession s) := by
  rw [updateVerify, onMailboxSession_eq hp (by simp [hs])]
  simp [hl, ho]

/-- UPDATE_DATA of a piece that fits, at the place it goes on, with the ports open. -/
theorem updateData_eq {p : Bytes} (hp : s.mg.update.pldm = false) (hs : s.mg.update.state = 1)
    (hoff : fieldLE p 0 4 = s.mg.update.data.length) (hne : p.drop 16 ≠ [])
    (hfit : s.mg.update.data.length + (p.drop 16).length ≤ s.mg.update.length)
    (ho : portsOpen s.mg.update.component s.mg.update.mask s = true) :
    updateData p s = if portsWait s.mg.update.component s.mg.update.mask s then portWaits s.mg.update.component s.mg.update.mask s
      else answer [] (writePiece (p.drop 16) s) := by
  rw [updateData, onMailboxSession_eq hp (by simp [hs])]
  have he : ¬ ((p.drop 16).isEmpty = true ∨ s.mg.update.length < s.mg.update.data.length + (p.drop 16).length) := by
    rw [List.isEmpty_iff]
    exact not_or.mpr ⟨hne, Nat.not_lt.mpr hfit⟩
  simp only [hoff, ne_eq, not_true_eq_false, if_false, he, ho, Bool.not_true, Bool.false_eq_true]

/-! ### Trial, commit and the ways back -/

section
variable (hc : s.mg.update.component = 0x10)
include hc

theorem markTrial_update : (markTrial s).mg.update = { s.mg.update with state := 3, arrived := 0 } := by
  simp [markTrial, hc]

theorem markTrial_target {ch : Ch} (en : s.dev.has ch = true) (hb : bit s.mg.update.mask ch.val = true) :
    (markTrial s).chan ch = { s.chan ch with fw := { (s.chan ch).fw with other := .trial }, confirmSlot := true } := by
  simp only [markTrial, sessionTo_chan, onMg_chan, onEvery_chan, onTargets_channels _ hc, onEvery_dev]
  simp [en, targets, hc, hb]

theorem commitSession_mg : (commitSession s).mg = { s.mg with chSvn := max s.mg.chSvn (sessionSvn s), update := {} } := by
  simp [commitSession, hc]

theorem commitSession_target {ch : Ch} (en : s.dev.has ch = true) (hb : bit s.mg.update.mask ch.val = true) :
    (commitSession s).chan ch = { s.chan ch with fw := { (s.chan ch).fw with active := !(s.chan ch).fw.active, other := .empty } } := by
  simp only [commitSession, onMg_chan, sessionTo_chan, onTargets_target en _ hc hb]

theorem abortSession_target {ch : Ch} (en : s.dev.has ch = true) (hb : bit s.mg.update.mask ch.val = true) :
    (abortSession s).chan ch = { s.chan ch with fw := (s.chan ch).fw.eraseOther } := by
  simp only [abortSession, onMg_chan, sessionTo_chan, onTargets_target en _ hc hb]

end

theorem abortSession_update (s : State) : (abortSession s).mg.update = {} := rfl

theorem markTrial_current (s : State) : (markTrial s).fn0.current = s.fn0.current := by simp [markTrial]

theorem commitSession_current (s : State) : (commitSession s).fn0.current = s.fn0.current := by simp [commitSession]

theorem abortSession_current (s : State) : (abortSession s).fn0.current = s.fn0.current := by simp [abortSession]

theorem eraseOther_image (w : FwSlots) : w.eraseOther.image (!w.active) = none :=
  setImage_image (!w.active) none w

theorem eraseOther_image_active (w : FwSlots) : w.eraseOther.image w.active = w.image w.active :=
  setImage_image_not w.active none w

/-- UPDATE_ACTIVATE of channels: nothing of management's own is taken up. -/
theorem updateActivate_channels (p : Bytes) (hp : s.mg.update.pldm = false) (hs : s.mg.update.state = 2)
    (hc : s.mg.update.component = 0x10) : updateActivate p s = answer [] (markTrial s) := by
  rw [updateActivate, onMailboxSession_eq hp (by simp [hs])]
  simp [takeUpOwn, markTrial_update hc, hc]

/-- TRIAL_BOOT_TIMEOUT of a target channel that has failed its trial: the session fails and the channel is reset (R412). -/
theorem trialTimeout_channel {n : Core} (h : n.val < 16) (en : s.dev.has ⟨n.val, h⟩ = true)
    (hs : s.mg.update.state = 3 ∨ s.mg.update.state = 4) (hc : s.mg.update.component = 0x10) (hb : bit s.mg.update.mask n.val = true)
    (hf : channelTrialFailed s.dev (s.chan ⟨n.val, h⟩) = true) (hst : (s.chan ⟨n.val, h⟩).state ≠ .fault) :
    trialTimeout n s = setChan (sessionFailed s) ⟨n.val, h⟩
      (channelReset .warm ⟨n.val, h⟩ s.dev { s.chan ⟨n.val, h⟩ with fw := (s.chan ⟨n.val, h⟩).fw.noTrial }) := by
  have hw : ¬ (s.mg.update.state ≠ 3 ∧ s.mg.update.state ≠ 4 ∨ (!bit s.mg.update.mask n.val) = true) := by
    rw [hb]
    simp only [Bool.not_true, Bool.false_eq_true, or_false]
    omega
  simp only [trialTimeout, if_neg hw, dif_pos h, if_pos hf]
  rw [onChan_enabled _ _ _ (by simpa using en), sessionFailed_target en hc hb, if_neg hst, sessionFailed_dev]

/-- A trial has failed only of a slot that is marked TRIAL. -/
theorem other_of_trialFailed {d : Device} {c : Channel} (h : channelTrialFailed d c = true) : c.fw.other = .trial := by
  simp only [channelTrialFailed, Bool.and_eq_true, beq_iff_eq] at h
  exact h.1.2

end

/-- Settles O15: each command of a session that the mailbox opened is the step of the session that its checks let pass, and the step
reaches each target. -/
theorem updateSessions : Obligations.UpdateSessions := by
  unfold Obligations.UpdateSessions
  intro s u
  have hu : u = s.mg.update := rfl
  clear_value u
  subst hu
  refine ⟨fun ch en hst hrun ht => ?grant, fun ch en => congrArg Host.Outcome.next (onChan_enabled ch _ s en), fun p g hs hp hr hc hm lo hi => ?begin,
    fun p g hp hs hoff hne hfit ho => ?data, fun p g hp hs hl ho => ?verify, fun p g hp hs hc => ?activate,
    fun p g hp hs hc hv => ?commit, fun p g hp hs hc => ?revert, fun p g hp lo hi hc => ?abort, fun p g => ends_given (f := updateStatus) g rfl,
    fun n h => ?timeout⟩
  case grant =>
    exact congrArg Host.Outcome.next (if_pos ⟨en, hst, hrun, by simpa using ht⟩)
  case begin =>
    have e : Ends .updateBegin s _ := ends_given g rfl
    rw [updateBegin_channels hs hp hr hc hm lo hi] at e
    refine ⟨fun ho => ?closed, fun ho hw => ?waits, fun ho hw => ?opens⟩
    case closed => simpa [ho] using e
    case waits => simpa [ho, hw] using e
    case opens =>
      simp only [ho, hw, if_true, Bool.false_eq_true, if_false] at e
      have hcur := (begunState_current (fieldLE p 2 2) (fieldLE p 4 4) s).symm ▸ current_of_given g
      refine ⟨_, e, ?_⟩
      simp only [answer_mg, begunState_update, begunSession, answer_status [] hcur, answer_chan]
      refine ⟨trivial, trivial, trivial, trivial, trivial, trivial, fun ch en hb => ?_⟩
      rw [begunState_target _ en hb]
      exact ⟨eraseOther_image _, eraseOther_image_active _, rfl⟩
  case data =>
    have e : Ends .updateData s _ := ends_given g rfl
    rw [updateData_eq hp hs hoff hne hfit ho] at e
    exact ⟨fun hw => by simpa [hw] using e, fun hw => ⟨by simpa [hw] using e, writePiece_update _ s⟩⟩
  case verify =>
    have e : Ends .updateVerify s _ := ends_given g rfl
    rw [updateVerify_eq p hp hs hl ho] at e
    refine ⟨fun hw => by simpa [hw] using e, fun hw hc => ⟨_, e, ?_⟩⟩
    rw [if_neg (by simp [hw])]
    have hcur := current_of_given g
    cases hf : (slotImages s.mg.update s).findSome? fun i => verifyImage 0x10 i s with
    | none =>
      obtain ⟨h0, hu, hk, ht⟩ := verifySession_passes hc hf
      refine ⟨by simp [hu], by rw [answerStatus_status (hk ▸ hcur), h0], fun ch en hb => ?_⟩
      rw [answerStatus_chan, ht ch en hb]
      exact ⟨rfl, setImage_active _ _ _, setImage_image _ _ _⟩
    | some n =>
      rw [verifySession_fails hc hf]
      refine ⟨by simp, answerStatus_status (by simpa using hcur), fun ch en hb => ?_⟩
      rw [answerStatus_chan, sessionFailed_target en hc hb]
      exact ⟨noTrial_other _, noTrial_active _⟩
  case activate =>
    have e : Ends .updateActivate s _ := ends_given g rfl
    rw [updateActivate_channels p hp hs hc] at e
    refine ⟨_, e, by simp [markTrial_update hc], answer_status [] (markTrial_current s ▸ current_of_given g), fun ch en hb => ?_⟩
    rw [answer_chan, markTrial_target hc en hb]
    exact ⟨rfl, rfl⟩
  case commit =>
    have e : Ends .updateCommit s _ := ends_given g rfl
    rw [updateCommit, onMailboxSession_eq hp (by simp [hs])] at e
    simp only [hv, Bool.false_eq_true, if_false] at e
    refine ⟨_, e, ?record, answer_status [] (commitSession_current s ▸ current_of_given g), ?floor, ?mgmtFloor, fun ch en hb => ?slots⟩
    case slots => rw [answer_chan, commitSession_target hc en hb]
    all_goals rw [answer_mg, commitSession_mg hc]
  case revert =>
    have e : Ends .updateRevert s _ := ends_given g rfl
    rw [updateRevert, onMailboxSession_eq hp (by simpa using hs)] at e
    refine ⟨_, e, by simp [hc], answer_status [] (by simpa using current_of_given g), fun ch en hb => ?_⟩
    rw [answer_chan, sessionTo_chan, onTargets_target en _ hc hb]
  case abort =>
    have e : Ends .updateAbort s _ := ends_given g rfl
    rw [updateAbort, onMailboxSession_eq hp (by simp only [List.mem_cons, List.not_mem_nil, or_false]; omega)] at e
    refine ⟨_, e, by simp [abortSession_update], answer_status [] (abortSession_current s ▸ current_of_given g), fun ch en hb => ?_⟩
    rw [answer_chan, abortSession_target hc en hb]
    exact ⟨rfl, eraseOther_image _⟩
  case timeout =>
    dsimp only
    intro en hs hc hb hf hst
    refine ⟨_, congrArg Host.Outcome.next (trialTimeout_channel h en hs hc hb hf hst), by simp, ?_⟩
    simp only [setChan_same, channelReset_state, channelReset_fw, channelReset_jr, journalReset_lastReset, noTrial_active,
      noTrial_of_trial (other_of_trialFailed hf)]
    exact ⟨trivial, trivial, trivial, rfl⟩

end Sys2Proof.Machine
end

section
/-! SUPPORT. The event recorder: what each step of a crumb's way leaves of the logs and of the list of crumbs handed over. -/
namespace Sys2Proof.Machine
open Sys2Proof.Says

section
variable {s : State}

/-! ### The logs -/

@[simp] theorem onLog_logOf (pinned : Bool) (f : LogState → LogState) (s : State) : (onLog pinned f s).logOf pinned = f (s.logOf pinned) := by
  cases pinned <;> rfl

@[simp] theorem onLog_logOf_not (pinned : Bool) (f : LogState → LogState) (s : State) : (onLog pinned f s).logOf (!pinned) = s.logOf (!pinned) := by
  cases pinned <;> rfl

@[simp] theorem onLog_inbox (pinned : Bool) (f : LogState → LogState) (s : State) : (onLog pinned f s).log.inbox = s.log.inbox := by
  cases pinned <;> rfl

@[simp] theorem onLog_dev (pinned : Bool) (f : LogState → LogState) (s : State) : (onLog pinned f s).dev = s.dev := rfl

@[simp] theorem logOf_raiseFn0 (v : Nat) (pinned : Bool) (s : State) : (raiseFn0 v s).logOf pinned = s.logOf pinned := by simp [State.logOf]

@[simp] theorem logOf_raiseNew (pinned : Bool) (s : State) : (raiseNew s).logOf pinned = s.logOf pinned := by
  unfold raiseNew
  split
  · rw [logOf_raiseFn0]; rfl
  · rfl

@[simp] theorem raiseNew_inbox (s : State) : (raiseNew s).log.inbox = s.log.inbox := by
  unfold raiseNew
  split <;> simp

@[simp] theorem raiseNew_dev (s : State) : (raiseNew s).dev = s.dev := by
  unfold raiseNew
  split <;> simp

/-- A log once its pending segment is programmed, its sector opened before and its oldest sector erased after (R422, R423). -/
def LogState.flushed (pinned : Bool) (d : Device) (l : LogState) : LogState :=
  let l0 := openSector pinned d l
  let l1 := { l0.program l0.pending with pending := [] }
  if pinned then l1 else l1.roll

@[simp] theorem roll_pending (l : LogState) : l.roll.pending = l.pending := by unfold LogState.roll; split <;> rfl

@[simp] theorem roll_next (l : LogState) : l.roll.next = l.next := by unfold LogState.roll; split <;> rfl

@[simp] theorem flushed_pending (pinned : Bool) (d : Device) (l : LogState) : (l.flushed pinned d).pending = [] := by
  cases pinned <;> simp [LogState.flushed]

theorem openSector_next (pinned : Bool) (d : Device) (l : LogState) :
    (openSector pinned d l).next = l.next + if l.next % 2048 = 0 then 4 else 0 := by
  unfold openSector
  split <;> rfl

@[simp] theorem program_next (bs : List Bytes) (l : LogState) : (l.program bs).next = l.next + 4 := rfl

/-- The write point goes on by a segment, and by one more where it opens a sector. -/
theorem flushed_next (pinned : Bool) (d : Device) (l : LogState) :
    (l.flushed pinned d).next = l.next + if l.next % 2048 = 0 then 8 else 4 := by
  have h : (l.flushed pinned d).next = (openSector pinned d l).next + 4 := by cases pinned <;> simp [LogState.flushed]
  rw [h, openSector_next]
  split <;> rfl

/-- A flush of a pending segment. -/
theorem flushLog_logOf {pinned : Bool} (hp : (s.logOf pinned).pending ≠ []) (hf : (s.logOf pinned).frozen = false) :
    (flushLog pinned s).logOf pinned = (s.logOf pinned).flushed pinned s.dev := by
  have hn : ¬ ((s.logOf pinned).pending.isEmpty = true ∨ (s.logOf pinned).frozen = true) := by simp [hp, hf]
  simp only [flushLog, if_neg hn, LogState.flushed]
  cases pinned
  · simp only [Bool.false_eq_true, if_false]
    split <;> simp only [logOf_raiseFn0, onLog_logOf]
  · simp only [if_true]
    split <;> split <;> simp only [logOf_raiseFn0, onLog_logOf]

@[simp] theorem flushLog_logOf_not (pinned : Bool) (s : State) : (flushLog pinned s).logOf (!pinned) = s.logOf (!pinned) := by
  simp only [flushLog]
  split
  · rfl
  cases pinned
  · simp only [Bool.false_eq_true, if_false]
    split <;> simp only [logOf_raiseFn0, onLog_logOf_not]
  · simp only [if_true]
    split <;> split <;> simp only [logOf_raiseFn0, onLog_logOf_not]

@[simp] theorem flushLog_inbox (pinned : Bool) (s : State) : (flushLog pinned s).log.inbox = s.log.inbox := by
  simp only [flushLog]
  split
  · rfl
  split
  · split <;> split <;> simp
  · split <;> simp

/-! ### A crumb into one log -/

/-- The crumb bytes `b` at the end of a log's pending segment, at tick `tick` (R422). -/
def LogState.enter (b : Bytes) (tick : Nat) (l : LogState) : LogState :=
  { l with pending := l.pending ++ [b], pendTick := if l.pending.isEmpty then tick else l.pendTick }

section
variable {pinned : Bool} (b : Bytes) (hf : (pinned && (s.logOf pinned).full) = false)
include hf

/-- A crumb that does not fill the segment waits in it. -/
theorem fileInto_waits (h3 : (s.logOf pinned).pending.length < 3) :
    (fileInto pinned false b s).logOf pinned = (s.logOf pinned).enter b s.dev.tick := by
  have hs : ¬ 4 ≤ ((s.logOf pinned).pending ++ [b]).length := by
    simp only [List.length_append, List.length_singleton]
    omega
  simp only [fileInto, hf, logOf_raiseNew, onLog_logOf, Bool.false_eq_true, false_or, if_false, if_neg hs]
  rfl

/-- A crumb that is not to wait is programmed with the segment. -/
theorem fileInto_now (hz : (s.logOf pinned).frozen = false) :
    (fileInto pinned true b s).logOf pinned = ((s.logOf pinned).enter b s.dev.tick).flushed pinned s.dev := by
  simp only [fileInto, hf, true_or, if_true, Bool.false_eq_true, if_false]
  rw [flushLog_logOf]
  · simp only [logOf_raiseNew, onLog_logOf, raiseNew_dev, onLog_dev]
    rfl
  · simp
  · simpa using hz

end

@[simp] theorem fileInto_logOf_not (pinned now : Bool) (b : Bytes) (s : State) :
    (fileInto pinned now b s).logOf (!pinned) = s.logOf (!pinned) := by
  simp only [fileInto]
  split
  · rfl
  split <;> simp

@[simp] theorem fileInto_inbox (pinned now : Bool) (b : Bytes) (s : State) : (fileInto pinned now b s).log.inbox = s.log.inbox := by
  simp only [fileInto]
  split
  · rfl
  split <;> simp

/-- A crumb for a log that neither is frozen nor drains enters it. -/
theorem toLog_open {pinned : Bool} (pin : Bool) (b : Bytes) (hf : (s.logOf pinned).frozen = false) (hd : (s.logOf pinned).draining = false) :
    toLog pinned pin b s = fileInto pinned pin b s := by
  simp [toLog, hf, hd]

/-- One for a frozen log is held (R426). -/
theorem toLog_frozen {pinned : Bool} (pin : Bool) (b : Bytes) (hf : (s.logOf pinned).frozen = true) :
    toLog pinned pin b s = onLog pinned (holdCrumb pin b) s := by
  simp [toLog, hf]

/-! ### Acceptance -/

/-- The state once the oldest crumb is taken off the list of those handed over. -/
def crumbTaken (rest : List Crumb) (s : State) : State := { s with log := { s.log with inbox := rest } }

section
variable {x : Crumb} {rest : List Crumb} {k : ClassBucket} (hm : mgmtServes s = true) (hx : s.log.inbox = x :: rest)
  (hk : classBucket s (crumbClass x.code) = some k)
include hm hx hk

/-- A crumb whose class has no token is suppressed (R420). -/
theorem takeCrumb_suppressed (h0 : k.tokens = 0) : takeCrumb s =
    let t := onClass (crumbClass x.code) (fun k => { k with suppressed := k.suppressed + 1, total := min (k.total + 1) 0xFFFFFFFF }) (crumbTaken rest s)
    { t with log := { t.log with suppressed := min (s.log.suppressed + 1) 0xFFFFFFFF } } := by
  have hk' : classBucket (crumbTaken rest s) (crumbClass x.code) = some k := hk
  simp only [takeCrumb, hm, hx, Bool.not_true, Bool.false_eq_true, if_false]
  show acceptCrumb x (crumbTaken rest s) = _
  simp only [acceptCrumb, hk', if_pos h0]
  rfl

/-- One whose class has a token takes it, and is filed with the number of those suppressed before it (R420, R422). -/
theorem takeCrumb_accepted (h0 : 0 < k.tokens) : ∃ t : State, (∀ p, t.logOf p = s.logOf p) ∧ t.log.inbox = rest ∧ takeCrumb s =
    let pin := decide (crumbClass x.code ≤ 5)
    toLog false pin (x.toBytes k.suppressed) (if pin then toLog true true (x.toBytes k.suppressed) t else t) := by
  refine ⟨onClass (crumbClass x.code) (fun k => { k with tokens := k.tokens - 1, suppressed := 0 }) (crumbTaken rest s),
    fun p => by cases p <;> rfl, rfl, ?_⟩
  have hk' : classBucket (crumbTaken rest s) (crumbClass x.code) = some k := hk
  simp only [takeCrumb, hm, hx, Bool.not_true, Bool.false_eq_true, if_false]
  show acceptCrumb x (crumbTaken rest s) = _
  simp only [acceptCrumb, hk', if_neg (Nat.ne_of_gt h0)]

end

end

/-- Settles O20: each crumb's step by the log, list or queue it enters. -/
theorem crumbFlow : Obligations.CrumbFlow := by
  unfold Obligations.CrumbFlow
  intro s
  refine ⟨fun ch code a b c d en => ⟨fun h => ?held, fun h => ?dropped⟩, fun ch en hm hi => ?port, fun hm => ?queue,
    fun x rest k hm hx hk => ⟨fun h0 => ?suppressed, fun h0 h5 hf hd h3 => ?loose, fun h0 h5 hf hh pf pd pu => ?pinned⟩,
    fun hm hs hf hp => ?timeout, fun n => rfl, fun h => ?second, fun hm => ?copy⟩
  case held =>
    refine congrArg Host.Outcome.next ((onChan_enabled ch _ s en).trans ?_)
    rw [fileCrumb, if_pos h]
  case dropped =>
    refine congrArg Host.Outcome.next ((onChan_enabled ch _ s en).trans ?_)
    rw [fileCrumb, if_neg (Nat.not_lt.mpr h)]
  case port =>
    have hw : ¬ ((!s.dev.has ch) = true ∨ (!mgmtServes s) = true ∨ bit s.mg.incompat ch.val = true) := by simp [en, hm, hi]
    refine ⟨_, rfl, ?_⟩
    simp only [deliverPort, if_neg hw]
    split
    · exact ⟨setChan_same _ _ _, (List.append_nil _).symm⟩
    · exact ⟨setChan_same _ _ _, rfl⟩
  case queue =>
    refine ⟨_, rfl, ?_⟩
    simp only [deliverAon, hm, Bool.not_true, Bool.false_eq_true, if_false]
    split
    · exact ⟨rfl, rfl, (List.append_nil _).symm⟩
    · exact ⟨rfl, rfl, rfl⟩
  case suppressed => exact ⟨_, congrArg Host.Outcome.next (takeCrumb_suppressed hm hx hk h0), rfl, rfl, rfl, rfl⟩
  case loose =>
    obtain ⟨t, hl, hr, e⟩ := takeCrumb_accepted hm hx hk h0
    simp only [decide_eq_false (Nat.not_le.mpr h5), Bool.false_eq_true, if_false] at e
    rw [toLog_open false _ (hl false ▸ hf) (hl false ▸ hd)] at e
    refine ⟨_, congrArg Host.Outcome.next e, (fileInto_inbox _ _ _ _).trans hr, ?_, ?_⟩
    · have hw := fileInto_waits (x.toBytes k.suppressed) (pinned := false) (s := t) rfl (hl false ▸ h3)
      exact (congrArg LogState.pending hw).trans (congrArg (·.pending ++ _) (hl false))
    · exact (fileInto_logOf_not false _ _ t).trans (hl true)
  case pinned =>
    obtain ⟨t, hl, hr, e⟩ := takeCrumb_accepted hm hx hk h0
    simp only [decide_eq_true h5, if_true] at e
    rw [toLog_open (pinned := true) true _ (hl true ▸ pf) (hl true ▸ pd)] at e
    have other : (fileInto true true (x.toBytes k.suppressed) t).logOf false = s.log.rolling := (fileInto_logOf_not true _ _ t).trans (hl false)
    have now := fileInto_now (x.toBytes k.suppressed) (pinned := true) (s := t) (hl true ▸ pu) (hl true ▸ pf)
    rw [toLog_frozen (pinned := false) true _ (other ▸ hf)] at e
    refine ⟨_, congrArg Host.Outcome.next e, ?_, ?_, ?_⟩
    · rw [onLog_inbox, fileInto_inbox, hr]
    · exact (congrArg LogState.pending ((onLog_logOf_not false _ _).trans now)).trans (flushed_pending true _ _)
    · refine (congrArg LogState.held (onLog_logOf false _ _)).trans ?_
      rw [other, holdCrumb, if_pos hh]
  case timeout =>
    have hp' : s.log.rolling.pending ≠ [] := by
      simp only [LogState.stale, Bool.and_eq_true, Bool.not_eq_true', List.isEmpty_eq_false_iff] at hs
      exact hs.1
    have hl : (flushLog false s).logOf false = _ := flushLog_logOf hp' hf
    have other : (flushLog false s).logOf true = s.log.pinned := flushLog_logOf_not false s
    have hst : ((flushLog false s).logOf true).stale (flushLog false s).dev.tick = false := by simp [other, LogState.stale, hp]
    have e : segmentTimeout s = flushLog false s := by
      simp only [segmentTimeout, hm, Bool.not_true, Bool.false_eq_true, if_false]
      rw [if_pos (show (s.logOf false).stale s.dev.tick = true from hs), hst, if_neg Bool.false_ne_true]
    exact ⟨_, congrArg Host.Outcome.next e, (congrArg LogState.pending hl).trans (flushed_pending false _ _), other,
      (congrArg LogState.next hl).trans (flushed_next false _ _)⟩
  case second => exact congrArg Host.Outcome.next (if_pos h)
  case copy => exact congrArg Host.Outcome.next (if_pos hm)

end Sys2Proof.Machine
end

section
/-! SUPPORT. The release of a channel, its wait for management, and the events of the PCI Express side. -/
namespace Sys2Proof.Machine
open Sys2Proof.Says

section
variable {s : State}

/-! ### Release and confirmation -/

/-- The end of a session by a target's reset reaches no more of a channel than its slots' marks (R413). -/
theorem sessionReset_chan (a ch : Ch) (s : State) : (sessionReset a s).chan ch = { s.chan ch with fw := ((sessionReset a s).chan ch).fw } := by
  simp only [sessionReset]
  split
  · exact sessionFailed_chan s ch
  · rfl

@[simp] theorem confirmBoot_dev (ch : Ch) (s : State) : (confirmBoot ch s).dev = s.dev := by
  simp only [confirmBoot]
  split
  · rfl
  · split <;> simp

section
variable {ch : Ch} (en : s.dev.has ch = true)
include en

theorem confirmBoot_shard : ((confirmBoot ch s).chan ch).shard = (s.chan ch).shard := by
  simp only [confirmBoot]
  split
  · rfl
  split
  · rw [sessionFailed_chan, onChan_same _ _ _ en]
  · rw [onChan_same _ _ _ en]

/-- Management that serves leaves nothing for a channel to wait for (R21). -/
theorem confirmBoot_confirms (hm : mgmtServes s = true) : ((confirmBoot ch s).chan ch).needsConfirm = false := by
  simp only [confirmBoot]
  split
  next h => simpa [hm] using h
  split
  · rw [sessionFailed_chan, onChan_same _ _ _ en]
    rfl
  · rw [onChan_same _ _ _ en]
    rfl

end

/-- What a release finds, once the part is powered and past its personalization: the latch, the link, then the rest (R12, R465, R549). -/
theorem channelRelease_held {ch : Ch} (en : s.dev.has ch = true) (hst : (s.chan ch).state = .reset ∨ (s.chan ch).state = .waitLink)
    (hm : s.pw.main = true) (hf : s.pw.fallen = false) (hl : s.dev.lifecycle ≠ 0) : channelRelease ch s =
      if (s.chan ch).sf.latched then setChan s ch (setChState .fault (s.chan ch))
      else if !s.pw.link then setChan s ch (setChState .waitLink (s.chan ch))
      else if !s.tp.armed ∨ !s.pw.refclk ∨ bit s.tp.clearing ch.val then s
      else sessionReset ch (setChan s ch (setChState .booting { s.chan ch with bootStep := 0, bootTick := s.dev.tick })) := by
  have hs : ¬ ((s.chan ch).state ≠ .reset ∧ (s.chan ch).state ≠ .waitLink) := by
    rintro ⟨hr, hw⟩
    exact hst.elim hr hw
  simp only [channelRelease, en, hs, hm, hf, hl, Bool.not_true, Bool.false_eq_true, or_self, if_false]

/-- Management serves, and the channel that waits for it boots again. -/
theorem waitMgmtRetry_serves {ch : Ch} (en : s.dev.has ch = true) (hst : (s.chan ch).state = .waitMgmt) (hm : mgmtServes s = true) :
    waitMgmtRetry ch s = setChan (confirmBoot ch s) ch (setChState .booting { (confirmBoot ch s).chan ch with bootStep := 0 }) := by
  rw [waitMgmtRetry, if_pos ⟨hst, hm⟩, onChan_enabled _ _ _ (by simpa using en)]

@[simp] theorem setChState_needsConfirm (st : ChState) (c : Channel) : (setChState st c).needsConfirm = c.needsConfirm := by
  simp [Channel.needsConfirm]

end

end Sys2Proof.Machine

-- Machine has a function of the obligation's name, so the theorem stands beside its statement.
namespace Sys2Proof.Says
open Sys2Proof.Machine

/-- Settles O9: a release by what it finds, a retry by management's confirmation. -/
protected theorem channelRelease : Obligations.ChannelRelease := by
  unfold Obligations.ChannelRelease
  intro s ch
  refine ⟨fun en hst hmain hfall hlc => ?release, fun en hst hm => ?retry, fun hm => ?waits⟩
  case release =>
    have e : Ends (.channelResetRelease ch) s _ := congrArg Host.Outcome.next (channelRelease_held en hst hmain hfall hlc)
    refine ⟨fun hl => ?latched, fun hl hk => ?noLink, fun hl hk ha hr hc => ⟨_, by simpa [hl, hk, ha, hr, hc] using e, ?boots⟩⟩
    case latched => simpa [hl] using e
    case noLink => simpa [hl, hk] using e
    case boots =>
      rw [sessionReset_chan]
      simp
  case retry =>
    refine ⟨_, congrArg Host.Outcome.next (waitMgmtRetry_serves en hst hm), ?_⟩
    simp only [setChan_same, setChState_state, setChState_bootStep, setChState_needsConfirm, setChState_shard]
    exact ⟨trivial, trivial, confirmBoot_confirms en hm, confirmBoot_shard en⟩
  case waits => exact congrArg Host.Outcome.next (if_neg (by simp [hm]))

end Sys2Proof.Says
end

section
/-! SUPPORT. The PCI Express side: function-level resets one after another, and what PERST_N leaves of each channel. -/
namespace Sys2Proof.Machine
open Sys2Proof.Says

section
variable {s : State}

@[simp] theorem functionCrumb_chan (fn : Nat) (s : State) (ch : Ch) : (functionCrumb fn s).chan ch = s.chan ch := rfl

@[simp] theorem functionCrumb_dev (fn : Nat) (s : State) : (functionCrumb fn s).dev = s.dev := rfl

@[simp] theorem functionCrumb_pw (fn : Nat) (s : State) : (functionCrumb fn s).pw = s.pw := rfl

@[simp] theorem flrChannel_dev (ch : Ch) (s : State) : (flrChannel ch s).dev = s.dev := by simp [flrChannel]

@[simp] theorem flrChannel_pw (ch : Ch) (s : State) : (flrChannel ch s).pw = s.pw := by simp [flrChannel]

theorem flrChannel_same {ch : Ch} (en : s.dev.has ch = true) :
    (flrChannel ch s).chan ch = channelReset .flr ch s.dev (s.chan ch) := by
  simp [flrChannel, onChan_same _ _ _ en]

theorem flrChannel_other {a b : Ch} (h : b ≠ a) (s : State) : (flrChannel a s).chan b = s.chan b := by
  simp [flrChannel, onChan_other _ _ _ _ h]

theorem foldl_flrChannel_absent {l : List Ch} {ch : Ch} (h : ch ∉ l) (s : State) :
    (l.foldl (fun s a => flrChannel a s) s).chan ch = s.chan ch := by
  induction l generalizing s with
  | nil => rfl
  | cons a l ih =>
    obtain ⟨ha, hl⟩ := not_or.mp (mt List.mem_cons.mpr h)
    rw [List.foldl_cons, ih hl, flrChannel_other ha]

/-- Function-level resets of several channels, one after another, reach each of them once. -/
theorem foldl_flrChannel {l : List Ch} (hn : l.Nodup) {ch : Ch} (en : s.dev.has ch = true) (hm : ch ∈ l) :
    (l.foldl (fun s a => flrChannel a s) s).chan ch = channelReset .flr ch s.dev (s.chan ch) := by
  induction l generalizing s with
  | nil => cases hm
  | cons a l ih =>
    obtain ⟨ha, hl⟩ := List.nodup_cons.mp hn
    rw [List.foldl_cons]
    by_cases h : ch = a
    · subst h
      rw [foldl_flrChannel_absent ha, flrChannel_same en]
    · rw [ih hl (by simpa using en) ((List.mem_cons.mp hm).resolve_left h), flrChannel_other h, flrChannel_dev]

/-! ### PERST_N and function 0 -/

/-- The state once every function has been reset, before PERST_N itself is noted. -/
def functionsReset (s : State) : State := s.enabledChannels.foldl (fun s ch => flrChannel ch s) (flrMgmt s)

theorem functionsReset_pw (s : State) : (functionsReset s).pw = s.pw :=
  foldl_keeps State.pw _ (fun s ch => flrChannel_pw ch s) s.enabledChannels (flrMgmt s)

/-- Each enabled channel has met one function-level reset. -/
theorem functionsReset_chan {ch : Ch} (en : s.dev.has ch = true) :
    (functionsReset s).chan ch = channelReset .flr ch s.dev (s.chan ch) :=
  foldl_flrChannel ((List.nodup_finRange 16).filter _) (s := flrMgmt s) en (List.mem_filter.mpr ⟨List.mem_finRange ch, en⟩)

theorem perstAssert_eq (hm : s.pw.main = true) (hp : s.pw.perst = false) : perstAssert s =
    let t := functionsReset s
    { t with pw := { t.pw with perst := true, pcieUp := false, crs := true }, dev := { t.dev with hearthUp := false } } := by
  simp only [perstAssert, hm, hp, Bool.not_true, Bool.false_eq_true, or_self, if_false]
  rfl

/-- Without a message in progress a reset of function 0 leaves its reset values. -/
theorem flrMgmt_idle (hi : s.fn0.phase = .idle) (hc : s.fn0.current = none) : flrMgmt s = functionCrumb 0 { s with fn0 := {} } := by
  simp [flrMgmt, hi, hc]

/-- A message in progress ends MGMT_ABORTED, and MB_STAT shows it (R35). -/
theorem flrMgmt_waiting (hw : s.fn0.phase = .waiting) :
    flrMgmt s = functionCrumb 0 { s with fn0 := { status := 0x0A04, done := true } } := by
  simp [flrMgmt, hw]

/-! ### A function's slice -/

section
variable {ch : Ch} (en : s.dev.has ch = true)
include en

theorem setD3hot_channel (on : Bool) :
    setD3hot ch.succ on s = setChan s ch { s.chan ch with host := { (s.chan ch).host with d3hot := on } } :=
  (dif_neg (Nat.succ_ne_zero ch.val)).trans (onChan_enabled ch _ s en)

theorem sliceFault_channel (k : SliceError) :
    sliceFault ch.succ k s = setChan (raiseMg 3 s) ch (setFault k.kind.val k.value.toNat k.pair.val (s.chan ch)) := by
  simp only [sliceFault, Fin.val_succ, Nat.succ_ne_zero, dif_neg, not_false_eq_true]
  exact onChan_enabled ch _ (raiseMg 3 s) en

end

end

/-- Settles O10: PERST_N resets every function once, and each other event is one change of its function's slice or of the link. -/
theorem functionEvents : Obligations.FunctionEvents := by
  unfold Obligations.FunctionEvents
  intro s
  refine ⟨fun hm hp => ?perst, fun hm hp => ?deassert, fun f => ?config, fun ch up en => ?flr, fun up hi hc => ?idle, fun up hw => ?waiting,
    rfl, rfl, fun k => rfl, fun ch en => ⟨?d3hot, ?d0, fun k => ?fault⟩, rfl, fun hm hp => ?recover⟩
  case perst =>
    refine ⟨_, congrArg Host.Outcome.next (perstAssert_eq hm hp), rfl, ?_, fun ch en => ?_⟩
    · simp only [functionsReset_pw]
    · have hc : (functionsReset s).chan ch = _ := functionsReset_chan en
      show ((functionsReset s).chan ch).state = _ ∧ ((functionsReset s).chan ch).jr.lastReset = 2 ∧
        ((functionsReset s).chan ch).jr.entries.map (·.serial) = _
      rw [hc, channelReset_jr]
      exact ⟨channelReset_state _ _ _ _, journalReset_lastReset _ _, journalReset_serials rfl _⟩
  case deassert => exact congrArg Host.Outcome.next (if_neg (by simp [hm, hp]))
  case config => rfl
  case flr =>
    have e : (if s.pw.pcieUp && s.dev.has ch then flrChannel ch s else s) = flrChannel ch s := if_pos (by simp [up, en])
    exact congrArg Host.Outcome.next (e.trans (congrArg (functionCrumb _) (onChan_enabled ch _ s en)))
  case idle => exact congrArg Host.Outcome.next ((if_pos up).trans (flrMgmt_idle hi hc))
  case waiting => exact congrArg Host.Outcome.next ((if_pos up).trans (flrMgmt_waiting hw))
  case d3hot => exact congrArg Host.Outcome.next (setD3hot_channel en true)
  case d0 => exact congrArg Host.Outcome.next (setD3hot_channel en false)
  case fault => exact congrArg Host.Outcome.next (sliceFault_channel en k)
  case recover => exact congrArg Host.Outcome.next (if_pos (by simp [hm, hp]))

end Sys2Proof.Machine
end

section
/-! SUPPORT. The search for a free journal index (R60). -/
namespace Sys2Proof.Machine

theorem freeIndex_lt (es : List JEntry) (fuel i : Nat) : freeIndex es fuel i < 4096 := by
  induction fuel generalizing i with
  | zero => exact Nat.mod_lt _ (by decide)
  | succ n ih =>
    unfold freeIndex
    split
    · exact ih _
    · exact Nat.mod_lt _ (by decide)

/-- The search finds a free index when there is one within its reach. -/
theorem freeIndex_free {es : List JEntry} {k : Nat} (hk : ∀ e ∈ es, e.jidx ≠ k % 4096) {fuel i : Nat} (hi : i ≤ k) (hf : k < i + fuel) :
    ∀ e ∈ es, e.jidx ≠ freeIndex es fuel i := by
  induction fuel generalizing i with
  | zero => omega
  | succ n ih =>
    unfold freeIndex
    split
    next taken =>
      have hne : i ≠ k := by
        rintro rfl
        obtain ⟨e, he, hj⟩ := List.any_eq_true.1 taken
        exact hk e he (by simpa using hj)
      exact ih (by omega) (by omega)
    next free => simpa using free

/-- Fewer than 4,096 entries leave an index free. -/
theorem exists_free_index {es : List JEntry} (h : es.length < 4096) : ∃ k < 4096, ∀ e ∈ es, e.jidx ≠ k := by
  refine Classical.byContradiction fun none => Nat.not_le.2 h ?_
  have taken : List.range 4096 ⊆ es.map (·.jidx) := fun k hk =>
    Classical.byContradiction fun hn => none ⟨k, List.mem_range.1 hk, fun e he hj => hn (List.mem_map.2 ⟨e, he, hj⟩)⟩
  have fits := List.nodup_range.length_le_of_subset taken
  rwa [List.length_range, List.length_map] at fits

/-- Settles O32: some index is free by counting, and the search around the ring of 4,096 reaches it. -/
theorem journalIndexFree : Obligations.JournalIndexFree := by
  unfold Obligations.JournalIndexFree
  intro es cursor h
  obtain ⟨k, hk, free⟩ := exists_free_index h
  -- The first number at or after the cursor that stands for index `k`.
  have hm : (cursor + (k + 4096 - cursor % 4096) % 4096) % 4096 = k := by omega
  exact ⟨freeIndex_lt _ _ _, freeIndex_free (hm.symm ▸ free) (Nat.le_add_right _ _) (by omega)⟩

end Sys2Proof.Machine
end

section
/-! SUPPORT. What stands right after reset. -/
namespace Sys2Proof.Machine
open Sys2Proof.Says

theorem reset_chan (ch : Ch) : State.reset.chan ch = {} := Vector.getElem_replicate ch.isLt

theorem reset_dark (ch : Ch) : Dark (State.reset.chan ch) := by
  rw [reset_chan]
  exact ⟨rfl, rfl, rfl, rfl, rfl, rfl, rfl⟩

/-- A unit after reset is a channel's or management's, which differ in the table's kind alone. -/
theorem reset_unit (u : Core) : ∃ m : Bool, unit State.reset u = { table := { mgmt := m } } := by
  unfold unit
  split
  · exact ⟨false, reset_chan _⟩
  · exact ⟨true, rfl⟩

/-- The boot ROM's entry alone is valid (chapter 13). -/
theorem reset_table_valid (m : Bool) : ∀ n < 64, (({ mgmt := m } : AccessTable).entries.getD n {}).perm ≠ 0 ↔ n = 63 := by
  decide +revert

/-- A reset puts a core in the Inner world (chapter 11). -/
theorem reset_bank : ({} : Kenten).bank = ({} : Kenten).inner := if_pos (by decide)

/-- Settles O59: every channel is as its record's defaults are, and so is management's unit but for its table's kind. -/
theorem resetFacts : Obligations.ResetFacts := by
  unfold Obligations.ResetFacts
  refine ⟨rfl, fun ch _ => reset_dark ch, reset_dark, rfl, rfl, rfl, rfl, rfl, rfl, rfl, fun u => ?_⟩
  obtain ⟨m, hu⟩ := reset_unit u
  rw [hu]
  exact ⟨memWf_nil, rfl, rfl, congrArg (·.segs.toList.getD 0 {}) reset_bank, congrArg Bank.depth reset_bank, rfl, rfl, rfl, rfl,
    reset_table_valid m, rfl, rfl, rfl, rfl, rfl⟩

end Sys2Proof.Machine
end

section
/-! SUPPORT. How a job of a channel ends: it fails, answers or stages its effect, by what its meaning makes of its channel; and the
record, shard and journal jobs, an equation a case (R79 to R81, R141, R162 to R169). -/
namespace Sys2Proof.Machine
open Sys2Proof.Says

section
variable {s : State} {ch : Ch} {e : JEntry} {i : Instr} {op : Nat} {c : Channel}

/-! ### A job's end -/

/-- A job that may run ends with its meaning applied to its channel. -/
theorem ends_job {f : Ch → Device → JEntry → Channel → Channel} (h : MayRun s ch e op)
    (hx : exec i s = .next (onChan ch (fun ch d c => runJob op e.jidx (f ch d) c) s)) : Ends i s (setChan s ch (f ch s.dev e (s.chan ch))) := by
  obtain ⟨en, held, ready⟩ := h
  rw [Ends, hx, onChan_enabled _ _ _ en, runJob_ready held ready]

theorem claimed_of_ready (h : jobReady c e op = true) : e.state = .claimed := by
  simp only [jobReady, Bool.and_eq_true, beq_iff_eq] at h
  obtain ⟨⟨⟨⟨⟨⟨⟨claimed, -⟩, -⟩, -⟩, -⟩, -⟩, -⟩, -⟩ := h
  exact claimed

/-- An entry is found by the journal alone. -/
theorem entry_of_jr {c' : Channel} (hj : c'.jr = c.jr) (j : Nat) : c'.entry j = c.entry j := by simp only [Channel.entry, hj]

@[simp] theorem outWrite_eq_nil (j : Nat) (sub : Sub) (out : Bytes) : outWrite j sub out = [] ↔ out = [] := by
  cases out <;> simp [outWrite]

theorem entry_setChan {j : Nat} {n : JEntry} (h : c.entry j = some n) : ((setChan s ch c).chan ch).entry j = some n := by
  rw [setChan_same, h]

theorem untouched_setChan {a : Channel} (h : Untouched a c) : Untouched a ((setChan s ch c).chan ch) := by
  rwa [setChan_same]

section
variable (held : Holds (s.chan ch) e)
include held

theorem fails_of_failE {f : Fail} (run : Ends i s (setChan s ch (failE e f c))) (hj : c.jr = (s.chan ch).jr := by rfl)
    (hu : Untouched (s.chan ch) c := by exact ⟨rfl, rfl, rfl, rfl, rfl⟩) : Fails i s ch e f := by
  obtain ⟨n, hn, hst⟩ := entry_failJob c e.jidx f e ((entry_of_jr hj _).trans held)
  obtain ⟨hw, hs, hd, hr, ho, hl⟩ := hst
  exact ⟨_, n, run, entry_setChan hn, hw, hs, hd, hr, ho, hl, untouched_setChan hu⟩

theorem stages_of_stageJob {x : Effect} {P : Effect → Prop} (hc : e.state = .claimed)
    (run : Ends i s (setChan s ch (stageJob e.jidx x c))) (hp : P x) (hj : c.jr = (s.chan ch).jr := by rfl)
    (hu : Untouched (s.chan ch) c := by exact ⟨rfl, rfl, rfl, rfl, rfl⟩) (hs : x.basisShard = (s.chan ch).shard := by rfl)
    (hg : x.basisGov = (s.chan ch).gov := by rfl) : Stages i s ch e P :=
  ⟨_, _, x, run, entry_setChan (entry_stageJob c e.jidx x e ((entry_of_jr hj _).trans held)), hc, rfl, untouched_setChan hu, hs, hg, hp⟩

theorem answers_of_finishPlain {result : Nat} {out : Bytes} (run : Ends i s (setChan s ch (finishPlain e result out c)))
    (hj : c.jr = (s.chan ch).jr := by rfl) : Answers i s ch e result out := by
  obtain ⟨n, hn, hst, h0, hd, hr, ho, hw, -⟩ :=
    entry_finishJob c e.jidx 0 0 result out.length (outWrite e.jidx e.sub out) e ((entry_of_jr hj _).trans held)
  refine ⟨_, n, run, entry_setChan hn, hst.trans ?_, h0, hd, hr, ho, hw⟩
  simp only [List.isEmpty_iff, outWrite_eq_nil]

end

/-! ### What the shared steps leave -/

/-- The record look-up reaches the key cache alone (R142). -/
theorem touchCache_cache (d : Device) (e : JEntry) (c : Channel) : ∃ l, touchCache d e c = { c with cache := l } := by
  unfold touchCache
  simp only []
  split
  · exact ⟨_, rfl⟩
  · split
    · exact ⟨_, rfl⟩
    · split <;> exact ⟨_, rfl⟩

/-- A draw reaches the noise source alone. -/
theorem engineDraw_rng {k : Fin 8} {n : Nat} {b : Bytes} {c' : Channel} (h : engineDraw k n c = .ok (b, c')) :
    ∃ g, c' = { c with rng := g } := by
  unfold engineDraw drbgDraw at h
  simp only [] at h
  -- Four things stop a draw: a request in progress, ERROR, a generator not made ready, and the limit of its requests (R316 to R318).
  iterate 4
    split at h
    · cases h
  cases h
  exact ⟨_, rfl⟩

theorem withRecord_error {d : Device} {f : RecCheck → Channel → Channel} {x : Fail}
    (h : recordCheck c e.sub e.wrapped e.proof = .error x) : withRecord d e f c = failE e x (touchCache d e c) := by
  simp only [withRecord, h]

theorem withRecord_ok {d : Device} {f : RecCheck → Channel → Channel} {k : RecCheck}
    (h : recordCheck c e.sub e.wrapped e.proof = .ok k) : withRecord d e f c = f k (touchCache d e c) := by
  simp only [withRecord, h]

theorem withShard_serves {f : Channel → Channel} (h : servesShard c = true) : withShard e f c = f c := if_pos h

/-- Whether the generation rolls or not, one wrap is counted (R136, R137). -/
theorem countWrap_wrapCtr (b : ShardBatt) : (countWrap b).1.wrapCtr = (b.wrapCtr + 1) % 2 ^ 64 := by
  unfold countWrap
  simp only []
  split <;> rfl

/-! ### The jobs -/

theorem recordImportJob_error {d : Device} {f : Fail} (h : importCheck c e = .error f) : recordImportJob ch d e c = failE e f c := by
  simp only [recordImportJob, h]

theorem recordImportJob_ok {d : Device} {r : MRec} (h : importCheck c e = .ok r) : recordImportJob ch d e c =
    stageJob e.jidx (recordEffect ch d e (zNode 0)
      { r with skipGen := c.shard.promo % 65536, ackGen := c.shard.promo % 65536, ackOut := r.icOut } (plainEffect e 0 0 0 [] c) c) c := by
  simp only [recordImportJob, h]

/-- A rewrap from the checks that pass, on the channel whose key cache is `l` then. -/
theorem recordRewrapJob_ok {d : Device} {k : RecCheck} {n : MRec} {l : List CacheEntry} (h : recordCheck c e.sub e.wrapped e.proof = .ok k)
    (hr : reserveIn c.shard (c.gov.soloNow d.tick) k.record = .ok n) (hl : touchCache d e c = { c with cache := l }) :
    recordRewrapJob ch d e c = stageJob e.jidx
      (recordEffect ch d e k.leaf n (plainEffect e 0 0 c.shard.gen [] c) { c with cache := l }) { c with cache := l } := by
  rw [recordRewrapJob, withRecord_ok h, hl]
  simp only [hr]
  rfl

theorem recordRotateJob_early {d : Device} (hs : servesShard c = true) (hr : c.shard.rotated = true) (ht : d.tick < c.shard.rotateTick + 86400000) :
    recordRotateJob d e c = failE e ⟨0x0102, 0, 0⟩ c := by
  rw [recordRotateJob, withShard_serves hs]
  exact if_pos ⟨hr, ht⟩

/-- The effect of a rotation at `tick` (R165). -/
def rotateEffect (tick : Nat) (e : JEntry) (c : Channel) : Effect :=
  let g := (c.shard.gen + 1) % 2 ^ 32
  { plainEffect e 0 0 g [] c with
    shard := { c.shard with gen := g, genCount := 0, rotateTick := tick, rotated := true }
    items := [.generation c.shard.epoch g], rollRaised := true }

theorem recordRotateJob_due {d : Device} (hs : servesShard c = true) (ht : c.shard.rotateTick + 86400000 ≤ d.tick) :
    recordRotateJob d e c = stageJob e.jidx (rotateEffect d.tick e c) c := by
  rw [recordRotateJob, withShard_serves hs]
  exact if_neg fun h => Nat.not_lt.2 ht h.2

theorem recordRetireJob_record {d : Device} {k : RecCheck} (ho : e.sub.opflag 0 = false) (h : recordCheck c e.sub e.wrapped e.proof = .ok k) :
    recordRetireJob d e c = stageJob e.jidx (retireEffect e k.leaf (touchCache d e c)) (touchCache d e c) := by
  simp only [recordRetireJob, ho, withRecord_ok h, Bool.false_eq_true, if_false]

section
variable {d : Device} (hs : shardCheck c e.sub.meter = none) (ho : e.sub.opflag 0 = true)
include hs ho

theorem recordRetireJob_young (hg : c.shard.gen < wrappedGen e.wrapped + 8) : recordRetireJob d e c = failE e ⟨0x0102, 16, 0⟩ c := by
  simp only [recordRetireJob, ho, hs, if_pos hg, if_true]
  rfl

variable (hg : wrappedGen e.wrapped + 8 ≤ c.shard.gen)
include hg

theorem recordRetireJob_stale (hb : (boundaryOf e.sub.meter (e.data 32 32) e.proof).take 16 ≠ treeNode c.tree (groupOf e.sub.meter)) :
    recordRetireJob d e c = failE e ⟨0x0203, 8, 0⟩ c := by
  simp only [recordRetireJob, ho, hs, if_neg (Nat.not_lt.2 hg), if_pos hb, if_true]

theorem recordRetireJob_leaf (hb : (boundaryOf e.sub.meter (e.data 32 32) e.proof).take 16 = treeNode c.tree (groupOf e.sub.meter)) :
    recordRetireJob d e c = stageJob e.jidx (retireEffect e (e.data 32 32) c) c := by
  simp only [recordRetireJob, ho, hs, if_neg (Nat.not_lt.2 hg), hb, ne_eq, not_true, if_false, if_true]

end

theorem shardCreateJob_refused (h : 1024 ≤ e.sub.phalf 56 ∨ c.shard.assigned = true) : shardCreateJob e c = failE e ⟨0x0102, 56, 0⟩ c :=
  if_pos (h.elim .inl fun h => .inr (.inl h))

section
variable (hn : e.sub.phalf 56 < 1024) (ha : c.shard.assigned = false) (hs : servesShard c = false)
include hn ha hs

theorem shardCreateJob_drawn {srk : Bytes} {c' : Channel} (h : engineDraw 1 32 c = .ok (srk, c')) : shardCreateJob e c =
    stageAct e 0 262144 (.create (e.sub.phalf 56) e.sub.outAddr srk) [imageWrite e.jidx e.sub.outAddr []] c' := by
  simp only [shardCreateJob, h, ha, hs, Nat.not_le.2 hn, Bool.false_eq_true, or_self, if_false]

theorem shardCreateJob_waits (h : engineDraw 1 32 c = .error .waits) : shardCreateJob e c = c := by
  simp only [shardCreateJob, h, ha, hs, Nat.not_le.2 hn, Bool.false_eq_true, or_self, if_false]
  exact if_neg nofun

end

theorem treeImageJob_waits (hs : servesShard c = true) (h : treeWritesUnsent c = true) : treeImageJob e c = c := by
  rw [treeImageJob, withShard_serves hs, if_pos h]

theorem treeImageJob_sends (hs : servesShard c = true) (h : treeWritesUnsent c = false) : treeImageJob e c =
    onEntry e.jidx (fun x => { x with writes := [imageWrite e.jidx e.sub.outAddr c.tree] })
      (stageAct e 0 262144 (.moveTree e.sub.outAddr) [] c) := by
  rw [treeImageJob, withShard_serves hs, if_neg (by simp [h])]

/-! ### COMMIT_RECOVER -/

theorem commitRecoverJob_empty (h : c.shard.slots.getD (e.sub.pbyte 56 % 16) none = none) : commitRecoverJob e c = finishPlain e 0 [] c := by
  simp only [commitRecoverJob, h]

/-- The root of the tree cache with the leaf of a held slot in its group (R80). -/
def recoverRoot (e : JEntry) (leaf : Bytes) (c : Channel) : Bytes :=
  treeRoot (treeSet c.tree (groupOf e.sub.meter) (((proofPath e.sub.meter leaf e.proof).getLastD []).take 16))

/-- The writes that a recovered slot sends again (R80, R230). -/
def recoverWrites (e : JEntry) (y : CommitSlot) (leaf : Bytes) (c : Channel) : List HostWrite :=
  (if y.record = zeros 224 then [] else [⟨.record, e.jidx, e.sub.recAddr, y.record⟩]) ++
  pathWrites c e.jidx e.sub.proofAddr e.sub.meter (proofPath e.sub.meter leaf e.proof) ++
  ((accountSlot c.shard.slots y).map fun x => (⟨.account, e.jidx, e.sub.outAddr, x.2.record⟩ : HostWrite)).toList

theorem recoverWrites_isEmpty (e : JEntry) (y : CommitSlot) (leaf : Bytes) (c : Channel) : (recoverWrites e y leaf c).isEmpty = false := by
  simp [recoverWrites, pathWrites]

section
variable {y : CommitSlot} (hy : c.shard.slots.getD (e.sub.pbyte 56 % 16) none = some y)
include hy

theorem commitRecoverJob_meter (hm : y.meter ≠ e.sub.meter) : commitRecoverJob e c = failE e ⟨0x0201, 0, 0⟩ c := by
  simp only [commitRecoverJob, hy, if_pos hm]

variable (hm : y.meter = e.sub.meter)
include hm

theorem commitRecoverJob_account (ha : y.account = true) : commitRecoverJob e c = failE e ⟨0x0102, 56, 0⟩ c := by
  simp only [commitRecoverJob, hy, hm, ha, ne_eq, not_true, if_false, if_true]
  rfl

variable (ha : y.account = false)
include ha

theorem commitRecoverJob_sealed (hl : slotLeaf c.shard y = none) : commitRecoverJob e c = failE e ⟨0x0200, 0, 0⟩ c := by
  simp only [commitRecoverJob, hy, hm, ha, hl, ne_eq, not_true, Bool.false_eq_true, if_false]

variable {leaf : Bytes} (hl : slotLeaf c.shard y = some leaf)
include hl

theorem commitRecoverJob_root (hr : recoverRoot e leaf c ≠ c.shard.root) : commitRecoverJob e c = failE e ⟨0x0203, 22, 0⟩ c := by
  rw [recoverRoot] at hr
  simp only [commitRecoverJob, hy, hm, ha, hl, hr, ne_eq, not_true, not_false_eq_true, Bool.false_eq_true, if_false, if_true]

theorem commitRecoverJob_sends (hr : recoverRoot e leaf c = c.shard.root)
    (ho : (accountSlot c.shard.slots y).isSome = true →
      e.sub.outAddr % 32 = 0 ∧ 224 ≤ e.sub.outLen ∧ c.host.win.holds e.sub.outAddr e.sub.outLen = true) :
    commitRecoverJob e c = onEntry e.jidx
      (fun x => { x with slotIx := some (e.sub.pbyte 56 % 16), slotIx2 := (accountSlot c.shard.slots y).map (·.1) })
      (finishJob e.jidx 0 0 1 0 (recoverWrites e y leaf c) c) := by
  rw [recoverRoot] at hr
  simp only [commitRecoverJob, hy, hm, ha, hl, hr, ne_eq, not_true, Bool.false_eq_true, if_false]
  cases hacc : accountSlot c.shard.slots y with
  | none => simp [recoverWrites, hacc]
  | some a =>
    obtain ⟨h32, hlen, hwin⟩ := ho (by simp [hacc])
    simp [recoverWrites, hacc, h32, hwin, Nat.not_lt.2 hlen]

end

end

/-- Settles O37: each job by the end its checks give it. -/
theorem recordJobs : Obligations.RecordJobs := by
  unfold Obligations.RecordJobs
  intro s ch e
  refine ⟨fun m => ?imported, fun k n hk hn m => ?rewrap, fun f hf m => ?rewrapFails, fun m hs => ?rotate, fun k hk ho m => ?retire,
    fun hs ho m => ?retireEmpty, fun m => ⟨fun hn ha hs => ?create, fun h => ?createFails⟩, fun m hs => ⟨fun h => ?treeWaits, fun h => ?tree⟩,
    fun m => ?status, fun m => ?list, fun m => ⟨fun h => ?recoverNone, fun y hy => ?recover⟩, fun m => ?journal⟩
  all_goals
    have ⟨_, held, ready⟩ := m
    have cl := claimed_of_ready ready
  case imported =>
    have run := ends_job (f := recordImportJob) (i := .recordImport ch e.jidx) m rfl
    split
    next f h => exact fails_of_failE held (recordImportJob_error h ▸ run)
    next r h => exact stages_of_stageJob held cl (recordImportJob_ok h ▸ run) ⟨_, rfl, rfl, rfl⟩
  case rewrap =>
    obtain ⟨l, hl⟩ := touchCache_cache s.dev e (s.chan ch)
    have run := ends_job (f := recordRewrapJob) (i := .recordRewrap ch e.jidx) m rfl
    rw [recordRewrapJob_ok hk hn hl] at run
    exact stages_of_stageJob held cl run ⟨rfl, countWrap_wrapCtr _, _, rfl, rfl⟩
  case rewrapFails =>
    obtain ⟨l, hl⟩ := touchCache_cache s.dev e (s.chan ch)
    have run := ends_job (f := recordRewrapJob) (i := .recordRewrap ch e.jidx) m rfl
    rw [recordRewrapJob, withRecord_error hf, hl] at run
    exact fails_of_failE held run
  case rotate =>
    have run := ends_job (f := fun _ => recordRotateJob) (i := .recordRotate ch e.jidx) m rfl
    refine ⟨fun hr ht => ?_, fun ht => ?_⟩
    · exact fails_of_failE held (recordRotateJob_early hs hr ht ▸ run)
    · exact stages_of_stageJob held cl (recordRotateJob_due hs ht ▸ run) ⟨rfl, rfl, rfl, rfl, rfl⟩
  case retire =>
    obtain ⟨l, hl⟩ := touchCache_cache s.dev e (s.chan ch)
    have run := ends_job (f := fun _ => recordRetireJob) (i := .recordRetire ch e.jidx) m rfl
    rw [recordRetireJob_record ho hk, hl] at run
    exact stages_of_stageJob held cl run ⟨_, rfl, rfl, rfl, rfl, rfl⟩
  case retireEmpty =>
    have run := ends_job (f := fun _ => recordRetireJob) (i := .recordRetire ch e.jidx) m rfl
    refine ⟨fun hg => ?_, fun hg => ⟨fun hb => ?_, fun hb => ?_⟩⟩
    · exact fails_of_failE held (recordRetireJob_young hs ho hg ▸ run)
    · exact fails_of_failE held (recordRetireJob_stale hs ho hg hb ▸ run)
    · exact stages_of_stageJob held cl (recordRetireJob_leaf hs ho hg hb ▸ run) ⟨_, rfl, rfl, rfl⟩
  case create =>
    have run := ends_job (f := fun _ _ => shardCreateJob) (i := .shardCreate ch e.jidx) m rfl
    refine ⟨fun srk c' hd => ?_, fun hd => ?_⟩
    · rw [shardCreateJob_drawn hn ha hs hd] at run
      obtain ⟨g, rfl⟩ := engineDraw_rng hd
      exact stages_of_stageJob held cl run ⟨rfl, rfl, rfl⟩
    · rwa [shardCreateJob_waits hn ha hs hd] at run
  case createFails =>
    have run := ends_job (f := fun _ _ => shardCreateJob) (i := .shardCreate ch e.jidx) m rfl
    exact fails_of_failE held (shardCreateJob_refused h ▸ run)
  case treeWaits =>
    have run := ends_job (f := fun _ _ => treeImageJob) (i := .treeImage ch e.jidx) m rfl
    rwa [treeImageJob_waits hs h] at run
  case tree =>
    have run := ends_job (f := fun _ _ => treeImageJob) (i := .treeImage ch e.jidx) m rfl
    rw [treeImageJob_sends hs h] at run
    exact ⟨_, _, _, run, entry_setChan (entry_onEntry _ _ _ _ (entry_stageJob _ _ _ _ held) fun _ => rfl), cl, rfl, rfl, rfl, rfl, rfl,
      untouched_setChan ⟨rfl, rfl, rfl, rfl, rfl⟩⟩
  case status => exact answers_of_finishPlain held (ends_job (f := fun _ _ => shardStatusJob) (i := .shardStatus ch e.jidx) m rfl)
  case list => exact answers_of_finishPlain held (ends_job (f := fun _ _ => commitListJob) (i := .commitList ch e.jidx) m rfl)
  case recoverNone =>
    have run := ends_job (f := fun _ _ => commitRecoverJob) (i := .commitRecover ch e.jidx) m rfl
    exact answers_of_finishPlain held (commitRecoverJob_empty h ▸ run)
  case recover =>
    have run := ends_job (f := fun _ _ => commitRecoverJob) (i := .commitRecover ch e.jidx) m rfl
    have fails {f : Fail} (h : commitRecoverJob e (s.chan ch) = failE e f (s.chan ch)) : Fails (.commitRecover ch e.jidx) s ch e f :=
      fails_of_failE held (h ▸ run)
    refine ⟨fun hm => fails (commitRecoverJob_meter hy hm), fun hm ha => fails (commitRecoverJob_account hy hm ha), fun hm ha => ?_⟩
    split
    next hl => exact fails (commitRecoverJob_sealed hy hm ha hl)
    next leaf hl =>
      refine ⟨fun hr => fails (commitRecoverJob_root hy hm ha hl hr), fun hr ho => ?_⟩
      rw [commitRecoverJob_sends hy hm ha hl hr ho] at run
      obtain ⟨n, hn, hst, h0, -, h1, -, hw, -⟩ := entry_finishJob (s.chan ch) e.jidx 0 0 1 0 (recoverWrites e y leaf (s.chan ch)) e held
      have hn' := entry_onEntry _ e.jidx
        (fun x => { x with slotIx := some (e.sub.pbyte 56 % 16), slotIx2 := (accountSlot (s.chan ch).shard.slots y).map (·.1) }) n hn (fun _ => rfl)
      refine ⟨_, _, run, entry_setChan hn', hst.trans ?_, h0, h1, rfl, rfl, hw, untouched_setChan ⟨rfl, rfl, rfl, rfl, rfl⟩⟩
      rw [recoverWrites_isEmpty]
      rfl
  case journal => exact answers_of_finishPlain held (ends_job (f := fun _ _ => journalListJob) (i := .journalList ch e.jidx) m rfl)

end Sys2Proof.Machine
end

section
/-! SUPPORT. A boot that finds the journal out of balance: jobs whose books do not hold complete with SAFETY_HOLD (R559), so the state that
LAST_TXN decides for the entry in COMMITTING (R70) does not stand at the end of the boot. -/
namespace Sys2Proof.Machine
open Sys2Proof.Says

/-- An entry whose commit a reset cut before its battery transaction. -/
def cutEntry : JEntry := { jidx := 0, sub := {}, queue := 0, inline := false, serial := 1, state := .committing }

/-- A channel at CHECK whose journal holds a second entry, WRITTEN, at the index of the first. -/
def twiceIndexed : Channel :=
  { state := .booting, bootStep := 4, jr := { entries := [cutEntry, { cutEntry with serial := 2, state := .written }] } }

/-- The part after reset, with that channel. -/
def twiceIndexedState : State := setChan State.reset 0 twiceIndexed

/-- LAST_TXN names no transaction of the entry, which becomes CLAIMED; the check of the books then ends it. -/
theorem boot_twiceIndexed : ∀ n ∈ ((channelBoot 0 {} twiceIndexedState).chan 0).jr.entries, n.state = .written := by decide +kernel

/-- Refutes O55: the clause on the entry in COMMITTING leaves out the check of the books, which ends the job of an entry that shares its
index with another (R559). -/
theorem not_channelBoots : ¬ Obligations.ChannelBoots := by
  unfold Obligations.ChannelBoots
  intro h
  have hc : twiceIndexedState.chan 0 = twiceIndexed := setChan_same _ _ _
  have hb := h twiceIndexedState 0 {} rfl
  rw [hc] at hb
  obtain ⟨-, -, -, -, -, second, -⟩ := hb rfl
  obtain ⟨-, committing⟩ := second rfl rfl (.inr rfl) rfl
  have only : ∀ o ∈ twiceIndexed.jr.entries, o.state = .committing → o = cutEntry := by decide
  obtain ⟨t, ends, n, hn, -, hst⟩ := committing rfl rfl rfl cutEntry (.head _) rfl only
  obtain rfl : channelBoot 0 {} twiceIndexedState = t := Host.Outcome.next.inj ends
  rw [boot_twiceIndexed n hn] at hst
  exact absurd hst (by decide)

end Sys2Proof.Machine
end

section
/-! SUPPORT. The jobs that load, list and remove images: a recipe and a settlement program are loaded and removed by the same steps, so
each case is said once over the kind of image (R120 to R129, R235, R236). -/
namespace Sys2Proof.Machine
open Sys2Proof.Says

/-! ### The two kinds of image -/

/-- What a channel loads from images: recipes (R117) or settlement programs (R206). -/
inductive ImageKind where
  | recipe
  | program

namespace ImageKind

/-- The opcodes of its load and its removal. -/
def loadOp : ImageKind → Nat
  | recipe => 0x0F30
  | program => 0x0F70

def removeOp : ImageKind → Nat
  | recipe => 0x0F32
  | program => 0x0F72

/-- The rows of its load and its removal. -/
def load : ImageKind → Ch → Nat → Instr
  | recipe => .recipeLoad
  | program => .programLoad

def remove : ImageKind → Ch → Nat → Instr
  | recipe => .recipeRemove
  | program => .programRemove

/-- What a load and a removal make of their channel. -/
def loadJob : ImageKind → JEntry → Channel → Channel
  | recipe => recipeLoadJob
  | program => programLoadJob

def removeJob : ImageKind → JEntry → Channel → Channel
  | recipe => recipeRemoveJob
  | program => programRemoveJob

/-- The identifier and the version in an image. -/
def idOf : ImageKind → Bytes → Nat
  | recipe, b => (Recipe.ofBytes b).id
  | program, b => (Program.ofBytes b).id

def versionOf : ImageKind → Bytes → Nat
  | recipe, b => (Recipe.ofBytes b).version
  | program, b => (Program.ofBytes b).version

/-- The check on the image alone that fails first, and how its load ends when the version is refused (R122). -/
def fault : ImageKind → ChannelKeys → Bytes → Option Check
  | recipe => recipeAdmit
  | program => programAdmit

def stale : ImageKind → Fail
  | recipe => (checkField 6 0xFFFF).fail
  | program => (rejected 9 0xFFFF).fail

/-- The bytes of its image area, and the check of the space for the images in force (R123). -/
def capacity : ImageKind → Nat
  | recipe => 196608
  | program => 262144

def space : ImageKind → ImageArea → Nat → Nat → Option Fail
  | recipe => recipeSpace
  | program => programSpace

/-- Its store in the flash bank, and whether a claimed job is bound to an image that drains (R125). -/
def store : ImageKind → StoreArea
  | recipe => recipeStore
  | program => settleStore

def bound : ImageKind → List JEntry → Image → Bool
  | recipe, es => boundTo es recipeOf
  | program, es => settleBound es

/-- Its image area in a channel. -/
def area : ImageKind → Channel → ImageArea
  | recipe, c => c.recipes
  | program, c => c.programs

/-- A channel with its image area and the flash bank replaced. -/
def put : ImageKind → ImageArea × NvBank → Channel → Channel
  | recipe, x, c => { c with recipes := x.1, nv := x.2 }
  | program, x, c => { c with programs := x.1, nv := x.2 }

/-- The kind of the images that it leaves alone. -/
def other : ImageKind → ImageKind
  | recipe => program
  | program => recipe

variable (k : ImageKind) (e : JEntry) (c : Channel) (x : ImageArea × NvBank)

/-- What a load writes to the store and puts in force. -/
def admitted (b : Bytes) : Option (ImageArea × NvBank) :=
  admitImage k.store (k.bound c.jr.entries) (k.area c) c.nv (k.idOf b) (k.versionOf b) c.jr.serial b

/-- What a removal writes to the store and withdraws. -/
def removed : Option (ImageArea × NvBank) :=
  removeImage k.store (k.bound c.jr.entries) (k.area c) c.nv e.sub.recipe c.jr.serial

/-! ### What a replaced area leaves -/

theorem put_jr : (k.put x c).jr = c.jr := by cases k <;> rfl

/-- A job that ends well keeps the area and the bank it put, and the images of the other kind. -/
theorem finishPlain_put (r : Nat) (out : Bytes) : k.area (finishPlain e r out (k.put x c)) = x.1 ∧
    (finishPlain e r out (k.put x c)).nv = x.2 ∧ k.other.area (finishPlain e r out (k.put x c)) = k.other.area c := by
  cases k <;> exact ⟨rfl, rfl, rfl⟩

variable {e c x}

theorem removed_id (h : k.removed e c = some x) : ∀ i ∈ x.1.loaded, i.id ≠ e.sub.recipe := by
  obtain ⟨n, -, rfl⟩ := Option.map_eq_some_iff.1 h
  intro i hi
  exact bne_iff_ne.1 (List.mem_filter.1 hi).2

/-! ### A load, an equation a case -/

/-- A load that has room in the image area beside the old versions, or finds none of them, does not wait for them to drain (R125). -/
theorem not_waits {b : Bytes} (room : areaUsed (k.area c) + b.length ≤ k.capacity ∨ (k.area c).draining = []) :
    ¬ (k.capacity < areaUsed (k.area c) + b.length ∧ ¬ (k.area c).draining.isEmpty) := by
  rintro ⟨full, drains⟩
  rcases room with fits | empty
  · exact Nat.not_lt.2 fits full
  · exact drains (List.isEmpty_iff.2 empty)

section
variable {b : Bytes} (hb : e.data 32 e.sub.inLen = b) (idle : loadBusy c e [k.loadOp, k.removeOp] = false)
include hb idle

theorem loadJob_unfit {f : Check} (ha : k.fault c.keys b = some f) : k.loadJob e c = failE e f.fail c := by
  cases k <;> simp only [loadOp, removeOp, fault] at idle ha <;>
    simp only [loadJob, recipeLoadJob, programLoadJob, hb, idle, ha, Bool.false_eq_true, if_false]

variable (ha : k.fault c.keys b = none)
include ha

theorem loadJob_stale {u : Unit} (hv : versionCheck (k.area c) (k.idOf b) (k.versionOf b) b = .error u) :
    k.loadJob e c = failE e k.stale c := by
  cases k <;> simp only [loadOp, removeOp, fault, area, idOf, versionOf] at idle ha hv <;>
    simp only [loadJob, recipeLoadJob, programLoadJob, stale, hb, idle, ha, hv, Bool.false_eq_true, if_false]

theorem loadJob_present (hv : versionCheck (k.area c) (k.idOf b) (k.versionOf b) b = .ok true) :
    k.loadJob e c = finishPlain e (k.versionOf b + 2 ^ 33) [] c := by
  cases k <;> simp only [loadOp, removeOp, fault, area, idOf, versionOf] at idle ha hv <;>
    simp only [loadJob, recipeLoadJob, programLoadJob, versionOf, hb, idle, ha, hv, Bool.false_eq_true, if_false]

variable (hv : versionCheck (k.area c) (k.idOf b) (k.versionOf b) b = .ok false)
  (room : areaUsed (k.area c) + b.length ≤ k.capacity ∨ (k.area c).draining = [])
include hv room

theorem loadJob_unspaced {f : Fail} (hs : k.space (k.area c) (k.idOf b) b.length = some f) : k.loadJob e c = failE e f c := by
  have wait := k.not_waits room
  cases k <;> simp only [loadOp, removeOp, fault, area, idOf, versionOf, capacity, space] at idle ha hv wait hs <;>
    simp only [loadJob, recipeLoadJob, programLoadJob, hb, idle, ha, hv, wait, hs, Bool.false_eq_true, if_false]

variable (hs : k.space (k.area c) (k.idOf b) b.length = none)
include hs

theorem loadJob_full (hx : k.admitted c b = none) : k.loadJob e c = failE e storeFull c := by
  have wait := k.not_waits room
  cases k <;> simp only [loadOp, removeOp, fault, area, idOf, versionOf, capacity, space, admitted, store, bound] at idle ha hv wait hs hx <;>
    simp only [loadJob, recipeLoadJob, programLoadJob, hb, idle, ha, hv, wait, hs, hx, Bool.false_eq_true, if_false]

theorem loadJob_admitted (hx : k.admitted c b = some x) : k.loadJob e c =
    finishPlain e (k.versionOf b + 2 ^ 32 * b2n ((k.area c).loaded.any fun i => i.id == k.idOf b)) [] (k.put x c) := by
  have wait := k.not_waits room
  cases k <;> simp only [loadOp, removeOp, fault, area, idOf, versionOf, capacity, space, admitted, store, bound] at idle ha hv wait hs hx <;>
    simp only [loadJob, recipeLoadJob, programLoadJob, area, idOf, versionOf, put, hb, idle, ha, hv, wait, hs, hx, Bool.false_eq_true, if_false]

end

/-! ### A removal, an equation a case -/

section
variable (idle : loadBusy c e [k.loadOp, k.removeOp] = false)
include idle

theorem removeJob_absent (h : ∀ i ∈ (k.area c).loaded, i.id ≠ e.sub.recipe) : k.removeJob e c = failE e ⟨0x0108, 0, 0⟩ c := by
  have absent : ((k.area c).loaded.any fun i => i.id == e.sub.recipe) = false :=
    List.any_eq_false.2 fun i hi same => h i hi (beq_iff_eq.1 same)
  cases k <;> simp only [loadOp, removeOp, area] at idle absent <;>
    simp only [removeJob, recipeRemoveJob, programRemoveJob, idle, absent, Bool.not_false, Bool.false_eq_true, if_false, if_true]

variable (h : ∃ i ∈ (k.area c).loaded, i.id = e.sub.recipe)
include h

omit idle in
theorem loaded_any : ((k.area c).loaded.any fun i => i.id == e.sub.recipe) = true := by
  obtain ⟨i, hi, same⟩ := h
  exact List.any_eq_true.2 ⟨i, hi, beq_iff_eq.2 same⟩

theorem removeJob_full (hx : k.removed e c = none) : k.removeJob e c = failE e storeFull c := by
  have present := k.loaded_any h
  cases k <;> simp only [loadOp, removeOp, area, removed, store, bound] at idle present hx <;>
    simp only [removeJob, recipeRemoveJob, programRemoveJob, idle, present, hx, Bool.not_true, Bool.false_eq_true, if_false]

theorem removeJob_removed (hx : k.removed e c = some x) : k.removeJob e c = finishPlain e 0 [] (k.put x c) := by
  have present := k.loaded_any h
  cases k <;> simp only [loadOp, removeOp, area, removed, store, bound] at idle present hx <;>
    simp only [removeJob, recipeRemoveJob, programRemoveJob, put, idle, present, hx, Bool.not_true, Bool.false_eq_true, if_false]

end

/-! ### How a load and a removal end -/

variable {s : State} {ch : Ch}

theorem load_run (m : MayRun s ch e k.loadOp) : Ends (k.load ch e.jidx) s (setChan s ch (k.loadJob e (s.chan ch))) :=
  ends_job (f := fun _ _ => k.loadJob) m (by cases k <;> rfl)

theorem remove_run (m : MayRun s ch e k.removeOp) : Ends (k.remove ch e.jidx) s (setChan s ch (k.removeJob e (s.chan ch))) :=
  ends_job (f := fun _ _ => k.removeJob) m (by cases k <;> rfl)

/-- A job that ends well with the area and the bank replaced. -/
theorem answers_of_put {i : Instr} {r : Nat} (held : Holds (s.chan ch) e)
    (run : Ends i s (setChan s ch (finishPlain e r [] (k.put x (s.chan ch))))) : Answers i s ch e r [] ∧
      Gives i s ch fun t => k.area t = x.1 ∧ t.nv = x.2 ∧ k.other.area t = k.other.area (s.chan ch) :=
  ⟨answers_of_finishPlain held run (put_jr k _ x), _, run, by rw [setChan_same]; exact finishPlain_put k e _ x r []⟩

end ImageKind

/-- Settles O38: a load and a removal by the case of its kind of image, and each list as its job answers it. -/
theorem imageJobs : Obligations.ImageJobs := by
  unfold Obligations.ImageJobs
  intro s ch e
  refine ⟨fun m idle => ?recipeLoad, fun m => ?recipeList, fun m idle => ?recipeRemove, fun m idle => ?programLoad,
    fun m => ?programList, fun m idle => ?programRemove⟩
  all_goals have ⟨_, held, _⟩ := m
  case recipeList => exact answers_of_finishPlain held (ends_job (f := fun _ _ => recipeListJob) (i := .recipeList ch e.jidx) m rfl)
  case programList => exact answers_of_finishPlain held (ends_job (f := fun _ _ => programListJob) (i := .programList ch e.jidx) m rfl)
  case' recipeLoad => let k := ImageKind.recipe
  case' recipeRemove => let k := ImageKind.recipe
  case' programLoad => let k := ImageKind.program
  case' programRemove => let k := ImageKind.program
  case recipeLoad | programLoad =>
    have run := k.load_run m
    refine ⟨fun f ha => fails_of_failE held (k.loadJob_unfit rfl idle ha ▸ run), fun ha => ?_⟩
    split
    next u hv => exact fails_of_failE held (k.loadJob_stale rfl idle ha hv ▸ run)
    next hv => exact answers_of_finishPlain held (k.loadJob_present rfl idle ha hv ▸ run)
    next hv =>
      intro room
      split
      next f hs => exact fails_of_failE held (k.loadJob_unspaced rfl idle ha hv room hs ▸ run)
      next hs =>
        split
        next hx => exact fails_of_failE held (k.loadJob_full rfl idle ha hv room hs hx ▸ run)
        next x hx => exact k.answers_of_put held (k.loadJob_admitted rfl idle ha hv room hs hx ▸ run)
  case recipeRemove | programRemove =>
    have run := k.remove_run m
    refine ⟨fun h => fails_of_failE held (k.removeJob_absent idle h ▸ run), fun h => ?_⟩
    split
    next hx => exact fails_of_failE held (k.removeJob_full idle h hx ▸ run)
    next x hx =>
      obtain ⟨answers, t, ends, area, nv, rest⟩ := k.answers_of_put held (k.removeJob_removed idle h hx ▸ run)
      have gone := k.removed_id hx
      rw [← area] at gone
      exact ⟨answers, t, ends, area, nv, gone, rest⟩

end Sys2Proof.Machine
end

section
/-! SUPPORT. The jobs of a channel of a pair, an equation a case, and the battery transaction of a commit that changes the shard, its role
or its pair: what it leaves of the act it applies (R65, R368 to R393). -/
namespace Sys2Proof.Machine
open Sys2Proof.Says

section
variable {s : State} {ch : Ch} {d : Device} {e : JEntry} {i : Instr} {c : Channel}

/-! ### The jobs -/

theorem stagesAct_of_stageAct {result n : Nat} {a : ShardAct} {ws : List HostWrite} (held : Holds (s.chan ch) e) (hc : e.state = .claimed)
    (run : Ends i s (setChan s ch (stageAct e result n a ws c))) (hj : c.jr = (s.chan ch).jr := by rfl)
    (hu : Untouched (s.chan ch) c := by exact ⟨rfl, rfl, rfl, rfl, rfl⟩) : StagesAct i s ch e result a ws :=
  have ⟨hs, hg, _⟩ := hu
  stages_of_stageJob held hc run ⟨rfl, rfl, rfl, rfl, rfl, rfl, rfl⟩ hj hu hs hg

theorem activePaired_iff : activePaired c = true ↔ c.pair.role = .active ∧ c.pair.peer.isSome = true := by
  simp [activePaired]

theorem not_busy (quiet : pairQuiet c = true) : ¬ (!pairQuiet c) = true := by simp [quiet]

section
variable {ok : Channel → Bool} {f : Channel → Channel}

theorem withRole_ok (hf : fleetReady d c = true) (ho : ok c = true) : withRole d e ok f c = f c := by
  simp [withRole, hf, ho]

theorem withRole_unready (hf : fleetReady d c = false) : withRole d e ok f c = failE e ⟨0x0602, 0, 0⟩ c := by
  simp [withRole, hf]

theorem withRole_refused (ho : ok c = false) : withRole d e ok f c = failE e ⟨0x0602, 0, 0⟩ c := by
  simp [withRole, ho]

end

theorem noteBuildJob_unready (hf : fleetReady d c = false) : noteBuildJob ch d e c = failE e ⟨0x0602, 0, 0⟩ c := withRole_unready hf

theorem pairBeatJob_unready (hf : fleetReady d c = false) : pairBeatJob ch d e c = failE e ⟨0x0602, 0, 0⟩ c := withRole_unready hf

/-- The pair of a channel whose note buffer is drained into a note (R376). -/
def drained (c : Channel) : Channel :=
  { c with pair := { c.pair with
    unacked := c.pair.unacked ++ c.pair.buffer, buffer := [], lastNote := some (c.shard.epoch, c.shard.root) } }

/-- The payload of a beat of an active (R384). -/
def activeBeat (d : Device) (c : Channel) : Bytes :=
  leBytes 8 d.tick ++ leBytes 8 c.shard.epoch ++ leBytes 8 c.shard.ackEpoch ++ [1] ++ zeros 7

/-- The level-8 nodes of chunk `k` of a snapshot (R381). -/
def chunkNodes (k : Nat) (c : Channel) : Bytes :=
  ((List.range 4096).map fun i => padTo 16 (treeNode c.tree (4096 * (k - 1) + i))).flatten

/-- A chunk or a COMMIT asked for in the session that runs (R381). -/
theorem in_session (sync : c.pair.syncLost = false) (session : e.sub.param / 2 ^ 32 = c.pair.snapId) :
    ¬ (c.pair.syncLost = true ∨ e.sub.param / 2 ^ 32 ≠ c.pair.snapId) :=
  not_or_intro (by simp [sync]) (not_not_intro session)

/-- SNAPSHOT_COMMIT is the index 0xFF of SNAPSHOT_BUILD (R381). -/
theorem ends_snapshotCommit (m : MayRun s ch e 0x0703) (index : e.sub.pbyte 56 = 0xFF) :
    Ends (.snapshotCommit ch e.jidx) s (setChan s ch (snapshotCommitJob ch s.dev e (s.chan ch))) := by
  have run := ends_job (f := fun ch d e c => if e.sub.pbyte 56 = 0xFF then snapshotCommitJob ch d e c else c)
    (i := .snapshotCommit ch e.jidx) m rfl
  rwa [if_pos index] at run

section
variable (ready : fleetReady d c = true)
include ready

section
variable (active : activePaired c = true)
include active

theorem noteBuildJob_lost (h : c.pair.syncLost = true) : noteBuildJob ch d e c = failE e ⟨0x0601, 0, 0⟩ c := by
  rw [noteBuildJob, withRole_ok ready active, if_pos h]

theorem noteBuildJob_sends (h : c.pair.syncLost = false) : noteBuildJob ch d e c =
    finishPlain e c.shard.epoch (buildMessage ch d 1 (notePayload c) c).1 (buildMessage ch d 1 (notePayload c) (drained c)).2 := by
  rw [noteBuildJob, withRole_ok ready active, if_neg (by simp [h])]
  rfl

theorem pairBeatJob_sends : pairBeatJob ch d e c =
    finishPlain e 0 (buildMessage ch d 3 (activeBeat d c) c).1 (buildMessage ch d 3 (activeBeat d c) c).2 := by
  obtain ⟨role, peer⟩ := activePaired_iff.1 active
  rw [pairBeatJob, withRole_ok ready (by simp [role, peer])]
  simp only [role, if_true]
  rfl

section
variable (zero : e.sub.param / 256 % 2 ^ 24 = 0)
include zero

theorem snapshotStartJob_stages (quiet : pairQuiet c = true) :
    let m := buildMessage ch d 4 (chunkHead ((c.pair.snapId + 1) % 2 ^ 32) 0 c.shard.epoch ++ chunkState c) c
    snapshotStartJob ch d e c = stageAct e 0 m.1.length (.snapStart ((c.pair.snapId + 1) % 2 ^ 32)) (outWrite e.jidx e.sub m.1) m.2 := by
  rw [snapshotStartJob, if_neg (not_busy quiet), withRole_ok ready active, if_neg (not_not_intro zero)]

theorem snapshotChunkJob_stages (quiet : pairQuiet c = true) (low : 1 ≤ e.sub.pbyte 56) (high : e.sub.pbyte 56 ≤ 4)
    (sync : c.pair.syncLost = false) (session : e.sub.param / 2 ^ 32 = c.pair.snapId) :
    let m := buildMessage ch d 4 (chunkHead c.pair.snapId (e.sub.pbyte 56) c.shard.epoch ++ chunkNodes (e.sub.pbyte 56) c) c
    snapshotChunkJob ch d e c = stageAct e 0 m.1.length .snapChunk (outWrite e.jidx e.sub m.1) m.2 := by
  have index : ¬ (e.sub.param / 256 % 2 ^ 24 ≠ 0 ∨ e.sub.pbyte 56 < 1 ∨ 4 < e.sub.pbyte 56) := by omega
  rw [snapshotChunkJob, if_neg (not_busy quiet), withRole_ok ready active, if_neg index, if_neg (in_session sync session)]
  rfl

theorem snapshotCommitJob_sends (sync : c.pair.syncLost = false) (session : e.sub.param / 2 ^ 32 = c.pair.snapId) {ep : Nat} {root : Bytes}
    (note : c.pair.lastNote = some (ep, root)) :
    let m := buildMessage ch d 5 (leBytes 4 c.pair.snapId ++ zeros 4 ++ leBytes 8 ep ++ padTo 16 root) c
    snapshotCommitJob ch d e c = finishPlain e 0 m.1 m.2 := by
  rw [snapshotCommitJob, withRole_ok ready active, if_neg (not_not_intro zero), if_neg (in_session sync session)]
  simp only [note]

theorem snapshotCommitJob_noNote (note : c.pair.lastNote = none) : snapshotCommitJob ch d e c = failE e ⟨0x0601, 0, 0⟩ c := by
  rw [snapshotCommitJob, withRole_ok ready active, if_neg (not_not_intro zero)]
  simp only [note, ite_self]

end
end

section
variable (quiet : pairQuiet c = true)
include quiet

theorem pairUnbindJob_stages : pairUnbindJob d e c = stageAct e 0 0 .unbind [] c := by
  rw [pairUnbindJob, if_neg (not_busy quiet), withRole_ok ready rfl]

theorem revocationLoadJob_fails {f : Fail} (h : listCheck c (e.data 32 e.sub.inLen) = some f) :
    revocationLoadJob d e c = failE e f c := by
  rw [revocationLoadJob, if_neg (not_busy quiet), withRole_ok ready rfl]
  simp only [h]

theorem revocationLoadJob_stages (h : listCheck c (e.data 32 e.sub.inLen) = none) : revocationLoadJob d e c =
    stageAct e 0 0 (.revoke (fieldLE (e.data 32 e.sub.inLen) 4 4) (listMembers (e.data 32 e.sub.inLen))) [] c := by
  rw [revocationLoadJob, if_neg (not_busy quiet), withRole_ok ready rfl]
  simp only [h]

theorem relinquishJob_stages (h : relinquishOk d c = true) : let m := buildMessage ch d 6 (relinquishPayload d c) c
    relinquishJob ch d e c = stageAct e 0 m.1.length .relinquish (outWrite e.jidx e.sub m.1) m.2 := by
  rw [relinquishJob, if_neg (not_busy quiet), withRole_ok ready h]

omit ready in
theorem relinquishJob_refused (h : relinquishOk d c = false) : relinquishJob ch d e c = failE e ⟨0x0602, 0, 0⟩ c := by
  rw [relinquishJob, if_neg (not_busy quiet), withRole_refused h]

/-! ### PROMOTE -/

omit ready in
theorem promoteJob_role (h : c.pair.role ≠ .standby) (image : Option Bytes) : promoteJob d image e c = failE e ⟨0x0602, 0, 0⟩ c := by
  rw [promoteJob, if_neg (not_busy quiet), withRole_refused (by simp [h])]

section
variable (standby : c.pair.role = .standby) (stale : freshActiveBeat d c = false)
include standby stale

theorem promoteJob_unread : promoteJob d none e c = failE e ⟨0x0109, 0, 0⟩ { c with pair := { c.pair with shadow := none } } := by
  rw [promoteJob, if_neg (not_busy quiet), withRole_ok ready (by simp [standby, stale])]
  rfl

variable {b : Bytes} (window : c.host.win.holds c.shard.treeBase 262144 = true)
include window

theorem promoteJob_mismatch (h : treeRoot (treeRebuilt b c) ≠ c.shard.root) :
    promoteJob d (some b) e c = failE e ⟨0x0203, 22, 0⟩ { c with pair := { c.pair with shadow := none } } := by
  rw [promoteJob, if_neg (not_busy quiet), withRole_ok ready (by simp [standby, stale])]
  simp only [Option.filter_some, window, if_true]
  exact if_pos h

theorem promoteJob_stages (h : treeRoot (treeRebuilt b c) = c.shard.root) : promoteJob d (some b) e c =
    stageAct e ((c.shard.promo + 1) % 2 ^ 32) 0 (.promote (treeRebuilt b c)) [] { c with pair := { c.pair with shadow := none } } := by
  rw [promoteJob, if_neg (not_busy quiet), withRole_ok ready (by simp [standby, stale])]
  simp only [Option.filter_some, window, if_true]
  exact if_neg (not_not_intro h)

end
end
end

/-! ### PAIR_BIND -/

section
variable (quiet : pairQuiet c = true) (sound : bindCheck d e c = none)
include quiet sound

theorem pairBindActiveJob_stages (kind : e.sub.pbyte 56 = 1) (keep : e.sub.pbyte 57 = 0) (serves : servesShard c = true)
    (role : c.pair.role = .none) : pairBindActiveJob d e c =
      stageAct e 0 0 (.bindActive (e.sub.phalf 58, e.sub.pbyte 60) (e.sub.pbyte 61)) [] c := by
  simp [pairBindActiveJob, quiet, sound, kind, keep, serves, role]

variable (kind : e.sub.pbyte 56 = 2)
include kind

theorem pairBindStandbyJob_stages (free : e.sub.pbyte 57 = 1 ∨ (c.shard.assigned = false ∧ c.pair.role = .none)) :
    pairBindStandbyJob d e c = stageAct e 0 0
      (.bindStandby (decide (e.sub.pbyte 57 = 1)) (e.sub.phalf 58, e.sub.pbyte 60) (e.sub.phalf 62) e.sub.outAddr) [] c := by
  have room : ¬ (¬ e.sub.pbyte 57 = 1 ∧ (c.shard.assigned = true ∨ c.pair.role ≠ .none)) := by
    rintro ⟨keep, taken⟩
    obtain ⟨unassigned, unpaired⟩ := free.resolve_left keep
    simp [unassigned, unpaired] at taken
  simp only [pairBindStandbyJob, quiet, sound, kind, if_neg room]
  rfl

theorem pairBindStandbyJob_assigned (keep : e.sub.pbyte 57 = 0) (assigned : c.shard.assigned = true) :
    pairBindStandbyJob d e c = failE e ⟨0x0602, 0, 0⟩ c := by
  simp [pairBindStandbyJob, quiet, sound, kind, keep, assigned]

end

/-! ### What the shared steps of a transaction leave -/

/-- A crumb reaches the event port, and the host slice when it is dropped (R20). -/
theorem fileCrumb_port (code p0 p1 p2 p3 : Nat) : ∃ h p, fileCrumb ch d code p0 p1 p2 p3 c = { c with host := h, port := p } := by
  unfold fileCrumb
  split <;> exact ⟨_, _, rfl⟩

/-- A change of role reaches the role, the nonce and the message counter of the pair, and files a crumb (R369, R370). -/
theorem setRole_pair (r : PairRole) : setRole ch d r c = let t := setRole ch d r c
    { c with
      host := t.host, port := t.port, rng := t.rng
      pair := { c.pair with role := r, snonce := t.pair.snonce, pseq := t.pair.pseq } } := by
  unfold setRole
  split
  next same => rw [← same]
  next =>
    obtain ⟨h, p, filed⟩ := fileCrumb_port (ch := ch) (d := d) (c := newNonce { c with pair := { c.pair with role := r } })
      0x2400 (roleCode c.pair.role) (roleCode r) (newNonce { c with pair := { c.pair with role := r } }).shard.promo 0
    simp only []
    rw [filed]
    rfl

/-! ### A transaction's end -/

/-- LAST_TXN written by a transaction (R70). -/
def stamped (txn : Nat × Nat) (c : Channel) : Channel := { c with shard := { c.shard with lastTxn := txn } }

/-- Channel `t` is `b` once the rest of a transaction has passed: the entry's completion, crumbs and sources, the 90 % mark, the tick of
the last root and the standing contexts (R65, R104, R225). -/
def Closes (b t : Channel) : Prop := ∃ h p j k r m, t = { b with
  host := h, port := p, jr := j, ce := k, backups := { b.backups with rootTick := r }, gov := { b.gov with above90 := m } }

namespace Closes
variable {b t : Channel}

theorem refl (b : Channel) : Closes b b := ⟨_, _, _, _, _, _, rfl⟩

theorem trans (h : Closes b c) (k : Closes c t) : Closes b t := by
  obtain ⟨_, _, _, _, _, _, rfl⟩ := h
  obtain ⟨_, _, _, _, _, _, rfl⟩ := k
  exact ⟨_, _, _, _, _, _, rfl⟩

theorem ite {q : Prop} [Decidable q] (ht : Closes b c) (hu : Closes b t) : Closes b (if q then c else t) := by
  split <;> assumption

theorem mark (m : Bool) (c : Channel) : Closes c { c with gov := { c.gov with above90 := m } } := ⟨_, _, _, _, _, _, rfl⟩

theorem rootTick (n : Nat) (c : Channel) : Closes c { c with backups := { c.backups with rootTick := n } } := ⟨_, _, _, _, _, _, rfl⟩

theorem onEntry (j : Nat) (f : JEntry → JEntry) (h : Closes b c) : Closes b (onEntry j f c) := h.trans ⟨_, _, _, _, _, _, rfl⟩

theorem raiseSource (n : Nat) (h : Closes b c) : Closes b (raiseSource n c) := h.trans ⟨_, _, _, _, _, _, rfl⟩

theorem fileCrumb (code p0 p1 p2 p3 : Nat) (h : Closes b c) : Closes b (fileCrumb ch d code p0 p1 p2 p3 c) := by
  obtain ⟨_, _, filed⟩ := fileCrumb_port (ch := ch) (d := d) (c := c) code p0 p1 p2 p3
  exact h.trans ⟨_, _, _, _, _, _, filed⟩

/-- The look at the 90 % mark changes the mark, and tells of a crossing (R104). -/
theorem checkNinety (h : Closes b c) : Closes b (checkNinety ch d c) :=
  ite (h.trans (((mark true c).raiseSource 15).fileCrumb ..)) (ite (h.trans (mark false c)) h)

theorem followShard (old : ShardBatt) (h : Closes b c) : Closes b (followShard ch d old c) := by
  unfold Machine.followShard
  simp only []
  split
  · exact h
  · exact h.trans ⟨_, _, _, _, _, _, rfl⟩

/-- What stands of a transaction's channel at its end. -/
theorem stands {txn : Nat × Nat} (h : Closes (stamped txn b) t) :
    t.pair = b.pair ∧ t.tree = b.tree ∧ t.treeOk = b.treeOk ∧ t.cache = b.cache ∧ t.shard = { b.shard with lastTxn := txn } ∧
      (∃ m, t.gov = { b.gov with above90 := m }) ∧
      t.backups.lastTick = b.backups.lastTick ∧ t.backups.lastEpoch = b.backups.lastEpoch := by
  obtain ⟨_, _, _, _, _, m, rfl⟩ := h
  exact ⟨rfl, rfl, rfl, rfl, rfl, ⟨m, rfl⟩, rfl, rfl⟩

end Closes

/-- The channel on which a granted effect applies its act: battery state as computed, slots and governor as they stand (R65). -/
def granted (x : Effect) (g : Governor) (c : Channel) : Channel :=
  { c with shard := { x.shard with slots := c.shard.slots }, gov := g }

/-- No item is appended to the note buffer. -/
theorem buffer_append_nil (c : Channel) : { c with pair := { c.pair with buffer := c.pair.buffer ++ [] } } = c := by rw [List.append_nil]

section
variable {en : JEntry} {x : Effect} {g : Governor} {a : ShardAct} (act : x.act = some a) (leaf : x.leaf = none) (items : x.items = [])
  (ded : x.ded = none)
include act leaf items ded

/-- An effect that is an act alone: the act on the battery state granted, LAST_TXN, and the transaction's end. -/
theorem applyEffect_act : Closes (stamped (d.bootCount, en.serial) (applyAct ch d a (granted x g c))) (applyEffect ch d en x g c) := by
  -- With its four fields put in, the matches on the effect compute, and what is left of the steps is their conditions.
  cases x
  subst act leaf items ded
  unfold applyEffect
  extract_lets before _ sh kept items old base acted _ dated keyed cached moved _ rooted _ buffered _ cpl entered filed rolled low
  have hdated : dated = stamped (d.bootCount, en.serial) (applyAct ch d a (granted _ g c)) := rfl
  rw [← hdated]
  have hrooted : Closes dated rooted := .ite (.rootTick d.tick dated) (.refl dated)
  have hbuffered : buffered = rooted := ite_eq_right_iff.2 fun _ => buffer_append_nil rooted
  have hfiled : Closes dated filed := by
    have hentered : Closes dated entered := (hbuffered ▸ hrooted).onEntry _ _
    simp only [filed]
    split
    · exact hentered.fileCrumb ..
    · exact hentered
  have hrolled : Closes dated rolled := .ite (hfiled.raiseSource 12) hfiled
  have hlow : Closes dated low := .ite (hrolled.raiseSource 13) hrolled
  exact .ite hlow hlow.checkNinety

/-- BATTERY_TRANSACTION_DONE for such an effect, whose units are granted. -/
theorem transactionStep_act (find : c.jr.entries.find? (fun o => o.state == .committing) = some en) (ready : en.ready = some x)
    (take : x.gov.take d.tick x.units = some g) :
    Closes (stamped (d.bootCount, en.serial) (applyAct ch d a (granted x g (raiseCause 16 c)))) (transactionStep ch d c) := by
  simp only [transactionStep, find, ready, take]
  refine Closes.followShard _ ?_
  split
  · exact applyEffect_act (x := { x with cpl := { x.cpl with result := setBit x.cpl.result 34 true } }) act leaf items ded
  · exact applyEffect_act act leaf items ded

end

/-- The command ends with the transaction's step on its channel. -/
theorem ends_transaction (en : s.dev.has ch = true) (link : s.pw.link = true) :
    Ends (.batteryTransactionDone ch) s (setChan s ch (transactionStep ch s.dev (s.chan ch))) := by
  rw [← onChan_enabled _ transactionStep _ en]
  exact congrArg Host.Outcome.next (if_pos link)

/-! ### Acts that may unbind the pair -/

theorem unbindPair_pair (c : Channel) : let t := (unbindPair ch d c).pair
    t.role = .none ∧ t.peer = none ∧ t.listSeq = c.pair.listSeq ∧ t.revoked = c.pair.revoked := by
  unfold unbindPair
  rw [setRole_pair]
  simp only []
  split <;> exact ⟨rfl, rfl, rfl, rfl⟩

/-- An active keeps serving (R372). -/
theorem unbindPair_active (h : c.pair.role = .active) : (unbindPair ch d c).tree = c.tree ∧ (unbindPair ch d c).shard = c.shard := by
  unfold unbindPair
  rw [if_neg (by simp [h]), setRole_pair]
  exact ⟨rfl, rfl⟩

/-- A standby's shard is discarded (R372). -/
theorem unbindPair_standby (h : c.pair.role = .standby) :
    (unbindPair ch d c).tree = [] ∧ (unbindPair ch d c).shard.assigned = false := by
  unfold unbindPair
  rw [if_pos (.inl h)]
  exact ⟨rfl, rfl⟩

/-- The channel with a revocation list accepted (R392). -/
def listed (seq : Nat) (ms : List Nat) (c : Channel) : Channel := { c with pair := { c.pair with listSeq := seq, revoked := ms } }

/-- The peer's member is on a list. -/
def peerIn (ms : List Nat) (c : Channel) : Bool :=
  match c.pair.peer with
  | some (m, _) => ms.contains m
  | none => false

theorem peerIn_of_mem {ms : List Nat} {p : Nat × Nat} (peer : c.pair.peer = some p) (member : p.1 ∈ ms) : peerIn ms c = true := by
  simp [peerIn, peer, member]

theorem applyAct_revoke (seq : Nat) (ms : List Nat) : applyAct ch d (.revoke seq ms) c =
    if peerIn ms c ∧ c.pair.role = .active then unbindPair ch d (listed seq ms c) else listed seq ms c := rfl

/-- A revocation list is held, and an active whose peer it names is unbound (R392). -/
theorem applyAct_revoke_pair (seq : Nat) (ms : List Nat) (c : Channel) : let t := (applyAct ch d (.revoke seq ms) c).pair
    t.listSeq = seq ∧ t.revoked = ms ∧
      ∀ p, c.pair.peer = some p → c.pair.role = .active → p.1 ∈ ms → t.role = .none ∧ t.peer = none := by
  rw [applyAct_revoke]
  split
  next =>
    obtain ⟨role, peer, list, revoked⟩ := unbindPair_pair (ch := ch) (d := d) (listed seq ms c)
    exact ⟨list, revoked, fun _ _ _ _ => ⟨role, peer⟩⟩
  next stays => exact ⟨rfl, rfl, fun p peer active member => absurd ⟨peerIn_of_mem peer member, active⟩ stays⟩

/-- A shard created is a new one, with its first root backup made (R167). -/
theorem applyAct_create (n base : Nat) (srk : Bytes) (c : Channel) : let t := applyAct ch d (.create n base srk) c
    t.shard = newShard n base srk c.shard ∧ t.tree = [] ∧ t.treeOk = true ∧ t.backups.lastTick = d.tick ∧ t.backups.lastEpoch = 0 := by
  rw [applyAct, writeBackup]
  exact ⟨rfl, rfl, rfl, rfl, rfl⟩

end

/-- Settles O41: each job by the end its checks give it, and each act by what its transaction leaves of it. -/
theorem pairJobs : Obligations.PairJobs := by
  unfold Obligations.PairJobs
  intro s ch e
  refine ⟨fun unready row hrow m => ?unready, fun m => ?status, fun ready active => ⟨fun m => ⟨fun lost => ?noteLost, fun sync => ?note⟩,
      fun m => ?beat, fun m zero => ⟨fun index quiet => ?start, fun low high quiet sync session => ?chunk,
      fun index sync session ep root note => ?commit, fun index note => ?noNote⟩,
      fun m quiet => ⟨fun h => ?relinquish, fun h => ?refused⟩⟩,
    fun m quiet ready => ⟨fun role image => ?promoteRole,
      fun standby stale => ⟨?unread, fun b window => ⟨fun h => ?mismatch, fun h => ?promote⟩⟩⟩,
    fun m quiet sound => ⟨fun kind keep serves role => ?bindActive, fun kind free => ?bindStandby, fun kind keep assigned => ?assigned⟩,
    fun m quiet ready => ?unbind, fun m quiet ready => ?revoke, ?transaction⟩
  case transaction =>
    intro en x g a has link find holds ready act leaf items ded take
    refine ⟨_, ends_transaction has link, ?_⟩
    rw [setChan_same]
    obtain ⟨pair, tree, treeOk, cache, shard, ⟨m, gov⟩, lastTick, lastEpoch⟩ :=
      (transactionStep_act (ch := ch) act leaf items ded find ready take).stands
    simp only [pair, tree, treeOk, cache, shard, gov, lastTick, lastEpoch, true_and]
    cases a with
    | snapStart | snapChunk => exact rfl
    | promote => rw [applyAct, setRole_pair]; exact ⟨rfl, rfl, rfl, rfl, rfl, rfl, rfl, rfl, rfl, rfl, rfl⟩
    | relinquish => rw [applyAct, setRole_pair]; exact ⟨rfl, rfl, rfl, rfl⟩
    | note => exact ⟨rfl, rfl, rfl, rfl, rfl, rfl, rfl, rfl, rfl⟩
    | ack => exact ⟨rfl, rfl, rfl⟩
    | adopt => rw [applyAct, setRole_pair]; exact ⟨rfl, rfl, rfl, rfl, rfl, rfl, rfl, rfl, rfl, rfl, rfl, rfl, rfl, rfl, rfl⟩
    | takeOver => rw [applyAct, setRole_pair]; exact ⟨rfl, rfl, rfl, rfl, rfl, rfl, rfl, rfl⟩
    | bindActive => rw [applyAct, setRole_pair]; exact ⟨rfl, rfl, rfl, rfl, rfl⟩
    | bindStandby discard =>
      rw [applyAct, setRole_pair]
      cases discard with
      | false => exact ⟨rfl, rfl, rfl, rfl, rfl, nofun⟩
      | true => exact ⟨rfl, rfl, rfl, rfl, rfl, fun _ => ⟨rfl, rfl⟩⟩
    | unbind =>
      obtain ⟨role, peer, -⟩ := unbindPair_pair (ch := ch) (d := s.dev) (granted x g (raiseCause 16 (s.chan ch)))
      refine ⟨role, peer, fun h => ?_, fun h => unbindPair_standby (c := granted x g (raiseCause 16 (s.chan ch))) h⟩
      obtain ⟨tree, shard⟩ := unbindPair_active (ch := ch) (d := s.dev) (c := granted x g (raiseCause 16 (s.chan ch))) h
      exact ⟨tree, congrArg (·.root) shard⟩
    | revoke seq ms => exact applyAct_revoke_pair seq ms (granted x g (raiseCause 16 (s.chan ch)))
    | create n base srk =>
      obtain ⟨shard, tree, treeOk, lastTick, lastEpoch⟩ :=
        applyAct_create (ch := ch) (d := s.dev) n base srk (granted x g (raiseCause 16 (s.chan ch)))
      simp only [shard, tree, treeOk, lastTick, lastEpoch, newShard, true_and, and_true]
      exact rfl
    | moveTree => exact ⟨rfl, rfl, rfl⟩
  case unready =>
    simp only [List.mem_cons, List.not_mem_nil, or_false] at hrow
    obtain rfl | rfl := hrow
    · exact fails_of_failE m.2.1 (noteBuildJob_unready unready ▸ ends_job (f := noteBuildJob) (i := .noteBuild ch e.jidx) m rfl)
    · exact fails_of_failE m.2.1 (pairBeatJob_unready unready ▸ ends_job (f := pairBeatJob) (i := .pairBeat ch e.jidx) m rfl)
  all_goals
    have ⟨_, held, may⟩ := m
    have cl := claimed_of_ready may
  case status => exact answers_of_finishPlain held (ends_job (f := fun _ => pairStatusJob) (i := .pairStatus ch e.jidx) m rfl)
  case noteLost =>
    exact fails_of_failE held (noteBuildJob_lost ready active lost ▸
      ends_job (f := noteBuildJob) (i := .noteBuild ch e.jidx) m rfl)
  case note =>
    have run := ends_job (f := noteBuildJob) (i := .noteBuild ch e.jidx) m rfl
    rw [noteBuildJob_sends ready active sync] at run
    exact ⟨answers_of_finishPlain held run, _, run, by rw [setChan_same]; rfl⟩
  case beat =>
    exact answers_of_finishPlain held (pairBeatJob_sends ready active ▸
      ends_job (f := pairBeatJob) (i := .pairBeat ch e.jidx) m rfl)
  case start =>
    have run := ends_job (f := fun ch d e c => if e.sub.pbyte 56 = 0 then snapshotStartJob ch d e c else c) (i := .snapshotStart ch e.jidx) m rfl
    rw [if_pos index, snapshotStartJob_stages ready active zero quiet] at run
    exact stagesAct_of_stageAct held cl run
  case chunk =>
    have run := ends_job (f := fun ch d e c => if e.sub.pbyte 56 = 0 ∨ e.sub.pbyte 56 = 0xFF then c else snapshotChunkJob ch d e c)
      (i := .snapshotChunk ch e.jidx) m rfl
    rw [if_neg (by omega), snapshotChunkJob_stages ready active zero quiet low high sync session] at run
    exact stagesAct_of_stageAct held cl run
  case commit =>
    exact answers_of_finishPlain held (snapshotCommitJob_sends ready active zero sync session note ▸ ends_snapshotCommit m index)
  case noNote =>
    exact fails_of_failE held (snapshotCommitJob_noNote ready active zero note ▸ ends_snapshotCommit m index)
  case relinquish =>
    have run := ends_job (f := relinquishJob) (i := .relinquish ch e.jidx) m rfl
    rw [relinquishJob_stages ready quiet h] at run
    exact stagesAct_of_stageAct held cl run
  case refused =>
    exact fails_of_failE held (relinquishJob_refused quiet h ▸
      ends_job (f := relinquishJob) (i := .relinquish ch e.jidx) m rfl)
  case promoteRole =>
    exact fails_of_failE held (promoteJob_role quiet role image ▸
      ends_job (f := fun _ d => promoteJob d image) (i := .promote ch e.jidx image) m rfl)
  case unread =>
    exact fails_of_failE held (promoteJob_unread ready quiet standby stale ▸
      ends_job (f := fun _ d => promoteJob d none) (i := .promote ch e.jidx none) m rfl)
  case mismatch =>
    exact fails_of_failE held (promoteJob_mismatch ready quiet standby stale window h ▸
      ends_job (f := fun _ d => promoteJob d (some b)) (i := .promote ch e.jidx (some b)) m rfl)
  case promote =>
    exact stagesAct_of_stageAct held cl (promoteJob_stages ready quiet standby stale window h ▸
      ends_job (f := fun _ d => promoteJob d (some b)) (i := .promote ch e.jidx (some b)) m rfl)
  case bindActive =>
    exact stagesAct_of_stageAct held cl (pairBindActiveJob_stages quiet sound kind keep serves role ▸
      ends_job (f := fun _ => pairBindActiveJob) (i := .pairBindActive ch e.jidx) m rfl)
  case bindStandby =>
    exact stagesAct_of_stageAct held cl (pairBindStandbyJob_stages quiet sound kind free ▸
      ends_job (f := fun _ => pairBindStandbyJob) (i := .pairBindStandby ch e.jidx) m rfl)
  case assigned =>
    exact fails_of_failE held (pairBindStandbyJob_assigned quiet sound kind keep assigned ▸
      ends_job (f := fun _ => pairBindStandbyJob) (i := .pairBindStandby ch e.jidx) m rfl)
  case unbind =>
    exact stagesAct_of_stageAct held cl (pairUnbindJob_stages ready quiet ▸
      ends_job (f := fun _ => pairUnbindJob) (i := .pairUnbind ch e.jidx) m rfl)
  case revoke =>
    have run := ends_job (f := fun _ => revocationLoadJob) (i := .revocationLoad ch e.jidx) m rfl
    simp only []
    split
    next f h => exact fails_of_failE held (revocationLoadJob_fails ready quiet h ▸ run)
    next h => exact stagesAct_of_stageAct held cl (revocationLoadJob_stages ready quiet h ▸ run)

end Sys2Proof.Machine
end

section
/-! SUPPORT. How a command confined to one channel ends, and the hash engine: its contexts, its datapaths and its operations, an equation a
case (R193, R194). -/
namespace Sys2Proof.Machine
open Sys2Proof.Says

/-! ### A command's end -/

section
variable {s : State} {ch : Ch} {i : Instr} {f : Ch → Device → Channel → Channel} (en : s.dev.has ch = true)
include en

theorem gives_onChan {x : Channel} {P : Channel → Prop} (hx : exec i s = .next (onChan ch f s)) (e : f ch s.dev (s.chan ch) = x) (h : P x) :
    Gives i s ch P := ⟨_, hx, by rwa [onChan_same _ _ _ en, e]⟩

theorem gives_onChanS {x : Channel} {P : Channel → Prop} (hx : exec i s = .next (onChanS ch f s)) (e : f ch s.dev (s.chan ch) = x)
    (h : P { x with outSources := [], outCrumbs := [] }) : Gives i s ch P := ⟨_, hx, by rwa [onChanS_same _ _ _ en, e]⟩

end

/-- An engine reads what the access table allows and every word of which is good (R325, R337). -/
theorem engineRead_good {ch : Ch} {d : Device} {master a n : Nat} {c : Channel} (ht : dmaBad c.table .read a n = none)
    (hw : badWordIn c.table a n = none) : engineRead ch d master a n c = (some (c.bytesAt a n), c) := by
  simp only [engineRead, ht, hw]

/-! ### Contexts -/

@[simp] theorem ctx_onHashCtx (i : Nat) (f : HashCtx → HashCtx) (h : HashEngine) : (onHashCtx i f h).ctx i = f (h.ctx i) :=
  Vector.getElem_set_self (Nat.mod_lt i (by decide))

/-- A context after an operation that worked on it. -/
theorem ctx_onHashCtx_done (i : Nat) (f : HashCtx → HashCtx) (h : HashEngine) :
    ({ onHashCtx i f h with done := true } : HashEngine).ctx i = f (h.ctx i) := ctx_onHashCtx i f h

theorem ctxs_onHashCtx_other (i : Nat) (f : HashCtx → HashCtx) (h : HashEngine) (k : Fin 4) (hk : k.val ≠ i % 4) :
    (onHashCtx i f h).ctxs.get k = h.ctxs.get k :=
  Vector.getElem_set_ne (Nat.mod_lt i (by decide)) k.isLt (Ne.symm hk)

/-- HASH_INIT under a real ALG opens the selected context on an empty message. -/
theorem hashInitStep_opens {v : Word} (h : HashEngine) (hv : bits v.toNat 1 0 ≠ 0) : hashInitStep v h =
    onHashCtx h.sel (fun _ => ⟨bits v.toNat 1 0, v.getLsbD 2,
      if v.getLsbD 2 then h.key.take (hashBlock (algOf (bits v.toNat 1 0))) else [], [], true, []⟩) (hashCtrl v h) := by
  simp only [hashInitStep, hashCtrl, hv, if_false]
  rfl

theorem hashQueue_lane {o : HashOp} {h : HashEngine} (hl : o.ctx = 0 ∧ (h.ctx 0).alg = 1) :
    hashQueue o h = { h with lane := h.lane ++ [o] } := if_pos hl

theorem hashQueue_main {o : HashOp} {h : HashEngine} (hl : ¬ (o.ctx = 0 ∧ (h.ctx 0).alg = 1)) :
    hashQueue o h = { h with main := h.main ++ [o] } := if_neg hl

/-! ### Operations -/

/-- The engine once a datapath has given up its oldest operation. -/
def HashEngine.took (lane : Bool) (rest : List HashOp) (h : HashEngine) : HashEngine :=
  if lane then { h with lane := rest } else { h with main := rest }

@[simp] theorem took_ctxs (lane : Bool) (rest : List HashOp) (h : HashEngine) : (h.took lane rest).ctxs = h.ctxs := by
  cases lane <;> rfl

@[simp] theorem took_ctx (lane : Bool) (rest : List HashOp) (h : HashEngine) (i : Nat) : (h.took lane rest).ctx i = h.ctx i := by
  simp only [HashEngine.ctx, took_ctxs]

theorem hashOpDone_cons {lane : Bool} {o : HashOp} {rest : List HashOp} {ch : Ch} {d : Device} {c : Channel}
    (h : (if lane then c.hash.lane else c.hash.main) = o :: rest) :
    hashOpDone ch lane d c = hashRun ch d o { c with hash := c.hash.took lane rest } := by
  simp only [hashOpDone, h]
  rfl

section
variable {ch : Ch} {d : Device} {o : HashOp} {c : Channel}

theorem hashRun_closed (hk : (c.hash.ctx o.ctx).opened = false) :
    (hashRun ch d o c).hash = { c.hash with error := true } := by
  simp only [hashRun, hk, Bool.not_false, if_true]

variable (hk : (c.hash.ctx o.ctx).opened = true)
include hk

theorem hashRun_final (hf : o.final = true) : (hashRun ch d o c).hash =
    { onHashCtx o.ctx (fun x => { x with digest := x.finish, opened := false, message := [] }) c.hash with done := true } := by
  simp only [hashRun, hk, hf, Bool.not_true, Bool.false_eq_true, if_false, if_true]

theorem hashRun_feed (hf : o.final = false) (hs : hashSource o.src o.len = true) (ht : dmaBad c.table .read o.src o.len = none)
    (hw : badWordIn c.table o.src o.len = none) : (hashRun ch d o c).hash =
    { onHashCtx o.ctx (fun x => { x with message := x.message ++ c.bytesAt o.src o.len }) c.hash with done := true } := by
  simp only [hashRun, hk, hf, hs, engineRead_good ht hw, Bool.not_true, Bool.false_eq_true, if_false]

end

/-! ### What HASH_OP_DONE leaves -/

section
variable {ch : Ch} {d : Device} {lane : Bool} {o : HashOp} {rest : List HashOp} {c : Channel}
  (ho : (if lane then c.hash.lane else c.hash.main) = o :: rest)
include ho

/-- An operation of a context that no INIT has opened is in error, and no context changes. -/
theorem hashOpDone_closed (hk : (c.hash.ctx o.ctx).opened = false) :
    (hashOpDone ch lane d c).hash.error = true ∧ (hashOpDone ch lane d c).hash.ctxs = c.hash.ctxs := by
  rw [hashOpDone_cons ho, hashRun_closed (by simpa using hk)]
  exact ⟨rfl, took_ctxs ..⟩

variable (hk : (c.hash.ctx o.ctx).opened = true)
include hk

/-- FINAL closes its context and leaves the digest of its message. -/
theorem hashOpDone_final (hf : o.final = true) :
    (hashOpDone ch lane d c).hash.done = true ∧ (hashOpDone ch lane d c).hash.ctx o.ctx =
      { c.hash.ctx o.ctx with digest := (c.hash.ctx o.ctx).finish, opened := false, message := [] } := by
  rw [hashOpDone_cons ho, hashRun_final (by simpa using hk) hf]
  exact ⟨rfl, by rw [ctx_onHashCtx_done, took_ctx]⟩

/-- FEED appends what it reads to its context's message. -/
theorem hashOpDone_feed (hf : o.final = false) (hs : hashSource o.src o.len = true) (ht : dmaBad c.table .read o.src o.len = none)
    (hw : badWordIn c.table o.src o.len = none) :
    (hashOpDone ch lane d c).hash.done = true ∧ (hashOpDone ch lane d c).hash.ctx o.ctx =
      { c.hash.ctx o.ctx with message := (c.hash.ctx o.ctx).message ++ c.bytesAt o.src o.len } := by
  rw [hashOpDone_cons ho, hashRun_feed (c := { c with hash := c.hash.took lane rest }) (by simpa using hk) hf hs ht hw]
  exact ⟨rfl, by rw [ctx_onHashCtx_done, took_ctx]; rfl⟩

end

/-- Settles O47: each command of the hash engine by what it makes of the contexts and the datapaths. -/
theorem hashRows : Obligations.HashRows := by
  unfold Obligations.HashRows
  intro s ch en
  have queued {h h' : HashEngine} (e : h = h') : { s.chan ch with hash := h } = { s.chan ch with hash := h' } := by rw [e]
  refine ⟨fun v hv => ?init, fun v => ⟨fun hl => ⟨?feedLane, ?finalLane⟩, fun hl => ⟨?feedMain, ?finalMain⟩⟩, ends_put en rfl rfl,
    fun lane o rest ho => ⟨fun hk => ?closed, fun hk hf => ?final, fun hk hf hs ht hw => ?feed⟩⟩
  case init =>
    refine gives_onChan en rfl rfl ⟨?_, fun i hi => ?_⟩
    · show (hashInitStep v _).ctx _ = _
      rw [hashInitStep_opens _ hv]
      exact ctx_onHashCtx ..
    · show (hashInitStep v _).ctxs.get i = _
      rw [hashInitStep_opens _ hv]
      exact ctxs_onHashCtx_other _ _ _ i hi
  case feedLane | finalLane => exact ends_put en rfl (queued (hashQueue_lane hl))
  case feedMain | finalMain => exact ends_put en rfl (queued (hashQueue_main hl))
  case closed => exact gives_onChanS en rfl rfl (hashOpDone_closed ho hk)
  case final =>
    obtain ⟨done, ctx⟩ := hashOpDone_final (ch := ch) (d := s.dev) ho hk hf
    exact gives_onChanS en rfl rfl ⟨done, congrArg (·.opened) ctx, congrArg (·.digest) ctx⟩
  case feed =>
    obtain ⟨done, ctx⟩ := hashOpDone_feed (ch := ch) (d := s.dev) ho hk hf hs ht hw
    exact gives_onChanS en rfl rfl ⟨done, congrArg (·.message) ctx⟩

end Sys2Proof.Machine
end

section
/-! SUPPORT. The public-key engine's batches: what a done entry, a halt and a safety report leave of the engine, and its commands, an
equation a case (R176 to R192). -/
namespace Sys2Proof.Machine
open Sys2Proof.Says

/-! ### Done entries -/

/-- Done entries appended one after another: beside them only the running batch and PK_IRQ change. -/
theorem foldl_finish (l : List PkeDone) (p : Pke) : ∃ r w, (p.running = none → r = none) ∧
    l.foldl (fun p b => p.finish b.id b.outcome b.countRun) p = { p with running := r, done := p.done ++ l, irq := w } := by
  induction l generalizing p with
  | nil => exact ⟨p.running, p.irq, id, by rw [List.append_nil]; rfl⟩
  | cons b l ih =>
    obtain ⟨r, w, hr, h⟩ := ih (p.finish b.id b.outcome b.countRun)
    refine ⟨r, w, fun _ => hr rfl, h.trans ?_⟩
    rw [List.append_cons p.done]
    rfl

/-- The done entries of the batches queued, each ABORTED before its first operation. -/
def Pke.aborted (p : Pke) : List PkeDone := p.queue.map fun b => ⟨b.1, 1, 0⟩

/-- The queue ends ABORTED (R186). -/
theorem abortQueued_eq (p : Pke) : ∃ r w, (p.running = none → r = none) ∧
    p.abortQueued = { p with queue := [], running := r, done := p.done ++ p.aborted, irq := w } := by
  obtain ⟨r, w, hr, h⟩ := foldl_finish p.aborted { p with queue := [] }
  exact ⟨r, w, hr, by rw [← h, Pke.aborted, List.foldl_map]; rfl⟩

/-- What a batch's end sets off touches CLEAR and DIRTY alone (R189). -/
theorem afterEnd_eq (p : Pke) : ∃ a b d, p.afterEnd = { p with clearPending := a, clearing := b, dirty := d } := by
  unfold Pke.afterEnd
  split <;> exact ⟨_, _, _, rfl⟩

theorem afterEnd_plain {p : Pke} (h : p.clearPending = false) : p.afterEnd = p := by
  simp only [Pke.afterEnd, h, Bool.false_eq_true, false_and, if_false]

/-! ### A halt, and a safety report -/

theorem halted_none {p : Pke} (h : p.running = none) : p.halted = p.wiped.abortQueued := by
  have hw : p.wiped.running = none := h
  simp only [Pke.halted, hw]

theorem halted_some {p : Pke} {b : PkeRun} (h : p.running = some b) : p.halted = (p.wiped.finish b.id 1 0).abortQueued := by
  have hw : p.wiped.running = some b := h
  simp only [Pke.halted, hw]

/-- A halt with no batch left clears operand memory alone. -/
theorem halted_idle {p : Pke} (hr : p.running = none) (hq : p.queue = []) : p.halted = p.wiped := by
  cases p
  subst hr hq
  rfl

/-- A halt leaves no batch queued and no key block, and counts no failure. -/
theorem halted_leaves (p : Pke) : p.halted.queue = [] ∧ p.halted.key = none ∧ p.halted.errcnt = p.errcnt := by
  cases h : p.running with
  | none =>
    obtain ⟨r, w, -, e⟩ := abortQueued_eq p.wiped
    rw [halted_none h, e]
    exact ⟨rfl, rfl, rfl⟩
  | some b =>
    obtain ⟨r, w, -, e⟩ := abortQueued_eq (p.wiped.finish b.id 1 0)
    rw [halted_some h, e]
    exact ⟨rfl, rfl, rfl⟩

/-- A fault bit reaches the slice alone. -/
theorem setFault_eq (b value queue : Nat) (c : Channel) :
    setFault b value queue c = { c with host := (setFault b value queue c).host } := by
  unfold setFault
  simp only []
  split <;> rfl

/-- A report names its mechanism, halts the engine when it takes the channel to FAULT, and leaves the journal (R462). -/
theorem reportSafety_leaves (ch : Ch) (d : Device) (mech info : Nat) (c : Channel) : let x := reportSafety ch d mech info c
    x.jr = c.jr ∧ x.sf.mech = mech ∧ x.pke = if faultsFrom c.state then c.pke.halted else c.pke := by
  unfold reportSafety
  extract_lets _ captured _ latch _ _ halted faulted filed x
  cases h : faultsFrom c.state with
  | false =>
    have hx : x = captured := if_pos (congrArg (!·) h)
    rw [hx]
    exact ⟨rfl, rfl, rfl⟩
  | true =>
    have hx : x = if latch then safetyCrumb d 0x0600 ch.val mech 0 0 filed else filed :=
      if_neg (Bool.eq_false_iff.1 (congrArg (!·) h))
    have hf : filed.jr = c.jr ∧ filed.sf.mech = mech ∧ filed.pke = c.pke.halted := by
      simp only [filed, faulted, safetyCrumb]
      rw [setFault_eq, setChState_eq]
      exact ⟨rfl, rfl, rfl⟩
    rw [hx]
    split <;> exact hf

/-- A report leaves an engine without batches and key block as such, and counts no failure itself. -/
theorem reportSafety_cleared (ch : Ch) (d : Device) (mech info : Nat) {c : Channel} (queue : c.pke.queue = [])
    (key : c.pke.key = none) :
    let p := (reportSafety ch d mech info c).pke
    p.errcnt = c.pke.errcnt ∧ p.queue = [] ∧ p.key = none := by
  obtain ⟨-, -, pke⟩ := reportSafety_leaves ch d mech info c
  rw [pke]
  split
  · obtain ⟨queue, key, errcnt⟩ := halted_leaves c.pke
    exact ⟨errcnt, queue, key⟩
  · exact ⟨rfl, queue, key⟩

/-! ### A batch's end -/

/-- A batch that ends with no failed check leaves the queue; one that ends with its own refusal or its result keeps the key block. -/
theorem endBatch_leaves (id outcome count : Nat) (c : Channel) : let x := endBatch id outcome count c
    x.pke.running = none ∧ x.pke.queue = c.pke.queue ∧ x.pke.done = c.pke.done ++ [⟨id, outcome, count⟩] ∧
      x.pke.key = (if outcome = 0 ∨ outcome = 3 then c.pke.key else none) ∧ x.mem = c.mem := by
  unfold endBatch
  extract_lets _ kept marked x
  obtain ⟨_, _, _, h⟩ := afterEnd_eq (marked.finish id outcome count)
  have hkept : kept = if outcome = 0 ∨ outcome = 3 then c.pke else c.pke.wiped := rfl
  have hmarked : marked.queue = c.pke.queue ∧ marked.done = c.pke.done ∧
      marked.key = if outcome = 0 ∨ outcome = 3 then c.pke.key else none := by
    simp only [marked, hkept]
    split <;> split <;> exact ⟨rfl, rfl, rfl⟩
  obtain ⟨queue, done, key⟩ := hmarked
  simp only [x, h]
  exact ⟨rfl, queue, congrArg (· ++ _) done, key, trivial⟩

theorem endBatch_dirty (id count : Nat) {c : Channel} (h : c.pke.clearPending = false) : (endBatch id 0 count c).pke.dirty = true := by
  show (Pke.afterEnd _).dirty = true
  rw [afterEnd_plain]
  · rfl
  · exact h

/-- The engine with operand memory cleared and a failed check counted (R186). -/
def Pke.counted (p : Pke) : Pke := { p.wiped with errcnt := sat16 (p.errcnt + 1) }

/-- The engine `p` once a batch of the engine `a` has ended on a failed check: the queue ended with it, and the failure is counted (R186). -/
def Pke.Struck (id outcome count : Nat) (a p : Pke) : Prop :=
  p.running = none ∧ p.queue = [] ∧ p.done = a.done ++ ⟨id, outcome, count⟩ :: a.aborted ∧ p.key = none ∧
    p.errcnt = sat16 (a.errcnt + 1)

section
variable {id outcome count : Nat} {a p : Pke}

theorem struck_counted : Pke.Struck id outcome count a (a.counted.finish id outcome count).abortQueued.afterEnd := by
  obtain ⟨r, _, hr, aborted⟩ := abortQueued_eq (a.counted.finish id outcome count)
  obtain ⟨_, _, _, ended⟩ := afterEnd_eq (a.counted.finish id outcome count).abortQueued
  rw [ended, aborted]
  exact ⟨hr rfl, rfl, (List.append_cons ..).symm, rfl, rfl⟩

theorem struck_halted (h : Pke.Struck id outcome count a p) : Pke.Struck id outcome count a p.halted := by
  obtain ⟨running, queue, done, -, errcnt⟩ := h
  rw [halted_idle running queue]
  exact ⟨running, queue, done, rfl, errcnt⟩

end

/-- A batch whose check fails takes the queue with it, and the failure is counted and reported (R186). -/
theorem endBatchFault_leaves (ch : Ch) (d : Device) (id outcome count op : Nat) (c : Channel) :
    let x := endBatchFault ch d id outcome count op c
    Pke.Struck id outcome count c.pke x.pke ∧ x.sf.mech = 0x04 := by
  obtain ⟨-, mech, pke⟩ := reportSafety_leaves ch d 0x04 (id + 256 * op)
    { c with pke := (c.pke.counted.finish id outcome count).abortQueued.afterEnd }
  refine ⟨pke.symm ▸ ?_, mech⟩
  split
  · exact struck_halted struck_counted
  · exact struck_counted

/-! ### The commands -/

theorem pkPush_accepted {c : Channel} (en : c.pke.en = true) (room : c.pke.held < 4) : pkPush c = { c with pke := { c.pke with
    refused := false, lastId := c.pke.nextId, queue := c.pke.queue ++ [(c.pke.nextId, c.pke.qaddr)], nextId := (c.pke.nextId + 1) % 256 } } := by
  simp only [pkPush, en, Nat.not_le.2 room, Bool.not_true, decide_false, Bool.or_self, Bool.false_eq_true, if_false]

theorem pkPush_refused {c : Channel} (h : c.pke.en = false ∨ 4 ≤ c.pke.held) : pkPush c = { c with pke := { c.pke with refused := true } } :=
  if_pos (by simpa using h)

theorem batchStart_idle (ch : Ch) (d : Device) {c : Channel}
    (h : c.pke.queue = [] ∨ c.pke.running.isSome = true ∨ c.pke.clearing = true) : batchStart ch d c = c := by
  unfold batchStart
  split
  next => rfl
  next hq => exact if_pos (h.resolve_left (by simp [hq]))

/-- The channel once the oldest queued batch is taken. -/
def dequeued (rest : List (Nat × Nat)) (c : Channel) : Channel := { c with pke := { c.pke with queue := rest } }

section
variable {ch : Ch} {d : Device} {c : Channel} {id addr : Nat} {rest : List (Nat × Nat)} (queue : c.pke.queue = (id, addr) :: rest)
  (free : ¬ (c.pke.running.isSome = true ∨ c.pke.clearing = true))
include queue free

theorem batchStart_outside (h : inData addr 32 = false) : batchStart ch d c = endBatch id 2 0 (dequeued rest c) := by
  simp only [batchStart, queue, if_neg free, h, Bool.not_false, if_true, dequeued]

variable (hin : inData addr 32 = true) {b : Bytes} (read : engineRead ch d 4 addr 32 (dequeued rest c) = (some b, dequeued rest c))
include hin read

theorem batchStart_unknown (h : pkeOp (PkeHeader.ofBytes b).op = none) : batchStart ch d c = endBatch id 3 0 (dequeued rest c) := by
  simp only [dequeued] at read ⊢
  simp only [batchStart, queue, if_neg free, hin, read, h, Bool.not_true, Bool.false_eq_true, if_false]

variable {o : PkeOp} (op : pkeOp (PkeHeader.ofBytes b).op = some o)
include op

theorem batchStart_bad (h : (PkeHeader.ofBytes b).bad o = true) : batchStart ch d c = endBatch id 3 0 (dequeued rest c) := by
  simp only [dequeued] at read ⊢
  simp only [batchStart, queue, if_neg free, hin, read, op, h, Bool.not_true, Bool.false_eq_true, if_false, if_true]

theorem batchStart_runs {key : Bytes} {x : Channel} (good : (PkeHeader.ofBytes b).bad o = false)
    (extents : extentsRefused ((PkeHeader.ofBytes b).extents o) (dequeued rest c) = (false, dequeued rest c))
    (load : loadKey ch d id (PkeHeader.ofBytes b) o (dequeued rest c) = (some key, x)) : batchStart ch d c =
      let h := PkeHeader.ofBytes b
      { x with pke := { x.pke with running := some ⟨id, h.op, h.count, h.entry, h.result, h.status, key⟩ } } := by
  simp only [dequeued] at read extents load
  simp only [batchStart, queue, if_neg free, hin, read, op, good, extents, load, Bool.not_true, Bool.false_eq_true, if_false]

end

/-- An operation without a key block keeps none of an earlier one (R188). -/
theorem loadKey_keyless {ch : Ch} {d : Device} {id : Nat} {h : PkeHeader} {o : PkeOp} {c x : Channel} {key : Option Bytes} (ho : o.key = 0)
    (hx : loadKey ch d id h o c = (key, x)) : x.pke.key = none := by
  rw [loadKey, if_pos ho] at hx
  exact congrArg (·.2.pke.key) hx.symm

section
variable {ch : Ch} {d : Device} {f : Option Nat} {c q x : Channel} {r : PkeRun} {o : PkeOp} {n : Nat}
  (run : c.pke.running = some r) (op : pkeOp r.op = some o)
include run op

theorem batchEnd_undrawn {e : RngStop} (draw : drawPrime o c = .error e) (h : e ≠ .waits) : batchEnd ch f d c = endBatch r.id 5 0 c := by
  cases e with
  | waits => exact absurd rfl h
  | withheld | notInstantiated => simp only [batchEnd, run, op, draw]

theorem batchEnd_waits (draw : drawPrime o c = .error .waits) : batchEnd ch f d c = c := by
  simp only [batchEnd, run, op, draw]

variable (draw : drawPrime o c = .ok q)
include draw

theorem batchEnd_complete (ops : runOps ch d r o f r.count 0 q = (.complete, n, x)) : batchEnd ch f d c = endBatch r.id 0 n x := by
  simp only [batchEnd, run, op, draw, ops]

theorem batchEnd_fault (ops : runOps ch d r o f r.count 0 q = (.fault, n, x)) :
    batchEnd ch f d c = endBatchFault ch d r.id 4 n (n - 1) x := by
  simp only [batchEnd, run, op, draw, ops]

theorem batchEnd_opsWait (ops : runOps ch d r o f r.count 0 q = (.waits, n, x)) : batchEnd ch f d c = c := by
  simp only [batchEnd, run, op, draw, ops]

end

theorem batchEnd_idle (ch : Ch) (d : Device) (f : Option Nat) {c : Channel} (h : c.pke.running = none) : batchEnd ch f d c = c := by
  simp only [batchEnd, h]

theorem pkClear_now {c : Channel} (run : c.pke.running = none) (queue : c.pke.queue = []) :
    pkClear c = { c with pke := { c.pke with clearing := true } } := if_neg (by simp [run, queue])

theorem pkClear_later {c : Channel} (h : c.pke.running.isSome = true ∨ c.pke.queue ≠ []) :
    pkClear c = { c with pke := { c.pke with clearPending := true } } := if_pos (by simpa using h)

theorem pkAbort_idle (n : Nat) (d : Device) (ch : Ch) {c : Channel} (h : c.pke.running = none) : (pkAbort ch n d c).pke = { c.pke with
    queue := [], ending := c.pke.ending ++ c.pke.aborted, clearing := true, aborting := true, clearPending := false } := by
  simp only [pkAbort, h, Pke.aborted]

theorem pkAbort_running (n : Nat) (d : Device) (ch : Ch) {c : Channel} {r : PkeRun} {o : PkeOp} (run : c.pke.running = some r)
    (op : pkeOp r.op = some o) : let q := runOps ch d r o none (min n r.count) 0 c
    pkAbort ch n d c = { q.2.2 with pke := { q.2.2.pke with
      running := none, queue := [], ending := q.2.2.pke.ending ++ [⟨r.id, 1, q.2.1⟩] ++ q.2.2.pke.aborted
      clearing := true, aborting := true, clearPending := false } } := by
  simp only [pkAbort, run, op, Pke.aborted]

theorem clearDone_idle {c : Channel} (h : c.pke.clearing = false) : clearDone c = c := if_neg (by simp [h])

/-- When operand memory is clear, the batches that PK_ABORT ended get their done entries (R186, R187). -/
theorem clearDone_clear {c : Channel} (h : c.pke.clearing = true) : ∃ r w, (clearDone c).pke = { c.pke.wiped with
    running := r, done := c.pke.done ++ c.pke.ending, ending := [], irq := w, clearing := false, aborting := false } := by
  obtain ⟨r, w, -, e⟩ := foldl_finish c.pke.ending { c.pke.wiped with ending := [] }
  refine ⟨r, w, ?_⟩
  simp only [clearDone, h, if_true, e]
  rfl

/-- Settles O46: each command of the engine by the batch it starts, ends or clears. -/
theorem pkeBatches : Obligations.PkeBatches := by
  unfold Obligations.PkeBatches
  intro s ch en
  refine ⟨fun on room => ends_put en rfl (pkPush_accepted on room), fun h => ends_put en rfl (pkPush_refused h),
    fun id addr rest queue idle clear => ?start, fun h => gives_onChanS en rfl (batchStart_idle ch s.dev h) rfl,
    fun h => gives_onChanS en rfl (batchEnd_idle ch s.dev none h) rfl,
    fun r o q f run op draw => ⟨fun n x ops => ?complete, fun n x ops => ?fault, fun n x ops => ?opsWait⟩,
    fun r o f e run op draw => ⟨fun wait => ?drawWaits, fun stop => ?undrawn⟩, ends_put en rfl rfl, fun idle n => ?abortIdle,
    fun r o n run op => ?abort, fun run queue => ends_put en rfl (pkClear_now run queue), fun h => ends_put en rfl (pkClear_later h),
    fun h => ?clearDone, fun h => ends_put en rfl (clearDone_idle h)⟩
  case start =>
    have free : ¬ ((s.chan ch).pke.running.isSome = true ∨ (s.chan ch).pke.clearing = true) := by simp [idle, clear]
    refine ⟨fun out => ?outside, fun b hin read => ⟨fun h => ?unknown, fun o op => ⟨fun h => ?bad,
      fun key x good extents load => ?runs⟩⟩⟩
    case outside =>
      obtain ⟨running, left, done, -, -⟩ := endBatch_leaves id 2 0 (dequeued rest (s.chan ch))
      exact gives_onChanS en rfl (batchStart_outside queue free out) ⟨left, running, by simp [done]⟩
    case unknown =>
      obtain ⟨running, -, done, key, -⟩ := endBatch_leaves id 3 0 (dequeued rest (s.chan ch))
      exact gives_onChanS en rfl (batchStart_unknown queue free hin read h) ⟨running, done, key⟩
    case bad =>
      obtain ⟨running, -, done, -, -⟩ := endBatch_leaves id 3 0 (dequeued rest (s.chan ch))
      exact gives_onChanS en rfl (batchStart_bad queue free hin read op h) ⟨running, done⟩
    case runs =>
      exact gives_onChanS en rfl (batchStart_runs queue free hin read op good extents load)
        ⟨rfl, fun h => loadKey_keyless (x := x) h load⟩
  case complete =>
    obtain ⟨running, -, done, key, mem⟩ := endBatch_leaves r.id 0 n x
    exact gives_onChanS en rfl (batchEnd_complete run op draw ops) ⟨running, done, mem, key, endBatch_dirty r.id n⟩
  case fault =>
    obtain ⟨⟨running, queue, done, key, errcnt⟩, mech⟩ := endBatchFault_leaves ch s.dev r.id 4 n (n - 1) x
    refine gives_onChanS en rfl (batchEnd_fault run op draw ops) ⟨running, queue, ?_, key, errcnt, mech, fun z hz => ?_⟩
    · simp [done]
    · simpa [done, Pke.aborted] using .inr ⟨_, hz⟩
  case opsWait => exact gives_onChanS en rfl (batchEnd_opsWait run op draw ops) ⟨rfl, rfl⟩
  case drawWaits =>
    subst wait
    exact gives_onChanS en rfl (batchEnd_waits run op draw) rfl
  case undrawn =>
    obtain ⟨running, -, done, key, -⟩ := endBatch_leaves r.id 5 0 (s.chan ch)
    exact gives_onChanS en rfl (batchEnd_undrawn run op draw stop) ⟨running, done, key⟩
  case abortIdle =>
    have e := pkAbort_idle n s.dev ch idle
    exact gives_onChanS en rfl rfl ⟨congrArg (·.queue) e, congrArg (·.clearing) e, congrArg (·.aborting) e,
      congrArg (·.done) e, congrArg (·.ending) e⟩
  case abort => exact gives_onChanS en rfl (pkAbort_running n s.dev ch run op) ⟨rfl, rfl, rfl, rfl, by simp⟩
  case clearDone =>
    obtain ⟨r, w, e⟩ := clearDone_clear h
    exact gives_onChan en rfl rfl (by simp [e, Pke.wiped])

end Sys2Proof.Machine
end

section
/-! SUPPORT. The jobs that verify, sign, attest and give public keys out, an equation a case, most with a turn at the public-key engine
(R181, R186, R191, R196 to R201). -/
namespace Sys2Proof.Machine
open Sys2Proof.Says

/-! ### A job with its turn at the engine -/

section
variable {s : State} {ch : Ch} {e : JEntry} {i : Instr} {op : Nat}

theorem onEngine_turn {f : JEntry → Channel → Channel} {c : Channel} (turn : engineTurn c e = true) :
    onEngine true f e c = f e (turned e c) := by
  simp only [onEngine, turn, Bool.not_true, Bool.false_eq_true, if_false, if_true]
  rfl

/-- A job that may run and has its turn ends with its meaning applied to its channel. -/
theorem ends_engineJob {f : Ch → Device → JEntry → Channel → Channel} (m : MayRun s ch e op) (turn : engineTurn (s.chan ch) e = true)
    (hx : exec i s = .next (onChan ch (fun ch d c => runJob op e.jidx (onEngine true (f ch d)) c) s)) :
    Ends i s (setChan s ch (f ch s.dev e (turned e (s.chan ch)))) := by
  rw [← onEngine_turn (f := f ch s.dev) turn]
  exact ends_job (f := fun ch d => onEngine true (f ch d)) m hx

/-- The same for a job whose channel may report to function 0. -/
theorem ends_engineJobS {f : Ch → Device → JEntry → Channel → Channel} (m : MayRun s ch e op) (turn : engineTurn (s.chan ch) e = true)
    (hx : exec i s = .next (onChanS ch (fun ch d c => runJob op e.jidx (onEngine true (f ch d)) c) s)) :
    Ends i s (collect ch (setChan s ch (f ch s.dev e (turned e (s.chan ch))))) := by
  obtain ⟨en, held, ready⟩ := m
  rw [Ends, hx, onChanS, onChan_enabled _ _ _ en, runJob_ready held ready, onEngine_turn turn]

section
variable {c : Channel}

/-- Reports passed on to function 0 leave the journal's entries. -/
theorem entry_collect {j : Nat} {n : JEntry} (h : c.entry j = some n) : ((collect ch (setChan s ch c)).chan ch).entry j = some n := by
  rw [collect_same, setChan_same]
  exact h

variable (held : Holds (s.chan ch) e)
include held

theorem fails_of_failES {f : Fail} (run : Ends i s (collect ch (setChan s ch (failE e f c)))) (hj : c.jr = (s.chan ch).jr := by rfl)
    (hu : Untouched (s.chan ch) c := by exact ⟨rfl, rfl, rfl, rfl, rfl⟩) : Fails i s ch e f := by
  obtain ⟨n, hn, state, status, detail, result, outBytes, writes⟩ := entry_failJob c e.jidx f e ((entry_of_jr hj _).trans held)
  refine ⟨_, n, run, entry_collect hn, state, status, detail, result, outBytes, writes, ?_⟩
  rw [collect_same, setChan_same]
  exact hu

theorem answers_of_finishPlainS {result : Nat} {out : Bytes} (run : Ends i s (collect ch (setChan s ch (finishPlain e result out c))))
    (hj : c.jr = (s.chan ch).jr := by rfl) : Answers i s ch e result out := by
  obtain ⟨n, hn, state, status, detail, hr, outBytes, writes, -⟩ :=
    entry_finishJob c e.jidx 0 0 result out.length (outWrite e.jidx e.sub out) e ((entry_of_jr hj _).trans held)
  refine ⟨_, n, run, entry_collect hn, state.trans ?_, status, detail, hr, outBytes, writes⟩
  simp only [List.isEmpty_iff, outWrite_eq_nil]

end

/-- How a check of a signature concludes its job. -/
def concluded (e : JEntry) (v : Option Fail) (c : Channel) : Channel :=
  match v with
  | some f => failE e f c
  | none => finishPlain e 0 [] c

/-- The end that a check gives the job: the failure it found, or SUCCESS without output. -/
def Concludes (i : Instr) (s : State) (ch : Ch) (e : JEntry) : Option Fail → Prop
  | some f => Fails i s ch e f
  | none => Answers i s ch e 0 []

theorem concludes_of_concluded {v : Option Fail} {c : Channel} (held : Holds (s.chan ch) e) (run : Ends i s (setChan s ch (concluded e v c)))
    (hj : c.jr = (s.chan ch).jr := by rfl) (hu : Untouched (s.chan ch) c := by exact ⟨rfl, rfl, rfl, rfl, rfl⟩) : Concludes i s ch e v := by
  cases v with
  | some f => exact fails_of_failE held run hj hu
  | none => exact answers_of_finishPlain held run hj

end

/-! ### Draws -/

/-- A signature reaches the noise source alone. -/
theorem signLoop_rng {cv : Curve} {key : Nat} {digest sig : Bytes} {n : Nat} {c c' : Channel}
    (h : signLoop cv key digest n c = .ok (sig, c')) : ∃ g, c' = { c with rng := g } := by
  induction n generalizing c with
  | zero => cases h
  | succ n ih =>
    rw [signLoop] at h
    split at h
    next => cases h
    next hd =>
      obtain ⟨g, rfl⟩ := engineDraw_rng hd
      simp only [] at h
      split at h
      · obtain ⟨g', rfl⟩ := ih h
        exact ⟨g', rfl⟩
      · cases h
        exact ⟨g, rfl⟩

/-- What RSA_SIGN draws reaches the noise source alone. -/
theorem signDraws_rng {n : Nat} {c c' : Channel} {salt : Bytes} (h : signDraws n c = .ok (salt, c')) : ∃ g, c' = { c with rng := g } := by
  unfold signDraws at h
  split at h
  next => cases h
  next hs =>
    split at h
    next => cases h
    next h1 =>
      split at h
      next => cases h
      next h2 =>
        cases h
        obtain ⟨g2, rfl⟩ := engineDraw_rng h2
        obtain ⟨g1, rfl⟩ := engineDraw_rng h1
        unfold drawIf at hs
        split at hs
        · obtain ⟨g, rfl⟩ := engineDraw_rng hs
          exact ⟨g2, rfl⟩
        · cases hs
          exact ⟨g2, rfl⟩

/-! ### SIG_VERIFY -/

section
variable {d : Device} {e : JEntry} {c : Channel}

/-- The bytes of input that a key given beside the signature takes (R197). -/
def sigKeyLen (m : Sub) : Nat := if m.pbyte 57 = 0 then 2 * curveLen (curveOf (m.pbyte 56)) + 16 else 0

/-- The verdict of SIG_VERIFY under a public key: on the digest it was given or makes, and the signature before it (R197). -/
def sigVerdictOf (e : JEntry) (pub : Option Bytes) : Option Fail :=
  let cv := curveOf (e.sub.pbyte 56)
  let b := e.data 32 e.sub.inLen
  let rest := b.drop (sigKeyLen e.sub + 2 * curveLen cv)
  sigVerdict cv pub (if e.sub.pbyte 59 = 1 then rest else hash (curveHash cv) rest) (slice b (sigKeyLen e.sub) (2 * curveLen cv))

theorem sigVerifyJob_param {f : Fail} (h : sigVerifyParam e.sub = some f) : sigVerifyJob d e c = failE e f c := by
  simp only [sigVerifyJob, h]

/-- A job that read a record of a recent generation ends with SUCCESS (R139). -/
theorem finishRead_recent {k : RecCheck} (result : Nat) (out : Bytes) (h : c.shard.gen < k.gen + 4) :
    finishRead e k result out c = finishPlain e result out c := by
  simp only [finishRead, readStatus, if_neg (Nat.not_le.2 h)]
  rfl

variable (param : sigVerifyParam e.sub = none)
include param

theorem sigVerifyJob_given (src : e.sub.pbyte 57 = 0) : sigVerifyJob d e c = concluded e (sigVerdictOf e
    (pubkeyPoint (curveOf (e.sub.pbyte 56)) ((e.data 32 e.sub.inLen).take (sigKeyLen e.sub)))) c := by
  have not1 : e.sub.pbyte 57 ≠ 1 := by simp [src]
  have not2 : e.sub.pbyte 57 ≠ 2 := by simp [src]
  simp only [sigVerifyJob, param, if_neg not1, if_neg not2]
  rfl

theorem sigVerifyJob_record {k : RecCheck} {l : List CacheEntry} (src : e.sub.pbyte 57 = 1)
    (check : recordCheck c e.sub e.wrapped e.proof = .ok k) (suite : k.record.suite = e.sub.pbyte 56) (recent : c.shard.gen < k.gen + 4)
    (hl : touchCache d e c = { c with cache := l }) : sigVerifyJob d e c = concluded e (sigVerdictOf e
      (sec1Point (curveOf (e.sub.pbyte 56)) (k.record.sigkey.take k.record.sigkeyLen))) { c with cache := l } := by
  simp only [sigVerifyJob, param, if_pos src, withRecord_ok check, hl, if_neg (not_not_intro suite),
    finishRead_recent (c := { c with cache := l }) 0 [] recent]
  rfl

theorem sigVerifyJob_noAnchor (src : e.sub.pbyte 57 = 2) (key : c.keys.slot (16 + e.sub.pbyte 58) = none) :
    sigVerifyJob d e c = failE e ⟨0x0102, 58, 0⟩ c := by
  have not1 : e.sub.pbyte 57 ≠ 1 := by simp [src]
  simp only [sigVerifyJob, param, if_neg not1, if_pos src, key]
  rfl

theorem sigVerifyJob_anchor {k : KeySlot} (src : e.sub.pbyte 57 = 2) (key : c.keys.slot (16 + e.sub.pbyte 58) = some k)
    (len : k.material.length = 2 * curveLen (curveOf (e.sub.pbyte 56))) :
    sigVerifyJob d e c = concluded e (sigVerdictOf e (some k.material)) c := by
  have not1 : e.sub.pbyte 57 ≠ 1 := by simp [src]
  simp only [sigVerifyJob, param, if_neg not1, if_pos src, key, if_neg (not_not_intro len)]
  rfl

end

/-! ### RSA -/

section
variable {e : JEntry} {c : Channel}

/-- The digest an RSA job signs or verifies: what it was given, or the hash of it (R198, R199). -/
def rsaDigest (m : Sub) (b : Bytes) : Bytes := if m.pbyte 59 = 1 then b else hash (hashOf (m.pbyte 58)) b

/-- Whether the modulus and exponent given to RSA_VERIFY are in range (R178, R198). -/
def rsaGivenRange (e : JEntry) : Bool :=
  let k := rsaLen e.sub
  let b := e.data 32 e.sub.inLen
  rsaKeyRange (fieldBE b 16 k) (fieldBE b 12 4) k

/-- The message RSA_VERIFY recovers from the signature it was given; none when that is not below the modulus (R198). -/
def rsaRecovered (e : JEntry) : Option Bytes :=
  let k := rsaLen e.sub
  let b := e.data 32 e.sub.inLen
  rsaPublic (fieldBE b 16 k) (fieldBE b 12 4) k (slice b (16 + k) k)

/-- Whether the message RSA_VERIFY recovers is the encoding of its digest (R198). -/
def rsaMatches (e : JEntry) (em : Bytes) : Bool :=
  let k := rsaLen e.sub
  let alg := hashOf (e.sub.pbyte 58)
  let b := e.data 32 e.sub.inLen
  let digest := rsaDigest e.sub (b.drop (16 + 2 * k))
  if e.sub.pbyte 57 = 1 then em == emsaPkcs1 alg digest k else emsaPssVerify alg digest (Nat.log2 (fieldBE b 16 k)) em (e.sub.pbyte 61)

/-- The message RSA_SIGN signs, under its key block and salt (R199). -/
def rsaMessage (e : JEntry) (key salt : Bytes) : Bytes :=
  let k := rsaLen e.sub
  let alg := hashOf (e.sub.pbyte 58)
  let digest := rsaDigest e.sub (e.data 32 e.sub.inLen)
  if e.sub.pbyte 57 = 1 then emsaPkcs1 alg digest k else emsaPss alg digest salt (Nat.log2 (rsaField key 16 k)) k

theorem rsaVerifyJob_short (size : e.sub.pbyte 56 ∈ [1, 2]) (h : e.sub.inLen < 16 + 2 * rsaLen e.sub) :
    rsaVerifyJob e c = failE e ⟨0x0105, 48, 0⟩ c := if_pos ⟨by simpa using size, .inl h⟩

section
variable (ok : rsaParamOk e.sub false = true) (fixed : 16 + 2 * rsaLen e.sub ≤ e.sub.inLen)
  (given : e.sub.pbyte 59 = 1 → e.sub.inLen = 16 + 2 * rsaLen e.sub + hashLen (hashOf (e.sub.pbyte 58)))
include fixed given

/-- Check 1 of R198 passes. -/
theorem rsaVerify_sized : ¬ ((e.sub.pbyte 56 = 1 ∨ e.sub.pbyte 56 = 2) ∧ (e.sub.inLen < 16 + 2 * rsaLen e.sub ∨
    (1 ≤ e.sub.pbyte 58 ∧ e.sub.pbyte 58 ≤ 3) ∧ e.sub.pbyte 59 = 1 ∧
      e.sub.inLen ≠ 16 + 2 * rsaLen e.sub + hashLen (hashOf (e.sub.pbyte 58)))) := by
  rintro ⟨-, short | ⟨-, one, differs⟩⟩
  · exact Nat.not_lt.2 fixed short
  · exact differs (given one)

include ok

theorem rsaVerifyJob_range (range : rsaGivenRange e = false) : rsaVerifyJob e c = failE e ⟨0x0102, 32, 0⟩ c := by
  simp only [rsaGivenRange] at range
  simp only [rsaVerifyJob, if_neg (rsaVerify_sized fixed given), ok, range, Bool.not_true, Bool.not_false, Bool.false_eq_true, if_false, if_true]
  rfl

variable (range : rsaGivenRange e = true)
include range

theorem rsaVerifyJob_value (h : rsaRecovered e = none) : rsaVerifyJob e c = failE e ⟨0x0306, 0, 0⟩ c := by
  simp only [rsaGivenRange, rsaRecovered] at range h
  simp only [rsaVerifyJob, if_neg (rsaVerify_sized fixed given), ok, range, h, Bool.not_true, Bool.false_eq_true, if_false]

theorem rsaVerifyJob_checks {em z : Bytes} {c' : Channel} (h : rsaRecovered e = some em) (draw : engineDraw 0 4 c = .ok (z, c')) :
    rsaVerifyJob e c = concluded e (if rsaMatches e em then none else some ⟨0x0306, 0, 0⟩) c' := by
  simp only [rsaGivenRange, rsaRecovered] at range h
  cases good : rsaMatches e em with
  | true | false =>
    simp only [rsaMatches, rsaDigest] at good
    simp only [rsaVerifyJob, if_neg (rsaVerify_sized fixed given), ok, range, h, draw, good, Bool.not_true, Bool.false_eq_true,
      if_false, if_true]
    rfl

end

section
variable {ch : Ch} {d : Device} (ok : rsaParamOk e.sub true = true)
  (given : e.sub.pbyte 59 = 1 → e.sub.inLen = hashLen (hashOf (e.sub.pbyte 58))) (room : rsaLen e.sub ≤ e.sub.outLen)
include given

/-- Check 1 of R199 passes. -/
theorem rsaSign_sized : ¬ (e.sub.pbyte 59 = 1 ∧ e.sub.inLen ≠ hashLen (hashOf (e.sub.pbyte 58))) := fun h => h.2 (given h.1)

include ok room

theorem rsaSignJob_noKey (slot : c.keys.slot (8 + e.sub.pbyte 60) = none) : rsaSignJob ch d e c = failE e ⟨0x0102, 60, 0⟩ c := by
  simp only [rsaSignJob, ok, if_neg (rsaSign_sized given), if_neg (Nat.not_lt.2 room), slot, Bool.not_true, Bool.false_eq_true, if_false]
  rfl

variable {key : KeySlot} (slot : c.keys.slot (8 + e.sub.pbyte 60) = some key) (len : rsaSlotLen key.material = rsaLen e.sub)
include slot len

theorem rsaSignJob_stops {x : RngStop} (draw : signDraws (if e.sub.pbyte 57 = 2 then e.sub.pbyte 61 else 0) c = .error x) :
    rsaSignJob ch d e c = drawStop e x c := by
  simp only [rsaSignJob, ok, if_neg (rsaSign_sized given), if_neg (Nat.not_lt.2 room), slot, if_neg (not_not_intro len), draw, Bool.not_true,
    Bool.false_eq_true, if_false]

variable {salt : Bytes} {c' : Channel} (draw : signDraws (if e.sub.pbyte 57 = 2 then e.sub.pbyte 61 else 0) c = .ok (salt, c'))
include draw

theorem rsaSignJob_releases {sig : Bytes}
    (h : rsaPrivateChecked (rsaLen e.sub) key.material (beNat (rsaMessage e key.material salt)) = some sig) :
    rsaSignJob ch d e c = finishPlain e 0 sig c' := by
  simp only [rsaMessage, rsaDigest] at h
  simp only [rsaSignJob, ok, if_neg (rsaSign_sized given), if_neg (Nat.not_lt.2 room), slot, if_neg (not_not_intro len), draw, h, Bool.not_true,
    Bool.false_eq_true, if_false]

theorem rsaSignJob_withholds (h : rsaPrivateChecked (rsaLen e.sub) key.material (beNat (rsaMessage e key.material salt)) = none) :
    rsaSignJob ch d e c = pkeCheckFailed ch d e c' := by
  simp only [rsaMessage, rsaDigest] at h
  simp only [rsaSignJob, ok, if_neg (rsaSign_sized given), if_neg (Nat.not_lt.2 room), slot, if_neg (not_not_intro len), draw, h, Bool.not_true,
    Bool.false_eq_true, if_false]

end

/-- A job whose own check fails ends with SAFETY_HOLD and no output; the engine's queue and key block go, and the failure is counted
(R186). -/
theorem pkeCheckFailed_leaves (ch : Ch) (d : Device) (held : Holds c e) : let x := pkeCheckFailed ch d e c
    (∃ n, x.entry e.jidx = some n ∧ n.cpl.status = 0x0A00 ∧ n.cpl.detail = 0x04 ∧ n.writes = []) ∧
      x.pke.errcnt = sat16 (c.pke.errcnt + 1) ∧ x.pke.queue = [] ∧ x.pke.key = none := by
  obtain ⟨n, hn, -, status, detail, -, -, writes⟩ := entry_failJob c e.jidx ⟨0x0A00, 0x04, 0⟩ e held
  obtain ⟨r, w, -, aborted⟩ := abortQueued_eq c.pke.counted
  obtain ⟨jr, -, -⟩ := reportSafety_leaves ch d 0x04 (e.engaged.pke.getD 0 + 256 * e.engaged.pkeOp.getD 0)
    { failE e ⟨0x0A00, 0x04, 0⟩ c with pke := c.pke.counted.abortQueued }
  obtain ⟨errcnt, queue, key⟩ := reportSafety_cleared ch d 0x04 (e.engaged.pke.getD 0 + 256 * e.engaged.pkeOp.getD 0)
    (c := { failE e ⟨0x0A00, 0x04, 0⟩ c with pke := c.pke.counted.abortQueued }) (congrArg (·.queue) aborted) (congrArg (·.key) aborted)
  exact ⟨⟨n, (entry_of_jr jr _).trans hn, status, detail, writes⟩, errcnt.trans (congrArg (·.errcnt) aborted), queue, key⟩

end

/-! ### ATTEST and PUBKEY_EXPORT -/

section
variable {ch : Ch} {d : Device} {e : JEntry} {c : Channel}

theorem attestJob_noKey (h : c.keys.scalar .p384 5 = none) : attestJob ch d e c = failE e ⟨0x0102, 0, 0⟩ c := by
  simp only [attestJob, h]
  rfl

section
variable {key : Nat} (h : c.keys.scalar .p384 5 = some key)
include h

theorem attestJob_stops {x : RngStop} (draw : signFresh .p384 key (sha384 (attestBody ch d (e.data 32 32) c)) c = .error x) :
    attestJob ch d e c = drawStop e x c := by
  simp only [attestJob, h, draw]

theorem attestJob_signs {sig : Bytes} {c' : Channel}
    (draw : signFresh .p384 key (sha384 (attestBody ch d (e.data 32 32) c)) c = .ok (sig, c')) :
    attestJob ch d e c = finishPlain e 0 (attestBody ch d (e.data 32 32) c ++ sig) c' := by
  simp only [attestJob, h, draw]

end

theorem pubkeyExportJob_unlisted (h : selectorOk (e.sub.pbyte 56) = false) : pubkeyExportJob e c = failE e ⟨0x0102, 56, 0⟩ c := by
  simp only [pubkeyExportJob, h, Bool.not_false, if_true]
  rfl

section
variable (sel : selectorOk (e.sub.pbyte 56) = true)
include sel

theorem pubkeyExportJob_empty (h : ∀ p ∈ c.keys.slots, p.1 ≠ e.sub.pbyte 56) : pubkeyExportJob e c = finishPlain e 0 (zeros 16) c := by
  have none_found : c.keys.slots.find? (fun p => p.1 == e.sub.pbyte 56) = none := by simpa using h
  simp only [pubkeyExportJob, sel, none_found, Bool.not_true, Bool.false_eq_true, if_false]

theorem pubkeyExportJob_filled {p : Nat × KeySlot} (h : c.keys.slots.find? (fun p => p.1 == e.sub.pbyte 56) = some p) : pubkeyExportJob e c =
    let k := keyDescriptor (e.sub.pbyte 56) p.2
    finishPlain e k.2.length ([byte k.1, byte (if p.2.faulty then 2 else 1)] ++ zeros 6 ++ (sha256 k.2).take 8 ++ k.2) c := by
  simp only [pubkeyExportJob, sel, h, Bool.not_true, Bool.false_eq_true, if_false]

end

theorem drawStop_waits : drawStop e .waits c = c := if_neg nofun

theorem drawStop_withheld : drawStop e .withheld c = failE e ⟨0x0A00, 0x06, 0⟩ (rngIrq 4 c) := if_pos rfl

end

/-- Settles O40: each job by the end its checks, its draws and its verdict give it. -/
theorem signatureJobs : Obligations.SignatureJobs := by
  unfold Obligations.SignatureJobs
  intro s ch e
  refine ⟨fun m turn => ?sigVerify, fun m turn size short => ?rsaShort, fun m turn ok fixed given => ?rsaVerify,
    fun m turn ok given room => ?rsaSign, fun m turn => ?attest, fun m => ?pubkey⟩
  all_goals have held := m.2.1
  case sigVerify =>
    have run := ends_engineJob (f := fun _ => sigVerifyJob) (i := .sigVerify ch e.jidx) m turn rfl
    refine ⟨fun f hf => ?param, fun param => ⟨fun src => ?given, fun src k check suite recent => ?record,
      fun src => ⟨fun slot => ?noAnchor, fun k slot len => ?anchor⟩⟩⟩
    case param => exact fails_of_failE held (sigVerifyJob_param hf ▸ run)
    case given => exact concludes_of_concluded held (sigVerifyJob_given param src ▸ run)
    case record =>
      obtain ⟨l, hl⟩ := touchCache_cache s.dev e (turned e (s.chan ch))
      rw [sigVerifyJob_record (c := turned e (s.chan ch)) param src check suite recent hl] at run
      exact concludes_of_concluded held run
    case noAnchor => exact fails_of_failE held (sigVerifyJob_noAnchor param src slot ▸ run)
    case anchor => exact concludes_of_concluded held (sigVerifyJob_anchor param src slot len ▸ run)
  case rsaShort =>
    have run := ends_engineJob (f := fun _ _ => rsaVerifyJob) (i := .rsaVerify ch e.jidx) m turn rfl
    exact fails_of_failE held (rsaVerifyJob_short size short ▸ run)
  case rsaVerify =>
    have run := ends_engineJob (f := fun _ _ => rsaVerifyJob) (i := .rsaVerify ch e.jidx) m turn rfl
    refine ⟨fun range => ?badRange, fun range => ?checks⟩
    case badRange => exact fails_of_failE held (rsaVerifyJob_range ok fixed given range ▸ run)
    case checks =>
      split
      next value => exact fails_of_failE held (rsaVerifyJob_value ok fixed given range value ▸ run)
      next em value =>
        intro z c' draw
        rw [rsaVerifyJob_checks ok fixed given range value draw] at run
        obtain ⟨g, rfl⟩ := engineDraw_rng draw
        have ends := concludes_of_concluded held run
        show if rsaMatches e em = true then _ else _
        split
        next good => rwa [if_pos good] at ends
        next bad => rwa [if_neg bad] at ends
  case rsaSign =>
    have run := ends_engineJobS (f := rsaSignJob) (i := .rsaSign ch e.jidx) m turn rfl
    refine ⟨fun slot => ?noKey, fun key slot len => ⟨fun draw => ?stops, fun salt c' draw => ?draws⟩⟩
    case noKey => exact fails_of_failES held (rsaSignJob_noKey ok given room slot ▸ run)
    case stops => rwa [rsaSignJob_stops ok given room slot len draw, drawStop_waits] at run
    case draws =>
      obtain ⟨g, rfl⟩ := signDraws_rng draw
      intro em
      split
      next sig h => exact answers_of_finishPlainS held (rsaSignJob_releases ok given room slot len draw h ▸ run)
      next h =>
        rw [rsaSignJob_withholds ok given room slot len draw h] at run
        obtain ⟨⟨n, hn, status, detail, writes⟩, errcnt, queue, key⟩ :=
          pkeCheckFailed_leaves (e := e) (c := { turned e (s.chan ch) with rng := g }) ch s.dev held
        refine ⟨_, n, run, entry_collect hn, status, detail, writes, ?_⟩
        rw [collect_same, setChan_same]
        exact ⟨errcnt, queue, key⟩
  case attest =>
    have run := ends_engineJob (f := attestJob) (i := .attest ch e.jidx) m turn rfl
    refine ⟨fun h => ?noKey, fun key h => ⟨fun sig c' draw => ?signs, fun draw => ?waits, fun draw => ?withheld⟩⟩
    case noKey => exact fails_of_failE held (attestJob_noKey h ▸ run)
    case signs =>
      rw [attestJob_signs h draw] at run
      obtain ⟨g, rfl⟩ := signLoop_rng draw
      exact answers_of_finishPlain held run
    case waits => rwa [attestJob_stops h draw, drawStop_waits] at run
    case withheld =>
      rw [attestJob_stops h draw, drawStop_withheld] at run
      exact fails_of_failE held run
  case pubkey =>
    have run := ends_job (f := fun _ _ => pubkeyExportJob) (i := .pubkeyExport ch e.jidx) m rfl
    refine ⟨fun h => ?unlisted, fun sel h => ?empty, fun p sel h => ?filled⟩
    case unlisted => exact fails_of_failE held (pubkeyExportJob_unlisted h ▸ run)
    case empty => exact answers_of_finishPlain held (pubkeyExportJob_empty (c := s.chan ch) sel h ▸ run)
    case filled => exact answers_of_finishPlain held (pubkeyExportJob_filled (c := s.chan ch) sel h ▸ run)

end Sys2Proof.Machine
end

section
/-! SUPPORT. A message of the cipher engine under a key of no AES length (R202): its output is shorter than its input, so an uncorrectable
word that the input's length covers whole is covered in part by what is written, and the write is refused (R336, R337). -/
namespace Sys2Proof.Machine
open Sys2Proof.Says

/-- A context with a GCM encryption open under a key of 5 bytes, set for one block. -/
def shortKeyed : Cx := { st := .opened, cfg := 3, key := zeros 5, len := 16, src := 0x100000, dst := 0x100010 }

/-- A channel whose engine runs with that context, and an uncorrectable word at the block's destination. -/
def shortKeyedChannel : Channel :=
  { ce := { en := true, cxs := (Vector.replicate 8 {}).set 0 shortKeyed }, table := { badWords := [0x100010] } }

/-- The part after reset, with that channel. -/
def shortKeyedState : State := setChan State.reset 0 shortKeyedChannel

/-- The block's output: 4 bytes, as many as the last round key has. -/
def shortKeyedOutput : Bytes :=
  (aesCtrFrom shortKeyed.key shortKeyed.msg.chain (shortKeyedChannel.bytesAt shortKeyed.src shortKeyed.len)).1

/-- The destination takes 16 bytes, but not the output: its 4 bytes cover the uncorrectable word in part. -/
theorem partWordBad_shortKeyed : partWordBad shortKeyedChannel.table shortKeyed.dst shortKeyed.len = none ∧
    partWordBad shortKeyedChannel.table shortKeyed.dst shortKeyedOutput.length = some shortKeyed.dst := by decide +kernel

/-- The refused write ends the message with ADDRESS (R203) and leaves memory empty. -/
theorem data_shortKeyed : Gives (.data 0 0 false none) shortKeyedState 0 fun y => y.mem = [] ∧ (y.ce.cxs.get 0).outcome = 8 :=
  ⟨_, rfl, by decide +kernel⟩

theorem store_shortKeyed : (shortKeyedChannel.store shortKeyed.dst shortKeyedOutput).mem ≠ [] := by decide +kernel

/-- A command ends in one state, so what two accounts say of it holds together. -/
theorem gives_and {i : Instr} {s : State} {ch : Ch} {P Q : Channel → Prop} (hp : Gives i s ch P) (hq : Gives i s ch Q) :
    ∃ y, P y ∧ Q y := by
  obtain ⟨t, ends, p⟩ := hp
  obtain ⟨t', ends', q⟩ := hq
  obtain rfl : t = t' := Host.Outcome.next.inj (ends.symm.trans ends')
  exact ⟨_, p, q⟩

/-- Refutes O48: the clause on DATA in GCM takes the context's key as it stands. Under one of 5 bytes, which no KEYLOAD leaves, the engine
writes 4 bytes where the clause's checks of the destination speak of 16. -/
theorem not_cipherRows : ¬ Obligations.CipherRows := by
  unfold Obligations.CipherRows
  intro h
  have hc : shortKeyedState.chan 0 = shortKeyedChannel := setChan_same _ _ _
  have rows := h shortKeyedState 0 0 rfl
  rw [hc] at rows
  extract_lets c e x idle unnamed set1 reads strikes at rows
  obtain ⟨-, -, -, -, -, -, -, -, -, -, commands, -⟩ := rows
  have quiet : idle := ⟨rfl, rfl, by decide⟩
  have jobless : unnamed := fun _ claimed => nomatch claimed
  have readable : reads x.src x.len := ⟨by decide +kernel, by decide⟩
  obtain ⟨-, -, -, -, -, data, -⟩ := commands quiet jobless rfl false
  obtain ⟨-, gcm⟩ := data rfl rfl (by decide) (by decide) readable
  obtain ⟨whole, -⟩ := partWordBad_shortKeyed
  obtain ⟨y, ⟨stored, -, -⟩, empty, -⟩ :=
    gives_and (gcm rfl (by decide) (by decide) (.inr (.inr (by decide))) (by decide +kernel) whole) data_shortKeyed
  exact store_shortKeyed (stored.symm.trans empty)

end Sys2Proof.Machine
end

section
/-! SUPPORT. The settlement jobs, an equation a case: what they check of the record and its account, the statement that waits for its
signature, and the effect that commits record and account together (R227 to R249). -/
namespace Sys2Proof.Machine
open Sys2Proof.Says

/-! ### A job whose channel may report to function 0 -/

section
variable {s : State} {ch : Ch} {e : JEntry} {i : Instr} {op : Nat} {c : Channel}

/-- Such a job that may run ends with its meaning applied to its channel, and the reports passed on. -/
theorem ends_jobS {f : Ch → Device → JEntry → Channel → Channel} (m : MayRun s ch e op)
    (hx : exec i s = .next (onChanS ch (fun ch d c => runJob op e.jidx (f ch d) c) s)) :
    Ends i s (collect ch (setChan s ch (f ch s.dev e (s.chan ch)))) := by
  obtain ⟨en, held, ready⟩ := m
  rw [Ends, hx, onChanS, onChan_enabled _ _ _ en, runJob_ready held ready]

theorem stages_of_stageJobS {x : Effect} {P : Effect → Prop} (held : Holds (s.chan ch) e) (hc : e.state = .claimed)
    (run : Ends i s (collect ch (setChan s ch (stageJob e.jidx x c)))) (hp : P x) (hj : c.jr = (s.chan ch).jr := by rfl)
    (hu : Untouched (s.chan ch) c := by exact ⟨rfl, rfl, rfl, rfl, rfl⟩) (hs : x.basisShard = (s.chan ch).shard := by rfl)
    (hg : x.basisGov = (s.chan ch).gov := by rfl) : Stages i s ch e P := by
  refine ⟨_, _, x, run, entry_collect (entry_stageJob c e.jidx x e ((entry_of_jr hj _).trans held)), hc, rfl, ?_, hs, hg, hp⟩
  rw [collect_same, setChan_same]
  exact hu

/-- SETTLE_RUN, with no earlier one that still runs (R237). -/
theorem ends_settleRun (m : MayRun s ch e 0x0601) (free : settleBusy (s.chan ch) e = false) :
    Ends (.settleRun ch e.jidx) s (collect ch (setChan s ch (settleRunJob ch s.dev e (s.chan ch)))) := by
  have run := ends_jobS (f := fun ch d e c => if settleBusy c e then c else settleRunJob ch d e c) (i := .settleRun ch e.jidx) m rfl
  rwa [if_neg (by simp [free])] at run

/-! ### The channel after the look-up of the record -/

theorem seen_jr (s : State) (ch : Ch) (e : JEntry) : (seen s ch e).jr = (s.chan ch).jr := by
  obtain ⟨l, looked⟩ := touchCache_cache s.dev e (s.chan ch)
  rw [seen, looked]

theorem seen_untouched (s : State) (ch : Ch) (e : JEntry) : Untouched (s.chan ch) (seen s ch e) := by
  obtain ⟨l, looked⟩ := touchCache_cache s.dev e (s.chan ch)
  rw [seen, looked]
  exact ⟨rfl, rfl, rfl, rfl, rfl⟩

end

section
variable {ch : Ch} {d : Device} {e : JEntry} {c x : Channel} {k : RecCheck} {a : Account} {p : Program} {n : MRec} {seq : Nat}

/-! ### What the jobs share -/

/-- A signed statement reaches the noise source alone. -/
theorem signStatement_rng {key : Nat} {head st : Bytes} {c' : Channel} (h : signStatement key head c = .ok (st, c')) :
    ∃ g, c' = { c with rng := g } := by
  unfold signStatement at h
  split at h
  · cases h
  · split at h
    next => cases h
    next signed =>
      cases h
      exact signLoop_rng signed

/-- The effect `x` makes `outBytes` of output and asks for no grant, and changes the record to `r` and the account in one commit, at the
epoch after that of the channel `c` (R230). -/
def CommitsBoth (outBytes : Nat) (r : MRec) (c : Channel) (x : Effect) : Prop :=
  x.units = 0 ∧ x.cpl.outBytes = outBytes ∧ ∃ l, x.leaf = some l ∧
    l.record = some { r with lastEpoch := (c.shard.epoch + 1) % 2 ^ 32 } ∧ l.account.isSome = true

theorem stageSettle_commitsBoth (ch : Ch) (d : Device) (e : JEntry) (k : RecCheck) (r : MRec) (addr : Nat) (a : Account) (outBytes : Nat)
    (out : List HostWrite) (c : Channel) : ∃ x, stageSettle ch d e k r addr a 0 outBytes out c = stageJob e.jidx x c ∧
      x.basisShard = c.shard ∧ x.basisGov = c.gov ∧ CommitsBoth outBytes r c x :=
  ⟨_, rfl, rfl, rfl, rfl, rfl, _, rfl, rfl, rfl⟩

theorem stages_of_stageSettle {s : State} {i : Instr} {r : MRec} {addr outBytes : Nat} {out : List HostWrite} (held : Holds (s.chan ch) e)
    (hc : e.state = .claimed) (run : Ends i s (setChan s ch (stageSettle ch d e k r addr a 0 outBytes out c))) (hj : c.jr = (s.chan ch).jr)
    (hu : Untouched (s.chan ch) c) : Stages i s ch e (CommitsBoth outBytes r c) := by
  obtain ⟨x, staged, basisShard, basisGov, both⟩ := stageSettle_commitsBoth ch d e k r addr a outBytes out c
  have ⟨shard, gov, _⟩ := hu
  exact stages_of_stageJob held hc (staged ▸ run) both hj hu (basisShard.trans shard) (basisGov.trans gov)

theorem withSettle_ok {f : RecCheck → Account → Program → Channel → Channel} (checked : recordCheck c e.sub e.wrapped e.proof = .ok k)
    (looked : touchCache d e c = x) (account : accountCheck x k.record (e.data 56 224) = .ok a)
    (program : jobProgram x a.program e.serial = some p) (layout : p.layout = a.layout) : withSettle d e f c = f k a p x := by
  simp only [withSettle, withRecord_ok checked, looked, account, program, if_neg (not_not_intro layout)]

section
variable (checked : recordCheck c e.sub e.wrapped e.proof = .ok k) (looked : touchCache d e c = x)
include checked looked

/-! ### SETTLE_OPEN -/

/-- The statement that opens an account (R247). -/
def openHead (ch : Ch) (d : Device) (e : JEntry) (p : Program) (seq : Nat) : Bytes :=
  statementHead ch d p e.sub.meter (2 ^ 31 + seq) 0xFF 3 (int32 (fieldLE (e.data 32 16) 4 4)) 0xFFFFFFFF 0 0

theorem settleOpenJob_open (opened : refOpen k.record.settleRef = true) : settleOpenJob ch d e c = failE e ⟨0x0102, 12, 0⟩ x := by
  simp only [settleOpenJob, withRecord_ok checked, looked, if_pos opened]
  rfl

section
variable (reserve : reserveIn x.shard (x.gov.soloNow d.tick) k.record = .ok n) (closed : refOpen k.record.settleRef = false)
  (zero2 : slice (e.data 32 16) 2 2 = zeros 2) (zero8 : slice (e.data 32 16) 8 8 = zeros 8)
  (program : jobProgram x (fieldLE (e.data 32 16) 0 2) e.serial = some p) (next : nextSeq k.record.settleRef = some seq)
  {key : Nat} (signer : statementKey x = some key)
include reserve closed zero2 zero8 program next signer

theorem settleOpenJob_stops {w : RngStop} (sign : signStatement key (openHead ch d e p seq) x = .error w) :
    settleOpenJob ch d e c = drawStop e w x := by
  rw [openHead] at sign
  simp only [settleOpenJob, withRecord_ok checked, looked, closed, zero2, zero8, program, next, signer, reserve, sign, ne_eq, not_true,
    or_self, Bool.false_eq_true, if_false]

theorem settleOpenJob_signs {st : Bytes} {c' : Channel} (sign : signStatement key (openHead ch d e p seq) x = .ok (st, c')) :
    ∃ a out, settleOpenJob ch d e c = stageSettle ch d e k { n with settleRef := 2 ^ 31 + seq } e.sub.outAddr a 0 384 out c' := by
  rw [openHead] at sign
  simp only [settleOpenJob, withRecord_ok checked, looked, closed, zero2, zero8, program, next, signer, reserve, sign, ne_eq, not_true,
    or_self, Bool.false_eq_true, if_false]
  exact ⟨_, _, rfl⟩

end

section
variable (account : accountCheck x k.record (e.data 56 224) = .ok a) (program : jobProgram x a.program e.serial = some p)
  (layout : p.layout = a.layout)
include account program layout

/-! ### SETTLE_ADJUST -/

/-- The amount that SETTLE_ADJUST adds to the balance (R248). -/
def adjustAmount (e : JEntry) : Int := int32 (fieldLE (e.data 32 16) 0 4)

/-- SETTLE_ADJUST refuses its input: a reserved word, an amount beyond the program's limit, or a balance of no 32 bits (R248). -/
abbrev AdjustRefused (e : JEntry) (a : Account) (p : Program) : Prop :=
  slice (e.data 32 16) 4 4 ≠ zeros 4 ∨ p.maxAdjust < (adjustAmount e).natAbs ∨ a.balance + adjustAmount e < -2 ^ 31 ∨
    2 ^ 31 ≤ a.balance + adjustAmount e

/-- The statement of an adjustment (R248). -/
def adjustHead (ch : Ch) (d : Device) (e : JEntry) (a : Account) (p : Program) (seq : Nat) : Bytes :=
  statementHead ch d p e.sub.meter (2 ^ 31 + seq) 0xFF 2 (a.balance + adjustAmount e) 0xFFFFFFFF 0 (fieldLE (e.data 32 16) 8 8)

theorem settleAdjustJob_refused (refused : AdjustRefused e a p) : settleAdjustJob ch d e c = failE e ⟨0x0102, 32, 0⟩ x := by
  rw [settleAdjustJob, withSettle_ok checked looked account program layout]
  exact if_pos refused

theorem settleAdjustJob_signs (reserve : reserveIn x.shard (x.gov.soloNow d.tick) k.record = .ok n) (taken : ¬ AdjustRefused e a p)
    (next : nextSeq a.ref = some seq) {key : Nat} (signer : statementKey x = some key) {st : Bytes} {c' : Channel}
    (sign : signStatement key (adjustHead ch d e a p seq) x = .ok (st, c')) :
    ∃ b out, settleAdjustJob ch d e c = stageSettle ch d e k { n with settleRef := 2 ^ 31 + seq } e.sub.param b 0 160 out c' := by
  rw [adjustHead, adjustAmount] at sign
  rw [AdjustRefused, adjustAmount] at taken
  rw [settleAdjustJob, withSettle_ok checked looked account program layout]
  simp only [if_neg taken, next, signer, reserve, sign]
  exact ⟨_, _, rfl⟩

/-! ### SETTLE_CLOSE -/

/-- The statement that closes an account (R249). -/
def closeHead (ch : Ch) (d : Device) (e : JEntry) (a : Account) (p : Program) (seq : Nat) : Bytes :=
  statementHead ch d p e.sub.meter seq 0xFF 4 a.balance 0xFFFFFFFF 0 0

theorem settleCloseJob_signs (reserve : reserveIn x.shard (x.gov.soloNow d.tick) k.record = .ok n) (next : nextSeq a.ref = some seq)
    {key : Nat} (signer : statementKey x = some key) {st : Bytes} {c' : Channel}
    (sign : signStatement key (closeHead ch d e a p seq) x = .ok (st, c')) : settleCloseJob ch d e c =
      stageJob e.jidx (recordEffect ch d e k.leaf { n with settleRef := seq } (plainEffect e 0 0 0 st c') c') c' := by
  rw [closeHead] at sign
  rw [settleCloseJob, withSettle_ok checked looked account program layout]
  simp only [next, signer, reserve, sign]

/-! ### SETTLE_RUN -/

/-- SETTLE_RUN from its calls on (R238 to R246). -/
def runFromCalls (ch : Ch) (d : Device) (e : JEntry) (k : RecCheck) (a : Account) (p : Program) (seq : Nat) (samples : List (List Int))
    (c : Channel) : Channel :=
  match runProgram ch d p a samples c with
  | .error (f, x) => failE e f x
  | .ok r => settleActions ch d e k a p seq samples r r.chan

section
variable (next : nextSeq a.ref = some seq)
include next

theorem settleRunJob_input {f : Fail} (bad : jobSamples x p e a.lastMin = .error f) : settleRunJob ch d e c = failE e f x := by
  rw [settleRunJob, withSettle_ok checked looked account program layout]
  simp only [next, bad]

theorem settleRunJob_idle (none_left : jobSamples x p e a.lastMin = .ok []) :
    settleRunJob ch d e c = runFromCalls ch d e k a p seq [] x := by
  rw [settleRunJob, withSettle_ok checked looked account program layout]
  simp only [next, none_left, List.isEmpty_nil, if_true, Nat.zero_mul, Nat.not_lt_zero, if_false]
  rfl

section
variable {samples : List (List Int)} (some_left : samples ≠ []) (given : jobSamples x p e a.lastMin = .ok samples)
include some_left given

theorem settleRunJob_long (long : 12000000 < (samples.length + 1) * p.cycleLimit) :
    settleRunJob ch d e c = failE e ⟨0x0105, 48, 0⟩ x := by
  have calls : samples.isEmpty = false := by simpa using some_left
  rw [settleRunJob, withSettle_ok checked looked account program layout]
  simp only [next, given, calls, Bool.false_eq_true, if_false, if_pos long]

theorem settleRunJob_calls (fits : (samples.length + 1) * p.cycleLimit ≤ 12000000) :
    settleRunJob ch d e c = runFromCalls ch d e k a p seq samples x := by
  have calls : samples.isEmpty = false := by simpa using some_left
  rw [settleRunJob, withSettle_ok checked looked account program layout]
  simp only [next, given, calls, Bool.false_eq_true, if_false, if_neg (Nat.not_lt.2 fits)]
  rfl

end
end
end
end

theorem owedList_zero : owedList 0 = [] := by simp [owedList, bit]

/-- Without samples and owed actions no action takes effect, and the output is the header of 32 bytes (R246). -/
theorem runFromCalls_idle (reserve : reserveIn c.shard (c.gov.soloNow d.tick) k.record = .ok n) (owed : a.owed = 0) :
    ∃ m b out, runFromCalls ch d e k a p seq [] c =
      stageSettle ch d e k { n with settleRef := 2 ^ 31 + seq } e.sub.param b 0 32 out { c with mem := m } := by
  have ran : runProgram ch d p a [] c = .ok { chan := { c with mem := loadRun a [] c.mem }, armed := a.armed } := rfl
  simp only [runFromCalls, ran, settleActions, owed, owedList_zero, reserve]
  exact ⟨_, _, _, rfl⟩

end

/-- Settles O39: each job by the end its checks, its draws and its samples give it. -/
theorem settlementJobs : Obligations.SettlementJobs := by
  unfold Obligations.SettlementJobs
  intro s ch e k n c b stamp checked reserve
  have jr := seen_jr s ch e
  have kept := seen_untouched s ch e
  have ⟨shard, gov, _⟩ := kept
  refine ⟨fun m => ⟨fun opened => ?opened,
      fun p seq key closed zero2 zero8 program next signer => ⟨fun sign => ?openWaits, fun st c' sign => ?opens⟩⟩,
    fun a p account program layout => ⟨fun m => ⟨fun refused => ?refused, fun seq key zero max low high next signer st c' sign => ?adjusts⟩,
      fun m seq key next signer st c' sign => ?closes, fun m free seq next => ?runs⟩⟩
  all_goals
    have ⟨_, held, ready⟩ := m
    have cl := claimed_of_ready ready
  case opened =>
    have run := ends_job (f := settleOpenJob) (i := .settleOpen ch e.jidx) m rfl
    exact fails_of_failE held (settleOpenJob_open checked rfl opened ▸ run) jr kept
  case openWaits =>
    have run := ends_job (f := settleOpenJob) (i := .settleOpen ch e.jidx) m rfl
    rwa [settleOpenJob_stops checked rfl reserve closed zero2 zero8 program next signer sign, drawStop_waits] at run
  case opens =>
    have run := ends_job (f := settleOpenJob) (i := .settleOpen ch e.jidx) m rfl
    obtain ⟨a, out, opens⟩ := settleOpenJob_signs checked rfl reserve closed zero2 zero8 program next signer sign
    obtain ⟨g, rfl⟩ := signStatement_rng sign
    rw [opens] at run
    exact stages_of_stageSettle held cl run jr kept
  case refused =>
    have run := ends_job (f := settleAdjustJob) (i := .settleAdjust ch e.jidx) m rfl
    exact fails_of_failE held (settleAdjustJob_refused checked rfl account program layout refused ▸ run) jr kept
  case adjusts =>
    have run := ends_job (f := settleAdjustJob) (i := .settleAdjust ch e.jidx) m rfl
    have taken : ¬ AdjustRefused e a p :=
      not_or_intro (not_not_intro zero) (not_or_intro (Nat.not_lt.2 max) (not_or_intro (Int.not_lt.2 low) (Int.not_le.2 high)))
    obtain ⟨b, out, adjusts⟩ := settleAdjustJob_signs checked rfl account program layout reserve taken next signer sign
    obtain ⟨g, rfl⟩ := signStatement_rng sign
    rw [adjusts] at run
    exact stages_of_stageSettle held cl run jr kept
  case closes =>
    have run := ends_job (f := settleCloseJob) (i := .settleClose ch e.jidx) m rfl
    rw [settleCloseJob_signs checked rfl account program layout reserve next signer sign] at run
    obtain ⟨g, rfl⟩ := signStatement_rng sign
    exact stages_of_stageJob held cl run ⟨rfl, _, rfl, rfl, rfl⟩ jr kept shard gov
  case runs =>
    have run := ends_settleRun m free
    split
    next f input => exact fails_of_failES held (settleRunJob_input checked rfl account program layout next input ▸ run) jr kept
    next samples given =>
      refine ⟨fun none_left owed => ?idle, fun some_left long => ?long, fun some_left fits => ?calls⟩
      case idle =>
        obtain ⟨mem, b, out, idle⟩ := runFromCalls_idle (ch := ch) (e := e) (p := p) (seq := seq) reserve owed
        obtain ⟨x, staged, basisShard, basisGov, both⟩ :=
          stageSettle_commitsBoth ch s.dev e k { n with settleRef := 2 ^ 31 + seq } e.sub.param b 32 out { c with mem := mem }
        rw [(settleRunJob_idle checked rfl account program layout next (none_left ▸ given)).trans (idle.trans staged)] at run
        exact stages_of_stageJobS held cl run both jr kept (basisShard.trans shard) (basisGov.trans gov)
      case long =>
        exact fails_of_failES held (settleRunJob_long checked rfl account program layout next some_left given long ▸ run) jr kept
      case calls => rwa [settleRunJob_calls checked rfl account program layout next some_left given fits] at run

end Sys2Proof.Machine
end
